-- ==== Sys2Proof/Word.lean ====
section
/-! DEFINITION. Word types of the module: bytes, 64-bit values, and the 72-bit tagged word of R54. -/

namespace Sys2Proof

/-- One byte, as frames, images and records carry them. -/
abbrev Byte := BitVec 8

/-- The 64 value bits of a tagged word (R54). -/
abbrev Word := BitVec 64

/-- A sequence of bytes, lowest address (first sent) first. -/
abbrev Bytes := List Byte

/-- A tagged word (R54): the value, bits [63:0], and the tag byte, bits [71:64]. -/
structure TW where
  val : Word
  tag : BitVec 8
  deriving DecidableEq, Repr, Inhabited

end Sys2Proof
end

