-- ==== Sys2Proof/Syntax.lean ====
section
/-! DEFINITION. The commands. -/

namespace Sys2Proof

/-- A general register g0 to g63 (R62). -/
abbrev GReg := Fin 64

/-- What disturbs a unit between its last token and this one: stored bits of a register-file word flip (R95, R105); a
register takes a wrong word (R202); bits of an entry of the delay FIFO flip (R206: 80 stored bits, then the 10 of parity);
the instruction's read of memory reaches the word whose address differs by these bits (R106); lanes of a token on core 1's
path to the comparator flip, once so many of its tokens have passed (R207). -/
inductive Hit where
  | file (core : Bool) (r : GReg) (flips : BitVec 80)
  | latch (core : Bool) (r : GReg) (flips : BitVec 72)
  | fifo (entry : Fin 8) (flips : BitVec 90)
  | addr (flips : BitVec 32)
  | token (after : Nat) (flips : BitVec 72)
  deriving DecidableEq, Repr

/-- A write of the clear request of an analogue input (R398): in a session, or of ALP.AISTn.CLR by the supervisor pair. -/
structure ClearWrite where
  ch : Fin 8
  sess : Option Nat
  deriving DecidableEq, Repr

/-- What an FSK modem receives (R399, R401): the signal in mV peak to peak, or the bytes of a frame with its preamble. -/
inductive FskRx where
  | carrier (mV : Nat)
  | frame (bytes : Bytes)
  deriving DecidableEq, Repr

/-- The unit an instruction runs on, CP0 to CP11 or 12 for SP (R229); on a split pair only, the core (R224); and the
disturbances that precede it, none as a rule. -/
structure CoreId where
  unit : Fin 13
  core : Bool
  hits : List Hit := []
  deriving DecidableEq, Repr

/-- The second source of formats A and B (R62): a register with the fields that follow it, or imm18. -/
inductive Src2 where
  | reg (rs2 : GReg) (mod : BitVec 6)
  | imm (i : BitVec 18)
  deriving DecidableEq, Repr

/-- An Eweox frame as a lane delivers it (R232): its tagged words and the CRC-32C trailer. -/
structure EwxFrame where
  words : List TW
  crc : BitVec 32
  deriving DecidableEq, Repr

/-- A CAN frame on a bus (R359): `dlc` as received, `data` the bytes that it gives. -/
structure CanFrame where
  id : BitVec 29
  ide : Bool
  fdf : Bool
  brs : Bool
  esi : Bool
  rtr : Bool
  dlc : BitVec 4
  data : Bytes
  deriving DecidableEq, Repr

/-- What ISO 11898-1, which R379 names, makes of an error in the error counters: nothing, receive counter plus 1 or
plus 8, transmit counter plus 8. -/
inductive CanCount where
  | none | rec1 | rec8 | tec8
  deriving DecidableEq, Repr

/-- A bus error that a channel detects: its code and phase (R383, fields LEC and DLEC), and its count. -/
structure CanErr where
  code : BitVec 4
  data : Bool
  count : CanCount
  deriving DecidableEq, Repr

/-- A miss of the injection test (R221): of a comparator lane or two-rail checker, or of a FIFO entry. -/
structure InjMiss where
  lane : Option (Fin 72) := none
  rail : Bool := false
  fifo : Option (Fin 8) := none
  deriving DecidableEq, Repr, Inhabited

/-- What the tests and measurements of BOOT find (R46, R47), in the order of its steps: the cell voltage in mV and the
position strap (step 3); what the supervisor pair's injection test misses (4); the firmware slots, a bit each, that do not
read back as written (5); the word at which the March test fails, with the stored bits that it finds wrong (6); the pairs whose injection tests miss something (7); the clusters measured
at maximum voltage, with their speed (8); a failed time-base cross-check (9); the
check-value engines that fail their self-test, a bit each (10); a failed AO, AI or CAN self-test and the lanes
that train (13). -/
structure BootEnv where
  cellMv : BitVec 16
  pos : Bool
  spInj : InjMiss
  fwBack : BitVec 2
  march : Option (BitVec 32 × BitVec 80)
  pairInj : List (Fin 12 × InjMiss)
  slow : List (Fin 3 × BitVec 16)
  time : Bool
  cvu : BitVec 4
  iface : Bool
  laneA : Bool
  laneB : Bool
  deriving DecidableEq, Repr, Inhabited

/-- A detection (R217, R266): its row of R266 and, for one of the lockstep hardware, the unit, the KIND, the differing
lanes, the instruction address and privilege of the token and the address of its access. -/
structure Detection where
  row : Fin 14
  unit : Fin 13
  kind : BitVec 4
  lanes : BitVec 72
  iaddr : BitVec 22
  priv : Bool
  addr : BitVec 32
  deriving DecidableEq, Repr

/-- A VOP request as it is taken (R326): session, request identifier, object, data; whether the rest of the header is in
order; how many requests wait in the module and how many of the session are outstanding when it arrives (R327). -/
structure VopReq where
  sess : Nat
  id : BitVec 16
  index : BitVec 16
  sub : BitVec 8
  data : Bytes
  wellFormed : Bool
  waiting : Nat
  outstanding : Nat
  deriving DecidableEq, Repr

/-- A frame on the channel of VOP-C (R331): its identifier, bit 31 set for one of 29 bits, and its bytes. -/
structure VopcFrame where
  id : BitVec 32
  bytes : Bytes
  deriving DecidableEq, Repr

/-- The Ethernet header of a peer-data frame (R317, R322): destination group, source address, and the four bytes of a VLAN
tag or none. -/
structure PeerHead where
  group : Bytes
  src : Bytes
  tag : Bytes
  deriving DecidableEq, Repr

/-- A transaction on the maintenance bus (R495): a pointer byte and data bytes, or a read of so many bytes. -/
inductive MnbOp where
  | write (ptr : Byte) (data : Bytes)
  | read (count : Nat)
  deriving DecidableEq, Repr

/-- Instructions of the TAP (R497). -/
inductive TapKind where
  | bypass | idcode | sample | extest | clamp | highz | dap
  deriving DecidableEq, Repr

/-- The commands, one per row of the opcode table, with the rule that gives the row; those with operands first. An
instruction comes decoded, without the format and the mod bits of which the spec offers several. DESIGN CHOICE (log 6).
DEDUCED (log 118). -/
inductive Instr where
  /-- `SUPPLY_RETURN` (R463). -/
  | supplyReturn (a b : Bool)
  /-- `BOOT_END` (R47). -/
  | bootEnd (env : BootEnv)
  /-- `FEEDS_LOW_WARNING` (R463). -/
  | feedsLowWarning (va vb : BitVec 16)
  /-- `SINGLE_FEED_LOSS` (R486). -/
  | singleFeedLoss (f : Fin 2) (va vb : BitVec 16)
  /-- `SINGLE_FEED_RETURN` (R486). -/
  | singleFeedReturn (f : Fin 2) (va vb : BitVec 16)
  /-- `JOIN` (R52). -/
  | join (sess : Nat)
  /-- `START` (R52). -/
  | start (sess : Nat)
  /-- `ISOLATE` (R52). -/
  | isolate (sess : Nat)
  /-- `ISOLATE_SOLO` (R52). -/
  | isolateSolo (sess : Nat)
  /-- `ISOLATE_SOLO_LAPSE` (R52). -/
  | isolateSoloLapse (sess : Nat)
  /-- `SWAP` (R243). -/
  | swap (sess : Nat)
  /-- `RESTART` (R52). -/
  | restart (sess : Nat)
  /-- `SAFE` (R52). -/
  | safe (sess : Nat)
  /-- `AUTHENTICATED_RESET` (R45). -/
  | authenticatedReset (sess : Nat) (count : BitVec 32) (cause : BitVec 8)
  /-- `MODE_REQUEST` (R51). -/
  | modeRequest (w : BitVec 32)
  /-- `LATCHING_FAULT` (R38). -/
  | latchingFault (d : Detection)
  /-- `HEARTBEAT` (R234). -/
  | heartbeat (lane : Fin 2) (f : EwxFrame)
  /-- `LANE_DOWN` (R231). -/
  | laneDown (lane : Fin 2)
  /-- `LANE_TRAINING` (R231). -/
  | laneTraining (lane : Fin 2)
  /-- `EXIT` (R245). -/
  | exit (lane : Fin 2) (f : EwxFrame)
  /-- `START_CLAIM` (R242). -/
  | startClaim (lane : Fin 2) (f : EwxFrame)
  /-- `SWAP_PROPOSAL` (R243). -/
  | swapProposal (lane : Fin 2) (f : EwxFrame)
  /-- `SWAP_ACCEPTANCE` (R243). -/
  | swapAcceptance (lane : Fin 2) (f : EwxFrame)
  /-- `SWAP_CONFIRMATION` (R243). -/
  | swapConfirmation (lane : Fin 2) (f : EwxFrame)
  /-- `SNAPSHOT` (R244). -/
  | snapshot (lane : Fin 2) (f : EwxFrame)
  /-- `TRIGGER` (R133). -/
  | trigger (lane : Fin 2) (f : EwxFrame)
  /-- `AOCMD` (R245). -/
  | aocmd (lane : Fin 2) (f : EwxFrame)
  /-- `SEAL` (R247). -/
  | seal (lane : Fin 2) (f : EwxFrame)
  /-- `SEAL_RECORD_MISSING` (R247). -/
  | sealRecordMissing (task : Fin 24)
  /-- `TARGETED_SELF_TEST_END` (R249). -/
  | targetedSelfTestEnd (comparator fifo : Bool)
  /-- `DIAG` (R250). -/
  | diag (lane : Fin 2) (f : EwxFrame)
  /-- `WEIR` (R147). -/
  | weir (lane : Fin 2) (f : EwxFrame)
  /-- `SYNCDATA` (R252). -/
  | syncdata (lane : Fin 2) (f : EwxFrame)
  /-- `SYNCCTL` (R252). -/
  | syncctl (lane : Fin 2) (f : EwxFrame)
  /-- `MIRROR` (R446). -/
  | mirror (lane : Fin 2) (f : EwxFrame)
  /-- `OBJECT` (R233). -/
  | object (lane : Fin 2) (f : EwxFrame)
  /-- `MANIFEST` (R259). -/
  | manifest (lane : Fin 2) (f : EwxFrame)
  /-- `ECHO` (R344). -/
  | echo (lane : Fin 2) (f : EwxFrame)
  /-- `ECHO_SEND` (R344). -/
  | echoSend (lane : Fin 2)
  /-- `ACK` (R233). -/
  | ack (lane : Fin 2) (f : EwxFrame)
  /-- `ACK_RETRY_EXPIRY` (R233). -/
  | ackRetryExpiry (ty : BitVec 8) (seq : BitVec 32)
  /-- `RELEASE` (R124). -/
  | release (task : Fin 16) (trial : Bool)
  /-- `SNAPSHOT_COMPLETE` (R124). -/
  | snapshotComplete (task : Fin 24) (trial : Bool)
  /-- `END_OF_CYCLE` (R126). -/
  | endOfCycle (task : Fin 24) (trial : Bool)
  /-- `OUTPUT_INSTANT` (R127). -/
  | outputInstant (task : Fin 16) (trial : Bool)
  /-- `URGENT_TRIGGER` (R133). -/
  | urgentTrigger (task : Fin 8) (stamp : Int) (rec : List TW)
  /-- `URGENT_PENDING_DISPATCH` (R134). -/
  | urgentPendingDispatch (pair : Fin 12)
  /-- `URGENT_BUDGET_EXPIRY` (R137). -/
  | urgentBudgetExpiry (task : Fin 8)
  /-- `URGENT_STORE_PUBLISH` (R164). -/
  | urgentStorePublish (task : Fin 8)
  /-- `DOZE_ENTRY` (R140). -/
  | dozeEntry (cluster : Fin 3)
  /-- `DOZE_LEAD` (R141). -/
  | dozeLead (cluster : Fin 3)
  /-- `DOZE_REFRESH` (R459). -/
  | dozeRefresh (cluster : Fin 3)
  /-- `WEIR_SEARCH_ARM` (R514). -/
  | weirSearchArm (w : BitVec 32)
  /-- `USOFT_WRITE` (R132). -/
  | usoftWrite (w : BitVec 32)
  /-- `ADD` (R75). -/
  | add (c : CoreId) (rd rs1 : GReg) (b : Src2)
  /-- `SUB` (R75). -/
  | sub (c : CoreId) (rd rs1 : GReg) (b : Src2)
  /-- `MUL` (R75). -/
  | mul (c : CoreId) (rd rs1 : GReg) (b : Src2)
  /-- `MULH` (R75). -/
  | mulh (c : CoreId) (rd rs1 : GReg) (b : Src2)
  /-- `DIV` (R76). -/
  | div (c : CoreId) (rd rs1 : GReg) (b : Src2)
  /-- `REM` (R76). -/
  | rem (c : CoreId) (rd rs1 : GReg) (b : Src2)
  /-- `NEG` (R75). -/
  | neg (c : CoreId) (rd rs1 : GReg) (m : BitVec 6)
  /-- `ABS` (R75). -/
  | abs (c : CoreId) (rd rs1 : GReg) (m : BitVec 6)
  /-- `CLAMP` (R507). -/
  | clamp (c : CoreId) (rd rs1 rs2 : GReg) (m : BitVec 6)
  /-- `FADD` (R78). -/
  | fadd (c : CoreId) (rd rs1 : GReg) (b : Src2)
  /-- `FSUB` (R78). -/
  | fsub (c : CoreId) (rd rs1 : GReg) (b : Src2)
  /-- `FMUL` (R78). -/
  | fmul (c : CoreId) (rd rs1 : GReg) (b : Src2)
  /-- `FDIV` (R78). -/
  | fdiv (c : CoreId) (rd rs1 : GReg) (b : Src2)
  /-- `FMA` (R65). -/
  | fma (c : CoreId) (rd rs1 rs2 : GReg) (m : BitVec 6)
  /-- `FSQRT` (R78). -/
  | fsqrt (c : CoreId) (rd rs1 : GReg) (m : BitVec 6)
  /-- `FABS` (R78). -/
  | fabs (c : CoreId) (rd rs1 : GReg) (m : BitVec 6)
  /-- `FNEG` (R78). -/
  | fneg (c : CoreId) (rd rs1 : GReg) (m : BitVec 6)
  /-- `FCLAMP` (R507). -/
  | fclamp (c : CoreId) (rd rs1 rs2 : GReg) (m : BitVec 6)
  /-- `TADD` (R82). -/
  | tadd (c : CoreId) (rd rs1 : GReg) (b : Src2)
  /-- `TSUB` (R82). -/
  | tsub (c : CoreId) (rd rs1 : GReg) (b : Src2)
  /-- `TREL` (R80). -/
  | trel (c : CoreId) (rd : GReg)
  /-- `PADD` (R66). -/
  | padd (c : CoreId) (rd rs1 rs2 : GReg) (m : BitVec 6)
  /-- `PSUB` (R66). -/
  | psub (c : CoreId) (rd rs1 rs2 : GReg) (m : BitVec 6)
  /-- `PMUL` (R66). -/
  | pmul (c : CoreId) (rd rs1 rs2 : GReg) (m : BitVec 6)
  /-- `AND` (R66). -/
  | and (c : CoreId) (rd rs1 : GReg) (b : Src2)
  /-- `OR` (R66). -/
  | or (c : CoreId) (rd rs1 : GReg) (b : Src2)
  /-- `XOR` (R66). -/
  | xor (c : CoreId) (rd rs1 : GReg) (b : Src2)
  /-- `NOT` (R66). -/
  | not (c : CoreId) (rd rs1 : GReg) (m : BitVec 6)
  /-- `SHL` (R509). -/
  | shl (c : CoreId) (rd rs1 : GReg) (b : Src2)
  /-- `SHR` (R509). -/
  | shr (c : CoreId) (rd rs1 : GReg) (b : Src2)
  /-- `SAR` (R509). -/
  | sar (c : CoreId) (rd rs1 : GReg) (b : Src2)
  /-- `ROT` (R509). -/
  | rot (c : CoreId) (rd rs1 : GReg) (b : Src2)
  /-- `EXT` (R509). -/
  | ext (c : CoreId) (rd rs1 : GReg) (b : Src2)
  /-- `INS` (R509). -/
  | ins (c : CoreId) (rd rs1 : GReg) (b : Src2)
  /-- `CEQ` (R79). -/
  | ceq (c : CoreId) (rd rs1 : GReg) (b : Src2)
  /-- `CNE` (R79). -/
  | cne (c : CoreId) (rd rs1 : GReg) (b : Src2)
  /-- `CLT` (R79). -/
  | clt (c : CoreId) (rd rs1 : GReg) (b : Src2)
  /-- `CLE` (R79). -/
  | cle (c : CoreId) (rd rs1 : GReg) (b : Src2)
  /-- `CUN` (R79). -/
  | cun (c : CoreId) (rd rs1 : GReg) (b : Src2)
  /-- `SEL` (R508). -/
  | sel (c : CoreId) (rd rs1 rs2 : GReg) (m : BitVec 6)
  /-- `MIN` (R508). -/
  | min (c : CoreId) (rd rs1 : GReg) (b : Src2)
  /-- `MAX` (R508). -/
  | max (c : CoreId) (rd rs1 : GReg) (b : Src2)
  /-- `TGET` (R70). -/
  | tget (c : CoreId) (rd rs1 : GReg)
  /-- `TSET` (R71). -/
  | tset (c : CoreId) (rd rs1 : GReg) (tag8 : BitVec 8) (mask : BitVec 4)
  /-- `TCPY` (R72). -/
  | tcpy (c : CoreId) (rd rs1 rs2 : GReg) (m : BitVec 6)
  /-- `QMIN` (R73). -/
  | qmin (c : CoreId) (rd rs1 rs2 : GReg) (m : BitVec 6)
  /-- `CVTIF` (R79). -/
  | cvtif (c : CoreId) (rd rs1 : GReg) (m : BitVec 6)
  /-- `CVTFI` (R79). -/
  | cvtfi (c : CoreId) (rd rs1 : GReg) (m : BitVec 6)
  /-- `CVTIU` (R79). -/
  | cvtiu (c : CoreId) (rd rs1 : GReg) (m : BitVec 6)
  /-- `CVTUI` (R79). -/
  | cvtui (c : CoreId) (rd rs1 : GReg) (m : BitVec 6)
  /-- `RETYPE` (R510). -/
  | retype (c : CoreId) (rd rs1 : GReg) (rs2f m : BitVec 6)
  /-- `PPACK` (R64). -/
  | ppack (c : CoreId) (rd rs1 rs2 : GReg) (m : BitVec 6)
  /-- `PHI` (R64). -/
  | phi (c : CoreId) (rd rs1 : GReg) (m : BitVec 6)
  /-- `PLO` (R64). -/
  | plo (c : CoreId) (rd rs1 : GReg) (m : BitVec 6)
  /-- `LD` (R511). -/
  | ld (c : CoreId) (rd base : GReg) (i : BitVec 18) (up : BitVec 80)
  /-- `ST` (R511). -/
  | st (c : CoreId) (rs base : GReg) (i : BitVec 18)
  /-- `LDX` (R69). -/
  | ldx (c : CoreId) (rd ref index : GReg) (up : BitVec 80)
  /-- `STX` (R69). -/
  | stx (c : CoreId) (rs ref index : GReg)
  /-- `BZ` (R74). -/
  | bz (c : CoreId) (rs : GReg) (off : BitVec 20)
  /-- `BNZ` (R74). -/
  | bnz (c : CoreId) (rs : GReg) (off : BitVec 20)
  /-- `BQ` (R74). -/
  | bq (c : CoreId) (rs : GReg) (cond : BitVec 4) (off : BitVec 20)
  /-- `BLIM` (R74). -/
  | blim (c : CoreId) (rs : GReg) (off : BitVec 20)
  /-- `BFRC` (R74). -/
  | bfrc (c : CoreId) (rs : GReg) (off : BitVec 20)
  /-- `J` (R63). -/
  | j (c : CoreId) (i : BitVec 24)
  /-- `CALL` (R64). -/
  | call (c : CoreId) (i : BitVec 24)
  /-- `RET` (R64). -/
  | ret (c : CoreId)
  /-- `LIMM` (R64). -/
  | limm (c : CoreId) (rd : GReg) (i : BitVec 24)
  /-- `LSHI` (R64). -/
  | lshi (c : CoreId) (rd : GReg) (i : BitVec 24)
  /-- `WAIT` (R457). -/
  | wait (c : CoreId)
  /-- `TRAP` (R83). -/
  | trap (c : CoreId) (i : BitVec 18)
  /-- `CSRR` (R8). -/
  | csrr (c : CoreId) (rd : GReg) (addr : BitVec 32)
  /-- `CSRW` (R8). -/
  | csrw (c : CoreId) (rs : GReg) (addr : BitVec 32)
  /-- `TNOW` (R338). -/
  | tnow (c : CoreId) (rd : GReg)
  /-- `FENCE` (R102). -/
  | fence (c : CoreId)
  /-- `ERET` (R99). -/
  | eret (c : CoreId)
  /-- `CRR` (R98). -/
  | crr (c : CoreId) (rd rs1 : GReg) (i : BitVec 18)
  /-- `CRW` (R98). -/
  | crw (c : CoreId) (rs rs1 : GReg) (i : BitVec 18)
  /-- `COMPARISON_TIMEOUT` (R210). -/
  | comparisonTimeout (u : Fin 13)
  /-- `PAIR_STALL` (R211). -/
  | pairStall (u : Fin 13)
  /-- `INJECTION_TEST` (R223). -/
  | injectionTest (pair : BitVec 4) (miss : InjMiss)
  /-- `CANARY_READING` (R90). -/
  | canaryReading (unit : Fin 4) (reading : BitVec 16) (tj : BitVec 8)
  /-- `SCRUB_ACCESS` (R108). -/
  | scrubAccess (mram : Bool) (upset : BitVec 80)
  /-- `MPU_RULE_WRITE` (R417). -/
  | mpuRuleWrite (w : BitVec 32) (inflight : BitVec 8)
  /-- `MPU_DRAIN_COMPLETE` (R418). -/
  | mpuDrainComplete (inflight : BitVec 8)
  /-- `LOAD` (R175). -/
  | load (sess : Nat) (partner : Bool)
  /-- `ACTIVATE` (R199). -/
  | activate (sess : Nat)
  /-- `TRIAL_START` (R180). -/
  | trialStart (sess : Nat) (partner : Bool)
  /-- `TRIAL_ABORT` (R184). -/
  | trialAbort (sess : Nat) (partner : Bool)
  /-- `EXCHANGE` (R185). -/
  | exchange (sess : Nat) (partner companion : Bool) (seq : BitVec 16) (diff : BitVec 32) (earliest : Int)
  /-- `EXCHANGE_ABORT` (R190). -/
  | exchangeAbort (sess : Nat) (partner : Bool)
  /-- `ROLLBACK` (R191). -/
  | rollback (sess : Nat) (partner companion : Bool) (seq : BitVec 16) (diff : BitVec 32) (earliest : Int)
  /-- `RELEASE_SLOT` (R192). -/
  | releaseSlot (sess : Nat) (partner : Bool)
  /-- `URGENT_END_KEEP_COPY` (R189). -/
  | urgentEndKeepCopy (pair : Fin 12)
  /-- `FORCE_REQUEST` (R165). -/
  | forceRequest (sess : Nat) (p : BitVec 16) (b : Bytes)
  /-- `REMOVE_FORCE` (R167). -/
  | removeForce (sess : Nat) (p : BitVec 16)
  /-- `REMOVE_ALL_FORCES` (R167). -/
  | removeAllForces (sess : Nat)
  /-- `FRESHNESS_EXPIRY` (R155). -/
  | freshnessExpiry (point : BitVec 16)
  /-- `PEER_FRAME_RECEIVE` (R156). -/
  | peerFrameReceive (port : Fin 2) (head : PeerHead) (p : Bytes)
  /-- `ETHERNET_FRAME_RECEIVE` (R312). -/
  | ethernetFrameReceive (port : Fin 3) (fcsOk : Bool) (f : Bytes)
  /-- `ARP_ICMP_ANSWER` (R316). -/
  | arpIcmpAnswer (port : Fin 3) (f : Bytes)
  /-- `NET_LAUNCH` (R353). -/
  | netLaunch (port : Fin 2) (abort : Bool)
  /-- `DTLS_HANDSHAKE` (R323). -/
  | dtlsHandshake (port : Fin 3) (cookie ok : Bool) (cert : Bytes)
  /-- `READ` (R326). -/
  | read (r : VopReq)
  /-- `WRITE` (R287). -/
  | write (r : VopReq)
  /-- `SEG_INIT` (R330). -/
  | segInit (r : VopReq)
  /-- `SEG_DATA` (R330). -/
  | segData (r : VopReq)
  /-- `SEG_END` (R330). -/
  | segEnd (r : VopReq)
  /-- `SESSION_OPEN` (R324). -/
  | sessionOpen (r : VopReq)
  /-- `EVENT_READ` (R451). -/
  | eventRead (r : VopReq)
  /-- `KEEPALIVE` (R326). -/
  | keepalive (r : VopReq)
  /-- `SINGLE` (R331). -/
  | single (ch : Fin 16) (f : VopcFrame) (waiting outstanding : Nat)
  /-- `FIRST` (R331). -/
  | first (ch : Fin 16) (f : VopcFrame)
  /-- `CONSECUTIVE` (R331). -/
  | consecutive (ch : Fin 16) (f : VopcFrame) (waiting outstanding : Nat)
  /-- `ABORT` (R331). -/
  | abort (ch : Fin 16) (f : VopcFrame)
  /-- `STAGING_WRITE` (R292). -/
  | stagingWrite (sess : Nat) (i : BitVec 16) (k : BitVec 8) (b : Bytes)
  /-- `COMMIT` (R297). -/
  | commit (sess : Nat) (companion : Bool) (seq : BitVec 32) (earliest : Int)
  /-- `DISCARD` (R296). -/
  | discard (sess : Nat)
  /-- `CONSISTENCY_CHECK_END` (R297). -/
  | consistencyCheckEnd (partner : Option Bool)
  /-- `LIVE_WRITE` (R306). -/
  | liveWrite (sess : Nat) (i : BitVec 16) (k : BitVec 8) (b : Bytes)
  /-- `LIVE_GROUP_WRITE` (R308). -/
  | liveGroupWrite (sess : Nat) (b : Bytes)
  /-- `TIME_MONITOR_WINDOW` (R340). -/
  | timeMonitorWindow (count : BitVec 32) (differ pllLost : Bool)
  /-- `PTP_MESSAGE_RECEIVE` (R342). -/
  | ptpMessageReceive (port : Fin 2) (m : Bytes) (raw : Int)
  /-- `ANNOUNCE_RECEIPT_TIMEOUT` (R342). -/
  | announceReceiptTimeout (port : Fin 2)
  /-- `SYNC_TRANSMIT` (R349). -/
  | syncTransmit (port : Fin 2)
  /-- `TIME_STEP` (R346). -/
  | timeStep (w : BitVec 32)
  /-- `ARM_ONE_STEP` (R345). -/
  | armOneStep (sess : Nat)
  /-- `RATE_WRITE` (R336). -/
  | rateWrite (w : BitVec 32)
  /-- `CAN_FRAME_RECEIVE` (R370). -/
  | canFrameReceive (ch : Fin 16) (f : CanFrame) (sof : Int)
  /-- `CAN_ARBITRATION_START` (R375). -/
  | canArbitrationStart (ch : Fin 16)
  /-- `CAN_TRANSMIT_COMPLETE` (R375). -/
  | canTransmitComplete (ch : Fin 16) (sof : Int)
  /-- `CAN_ERROR` (R379). -/
  | canError (ch : Fin 16) (e : CanErr)
  /-- `RECOVER` (R380). -/
  | recover (ch : Fin 16)
  /-- `RECOVERY_DELAY_EXPIRY` (R380). -/
  | recoveryDelayExpiry (ch : Fin 16)
  /-- `BUS_OFF_RECOVERY_COMPLETE` (R380). -/
  | busOffRecoveryComplete (ch : Fin 16)
  /-- `CAN_BUS_IDLE_SWITCH` (R364). -/
  | canBusIdleSwitch (ch : Fin 16)
  /-- `OBJECT_LOCK_READ` (R366). -/
  | objectLockRead (ch : Fin 16)
  /-- `OBJECT_LAST_WORD_READ` (R366). -/
  | objectLastWordRead (ch : Fin 16)
  /-- `OBJECT_SELECT` (R366). -/
  | objectSelect (ch : Fin 16) (obj : BitVec 8)
  /-- `OBJECT_LOCK_TIMEOUT` (R366). -/
  | objectLockTimeout (ch : Fin 16)
  /-- `QUEUE` (R374). -/
  | queue (ch : Fin 16)
  /-- `WITHDRAW` (R374). -/
  | withdraw (ch : Fin 16)
  /-- `AO_MEASUREMENT` (R392). -/
  | aoMeasurement (ch : Fin 8) (own total : BitVec 25) (head : BitVec 16) (supply : BitVec 12)
  /-- `GUARD_ENGAGEMENT_LOSS` (R391). -/
  | guardEngagementLoss (ch : Fin 8)
  /-- `PARTNER_EXCESS` (R391). -/
  | partnerExcess (ch : Fin 8)
  /-- `RAMP_END` (R390). -/
  | rampEnd (ch : Fin 8)
  /-- `AI_CONVERSION` (R396). -/
  | aiConversion (ch : Fin 8) (rawA rawB : BitVec 24) (faultA faultB : Bool)
  /-- `AI_DRIFT_COMPARISON` (R398). -/
  | aiDriftComparison (ch : Fin 8)
  /-- `CLEAR_DRIFT` (R398). -/
  | clearDrift (ch : ClearWrite)
  /-- `FSK_RESPONSE` (R402). -/
  | fskResponse (ch : Fin 16) (rx : FskRx) (bad : Bool)
  /-- `FSK_RESPONSE_TIMEOUT` (R400). -/
  | fskResponseTimeout (ch : Fin 16)
  /-- `SCAN_START` (R426). -/
  | scanStart (engine : Fin 4) (w : BitVec 32)
  /-- `SCAN_END` (R429). -/
  | scanEnd (engine : Fin 4)
  /-- `CVU_SELF_TEST` (R430). -/
  | cvuSelfTest (fail : BitVec 4)
  /-- `POST` (R444). -/
  | post (w : BitVec 32)
  /-- `CELL_MEASUREMENT` (R462). -/
  | cellMeasurement (mv : BitVec 16)
  /-- `TAMPER_OPENING` (R465). -/
  | tamperOpening (cover : Bool)
  /-- `ROLLING_CHECK` (R473). -/
  | rollingCheck (rot : Option Bytes)
  /-- `FIRMWARE_TRANSFER` (R469). -/
  | firmwareTransfer (sess : Nat) (b : Bytes)
  /-- `BOOT_FIRMWARE_SLOT` (R469). -/
  | bootFirmwareSlot (sess : Nat) (slot : BitVec 8)
  /-- `RAISE_FIRMWARE_MINIMUM` (R469). -/
  | raiseFirmwareMinimum (sess : Nat)
  /-- `IMAGE_KEY_ENROLMENT` (R471). -/
  | imageKeyEnrolment (sess : Nat) (b : Bytes)
  /-- `TRUST_ANCHOR` (R472). -/
  | trustAnchor (sess : Nat) (b : Bytes)
  /-- `MODULE_CERTIFICATE` (R472). -/
  | moduleCertificate (sess : Nat) (b : Bytes)
  /-- `LIFE_CYCLE_CHANGE` (R477). -/
  | lifeCycleChange (sess : Nat) (b : Bytes) (upto : Fin 7)
  /-- `MAINTENANCE_BUS_TRANSACTION` (R495). -/
  | maintenanceBusTransaction (op : MnbOp)
  /-- `TAP_INSTRUCTION` (R499). -/
  | tapInstruction (k : TapKind) (probe : Bool) (st : BitVec 4)
  /-- `DAP_ACCESS` (R500). -/
  | dapAccess (a : BitVec 32) (w : Option TW)
  /-- `LANE_RETRAIN` (R262). -/
  | laneRetrain (lane : Fin 2)
  /-- `CSR_WRITE` (R9). -/
  | csrWrite (unit : Fin 13) (a w : BitVec 32)
  /-- `LANE_TRAINED` (R231). -/
  | laneTrained (lane : Fin 2)
  /-- `EWEOX_FRAME_DISCARD` (R232). -/
  | eweoxFrameDiscard (lane : Fin 2) (f : EwxFrame)
  /-- `PARTNER_CONTRIBUTION_RETURN` (R391). -/
  | partnerContributionReturn (ch : Fin 8)
  /-- `ANNOUNCE_TRANSMIT` (R349). -/
  | announceTransmit (port : Fin 2)
  /-- `DELAY_REQUEST_TRANSMIT` (R349). -/
  | delayRequestTransmit (port : Fin 2)
  /-- `FSK_POLL_DUE` (R400). -/
  | fskPollDue (ch : Fin 16)
  /-- `FSK_REQUEST_END` (R400). -/
  | fskRequestEnd (ch : Fin 16)
  /-- `LIFE_CYCLE_CHANGE_RESUME` (R477). -/
  | lifeCycleChangeResume (upto : Fin 7)
  /-- `FEED_DOMAIN_COLLAPSE` (R463). -/
  | feedDomainCollapse
  /-- `AUTO_JOIN` (R43). -/
  | autoJoin
  /-- `AUTO_START` (R43). -/
  | autoStart
  /-- `AUTO_JOIN_RETRY_WAIT` (R44). -/
  | autoJoinRetryWait
  /-- `PENDING_TRANSITION_BOUNDARY` (R37). -/
  | pendingTransitionBoundary
  /-- `HEARTBEAT_SEND` (R233). -/
  | heartbeatSend
  /-- `HEARTBEAT_ABSENT` (R239). -/
  | heartbeatAbsent
  /-- `SETTLE_INTERVAL_EXPIRY` (R239). -/
  | settleIntervalExpiry
  /-- `TOGGLE_ABSENT` (R237). -/
  | toggleAbsent
  /-- `START_CLAIM_WAIT_EXPIRY` (R242). -/
  | startClaimWaitExpiry
  /-- `SWAP_ACCEPTANCE_DEADLINE` (R243). -/
  | swapAcceptanceDeadline
  /-- `SWAP_BOUNDARY` (R243). -/
  | swapBoundary
  /-- `SWAP_REVERSAL` (R243). -/
  | swapReversal
  /-- `DIAG_TIMEOUT` (R250). -/
  | diagTimeout
  /-- `SYNC_PHASE_END` (R252). -/
  | syncPhaseEnd
  /-- `SYNC_FINAL_WINDOW` (R254). -/
  | syncFinalWindow
  /-- `CONVERGENCE_LIMIT_EXPIRY` (R255). -/
  | convergenceLimitExpiry
  /-- `INTENT_TAKEN` (R256). -/
  | intentTaken
  /-- `WEIR_WINDOW_OPEN` (R145). -/
  | weirWindowOpen
  /-- `WEIR_DECISION` (R146). -/
  | weirDecision
  /-- `WEIR_APPLY` (R301). -/
  | weirApply
  /-- `WEIR_HORIZON_EXPIRY` (R145). -/
  | weirHorizonExpiry
  /-- `SUPERVISOR_SEAL` (R216). -/
  | supervisorSeal
  /-- `SCRUB_INTERVAL_END` (R110). -/
  | scrubIntervalEnd
  /-- `MPU_DRAIN_TIMEOUT` (R419). -/
  | mpuDrainTimeout
  /-- `PARTNER_LOAD_REPORT_TIMEOUT` (R175). -/
  | partnerLoadReportTimeout
  /-- `TRIAL_STATE_TAKE` (R181). -/
  | trialStateTake
  /-- `PRECOPY_FIRST_PASS_END` (R186). -/
  | precopyFirstPassEnd
  /-- `FORCE_APPLY` (R166). -/
  | forceApply
  /-- `WRITE_PORT_QUEUE_APPLY` (R159). -/
  | writePortQueueApply
  /-- `SESSION_IDLE_TIMEOUT` (R325). -/
  | sessionIdleTimeout
  /-- `SEGMENT_TIMEOUT` (R330). -/
  | segmentTimeout
  /-- `VOPC_FRAME_GAP_TIMEOUT` (R331). -/
  | vopcFrameGapTimeout
  /-- `CONFIGURATION_COPY_WRITTEN` (R299). -/
  | configurationCopyWritten
  /-- `LIVE_FIELD_TAKEUP` (R307). -/
  | liveFieldTakeup
  /-- `TIME_LATCH_READ` (R337). -/
  | timeLatchRead
  /-- `RECORD_COMMIT` (R438). -/
  | recordCommit
  /-- `COUNTER_COPY` (R464). -/
  | counterCopy
  /-- `PROOF_TEST_DUE` (R279). -/
  | proofTestDue
  /-- `WRITE_LIFE_CYCLE_ENTRY` (R480). -/
  | writeLifeCycleEntry
  /-- `REVOKE_IMAGE_KEY_SLOT` (R480). -/
  | revokeImageKeySlot
  /-- `WRITE_IMAGE_KEY_SLOT` (R480). -/
  | writeImageKeySlot
  /-- `RAISE_FWMIN` (R480). -/
  | raiseFwmin
  /-- `MAILBOX_DELIVERY` (R496). -/
  | mailboxDelivery
  /-- `TAP_TEST_EXIT` (R499). -/
  | tapTestExit
  /-- `PARTNER_TOGGLE_EDGE` (R237). -/
  | partnerToggleEdge
  /-- `OPERATING_TIME_SECOND` (R441). -/
  | operatingTimeSecond
  /-- `HOLDUP_DOMAIN_LOSS` (R464). -/
  | holdupDomainLoss
  deriving DecidableEq, Repr

end Sys2Proof
end

