-- ==== Sys2Proof/Decode.lean ====
section
/-! DEFINITION. The commands that a word spells. The opcode table gives no bits for any row; the spec gives formats and
opcode groups, and of the instructions the bits of CRR and CRW alone (R62, R64, R98). -/

namespace Sys2Proof

/-- The register that six bits of a word name (R62). -/
def regField (w lo : Nat) : GReg := Fin.ofNat 64 (w / 2 ^ lo)

/-- An instruction word of format B with major opcode 0x36 (R98): CRR or CRW by imm18[17], its illegal forms too. -/
def decodeControl (c : CoreId) (w : Nat) : Instr :=
  let i := BitVec.ofNat 18 w
  if i.getLsbD 17 then .crw c (regField w 24) (regField w 18) i else .crr c (regField w 24) (regField w 18) i

/-- The command that a word spells: an instruction word of 36 bits, in five bytes, with the one opcode whose bits the spec
gives, as the supervisor pair retires it; no other. DESIGN CHOICE (log 13). -/
def decodeTableWord (nbits w : Nat) : Option Instr :=
  if nbits = 40 ∧ w / 2 ^ 30 = 0x36 then some (decodeControl ⟨12, false, []⟩ w) else none

end Sys2Proof
end

