-- ==== Sys2Proof/Machine/Event.lean ====
section
/-! DEFINITION. The events that the chapters send to the event recorder, each with its class (R442). The spec fixes the
class-0 records only: every other event's number, severity and payload belong to the firmware release (R440). The front
indicators' colours stand here too (R501). -/

namespace Sys2Proof.Machine

/-- What happened. DESIGN CHOICE (log 10). -/
inductive EvKind where
  -- class 1: modes
  | transition | commandAccepted | commandRefused | triggerDiscarded | isolateSoloArmed | isolateSoloLapsed
  | joinRefused | autoJoinSuspended | resetAttempt | swapLapsed | swapReversed
  | bootStepFailed | stepRecorded
  -- class 2: latching detections
  | lockstepFault | latchingFault | proofTestDue
  -- class 3: power, speed, memory
  | belowFloor | nonzeroSyndrome | slotInvalidated | rwUncorrectable | feedsLow | cellLow
  -- class 4: pair
  | laneChange | roleLineFault | sealDisagreement | selfTestResult | syncAborted | syncPhase | resync
  | ackGivenUp | intentTaken
  -- class 5: scheduler, traps
  | trap | releaseSkipped | skipLimit | lateCycle | urgentOverrun | cycleAbandoned | cycleDiscrepancy
  -- class 6: configuration, LV groups, forces
  | commitRequested | commitResult | commitApplied | commitCancelled | setDiscarded | liveWrite | liveTaken
  | forceAccepted | forceRefused | forceApplied | forceRemoved | configInvalid | generationsDiffer | objectWrite
  -- class 7: program exchange, restart
  | loadResult | trialStarted | trialEnded | exchangeAccepted | exchangeEnded | exchangeApplied | slotReleased
  | activated | restartDone | mapReport
  -- class 8: time base
  | stepMade | stepRefused | stepArmed | timeState | pairServo | timeBaseFault | ptpMaster
  -- class 9: network, VOP
  | sessionOpened | sessionClosed | handshakeRefused | roleRefused
  -- class 10: CAN
  | busOff | canRecovered | canLaunchError | canPassive | pointStaleCan
  -- class 11: loops and FSK
  | readbackMismatch | compliance | guardLoss | partnerExcess | partnerReturn | aiDrift | aiDriftCleared | fskFailed
  | loopSupplyLow | aoBadWord | pointStaleFsk
  -- class 12: MPU and check values
  | mpuRefusal | mpuRuleRefused | mpuFault | cvuFault | cvuError
  -- class 13: life cycle, security
  | lifeCycleChange | keyEnrolled | keyRevoked | anchorReplaced | certificateReplaced | firmwareWritten
  | firmwareSelected | fwMinRaised | slotCheckFailed | tamper | tapRefused | lifeCycleRequest | anchorTaken
  | holdupLost
  -- class 14: supply, hot swap, maintenance bus
  | feedLost | feedReturned | mailbox
  deriving DecidableEq, Repr

/-- Class of an event (R442). DESIGN CHOICE (log 10). -/
def EvKind.cls : EvKind → Nat
  | .transition | .commandAccepted | .commandRefused | .triggerDiscarded | .isolateSoloArmed | .isolateSoloLapsed
  | .joinRefused | .autoJoinSuspended | .resetAttempt | .swapLapsed | .swapReversed
  | .bootStepFailed | .stepRecorded => 1
  | .lockstepFault | .latchingFault | .proofTestDue => 2
  | .belowFloor | .nonzeroSyndrome | .slotInvalidated | .rwUncorrectable | .feedsLow | .cellLow => 3
  | .laneChange | .roleLineFault | .sealDisagreement | .selfTestResult | .syncAborted | .syncPhase | .resync
  | .ackGivenUp | .intentTaken => 4
  | .trap | .releaseSkipped | .skipLimit | .lateCycle | .urgentOverrun | .cycleAbandoned | .cycleDiscrepancy => 5
  | .commitRequested | .commitResult | .commitApplied | .commitCancelled | .setDiscarded | .liveWrite | .liveTaken
  | .forceAccepted | .forceRefused | .forceApplied | .forceRemoved | .configInvalid | .generationsDiffer | .objectWrite => 6
  | .loadResult | .trialStarted | .trialEnded | .exchangeAccepted | .exchangeEnded | .exchangeApplied | .slotReleased
  | .activated | .restartDone | .mapReport => 7
  | .stepMade | .stepRefused | .stepArmed | .timeState | .pairServo | .timeBaseFault | .ptpMaster => 8
  | .sessionOpened | .sessionClosed | .handshakeRefused | .roleRefused => 9
  | .busOff | .canRecovered | .canLaunchError | .canPassive | .pointStaleCan => 10
  | .readbackMismatch | .compliance | .guardLoss | .partnerExcess | .partnerReturn | .aiDrift | .aiDriftCleared
  | .fskFailed | .loopSupplyLow | .aoBadWord | .pointStaleFsk => 11
  | .mpuRefusal | .mpuRuleRefused | .mpuFault | .cvuFault | .cvuError => 12
  | .lifeCycleChange | .keyEnrolled | .keyRevoked | .anchorReplaced | .certificateReplaced | .firmwareWritten
  | .firmwareSelected | .fwMinRaised | .slotCheckFailed | .tamper | .tapRefused | .lifeCycleRequest | .anchorTaken
  | .holdupLost => 13
  | .feedLost | .feedReturned | .mailbox => 14

/-- Colours and patterns of the front indicators (R501); a flashing one with its rate in Hz. -/
inductive Colour where
  | green | amber | red
  deriving DecidableEq, Repr
inductive Light where
  | off
  | steady (c : Colour)
  | flashing (c : Colour) (hz : Nat)
  deriving DecidableEq, Repr, Inhabited

end Sys2Proof.Machine
end

