-- ==== Sys2Proof/Machine/Float64.lean ====
section
/-! DEFINITION. IEEE 754 binary64 arithmetic with the choices of R77 and the exceptional results of R78, on exact
integers: a finite number is ±m × 2^e. -/

namespace Sys2Proof.Machine

/-- Rounding modes, in the coding of RND (R63). -/
inductive Rnd where
  | nearest | zero | up | down
  deriving DecidableEq, Repr, Inhabited

def Rnd.ofBits (b : BitVec 2) : Rnd :=
  match b.toNat with
  | 0 => .nearest
  | 1 => .zero
  | 2 => .up
  | _ => .down

/-- A binary64 operand: NaN, an infinity, or (−1)^s × m × 2^e with m = 0 for a zero. -/
inductive FNum where
  | nan
  | inf (s : Bool)
  | fin (s : Bool) (m : Nat) (e : Int)
  deriving DecidableEq, Repr

def f64Frac (w : Word) : Nat := w.toNat % 2 ^ 52
def f64Exp (w : Word) : Nat := w.toNat / 2 ^ 52 % 2 ^ 11
def f64Sign (w : Word) : Bool := w.msb

def FNum.ofBits (w : Word) : FNum :=
  if f64Exp w = 2047 then
    if f64Frac w = 0 then .inf (f64Sign w) else .nan
  else if f64Exp w = 0 then .fin (f64Sign w) (f64Frac w) (-1074)
  else .fin (f64Sign w) (2 ^ 52 + f64Frac w) ((f64Exp w : Int) - 1075)

/-- Canonical quiet NaN (R78). -/
def f64CanonNaN : Word := 0x7FF8000000000000#64
/-- Largest finite magnitude with a sign (R78). -/
def f64MaxFin (s : Bool) : Word := if s then 0xFFEFFFFFFFFFFFFF#64 else 0x7FEFFFFFFFFFFFFF#64
def f64Zero (s : Bool) : Word := if s then 0x8000000000000000#64 else 0#64

/-- Number of bits of a natural number. -/
def bitLen (n : Nat) : Nat := if n = 0 then 0 else Nat.log2 n + 1

/-- Whether the rounding of a magnitude goes up: `rem` of `2^sh` was cut off, `sticky` says that something below was. -/
def roundsUp (r : Rnd) (s : Bool) (q rem sh : Nat) (sticky : Bool) : Bool :=
  let inexact := sticky || rem != 0
  match r with
  | .nearest =>
    let half := 2 ^ sh / 2
    if sh = 0 then false
    else decide (half < rem) || (rem == half && (sticky || q % 2 == 1))
  | .zero => false
  | .up => !s && inexact
  | .down => s && inexact

/-- The result of a rounding: bits, or an overflow (R78). -/
inductive FRes where
  | ok (w : Word)
  | over (s : Bool)
  deriving DecidableEq, Repr

/-- (−1)^s × (m + sticky) × 2^e rounded to binary64, `sticky` standing for a positive remainder below one unit of m.
Overflow is judged on the rounded result with an unbounded exponent (R78). Subnormal results are exact IEEE results. -/
def roundF64 (r : Rnd) (s : Bool) (m : Nat) (e : Int) (sticky : Bool) : FRes :=
  if m = 0 ∧ sticky = false then .ok (f64Zero s)
  else
    let l := (bitLen m : Int)
    let t := max (e + l - 53) (-1074)
    let sh := (t - e).toNat
    let m0 := m * 2 ^ (e - t).toNat
    let q := m0 / 2 ^ sh
    let up := roundsUp r s q (m0 % 2 ^ sh) sh sticky
    let q1 := if up then q + 1 else q
    let q2 := if q1 = 2 ^ 53 then 2 ^ 52 else q1
    let t2 := if q1 = 2 ^ 53 then t + 1 else t
    if q2 = 0 then .ok (f64Zero s)
    else if 971 < t2 then .over s
    else
      let bits := if q2 < 2 ^ 52 then q2 else (t2 + 1075).toNat * 2 ^ 52 + (q2 - 2 ^ 52)
      .ok (BitVec.ofNat 64 (bits + if s then 2 ^ 63 else 0))

/-- The signed integer m × 2^(e − g) of a finite number on the grid 2^g. -/
def onGrid (s : Bool) (m : Nat) (e g : Int) : Int :=
  let v : Int := (m * 2 ^ (e - g).toNat : Nat)
  if s then -v else v

/-- Value and sign of an exact sum on the grid 2^g, rounded; an exact zero has the sign that IEEE 754 gives a sum of
opposite operands, or the operands' common sign. -/
def roundSum (r : Rnd) (v : Int) (g : Int) (sa sb : Bool) : FRes :=
  if v = 0 then .ok (f64Zero (if sa = sb then sa else r = .down))
  else roundF64 r (decide (v < 0)) v.natAbs g false

/-- An arithmetic result: a finite rounding, an infinite result, an invalid operation, or a division by zero. -/
inductive FArith where
  | res (r : FRes)
  | infinite (s : Bool)
  | invalid
  | divZero
  deriving DecidableEq, Repr

def fAdd (r : Rnd) : FNum → FNum → FArith
  | .nan, _ => .invalid
  | _, .nan => .invalid
  | .inf a, .inf b => if a = b then .infinite a else .invalid
  | .inf a, .fin _ _ _ => .infinite a
  | .fin _ _ _, .inf b => .infinite b
  | .fin sa ma ea, .fin sb mb eb =>
    let g := min ea eb
    .res (roundSum r (onGrid sa ma ea g + onGrid sb mb eb g) g sa sb)

def FNum.neg : FNum → FNum
  | .nan => .nan
  | .inf s => .inf (!s)
  | .fin s m e => .fin (!s) m e

def fMul (r : Rnd) : FNum → FNum → FArith
  | .nan, _ => .invalid
  | _, .nan => .invalid
  | .inf a, .inf b => .infinite (a != b)
  | .inf a, .fin sb mb _ => if mb = 0 then .invalid else .infinite (a != sb)
  | .fin sa ma _, .inf b => if ma = 0 then .invalid else .infinite (sa != b)
  | .fin sa ma ea, .fin sb mb eb => .res (roundF64 r (sa != sb) (ma * mb) (ea + eb) false)

/-- The quotient keeps at least 64 bits before rounding; the remainder is the sticky bit. -/
def fDiv (r : Rnd) : FNum → FNum → FArith
  | .nan, _ => .invalid
  | _, .nan => .invalid
  | .inf _, .inf _ => .invalid
  | .inf a, .fin sb _ _ => .infinite (a != sb)
  | .fin sa _ _, .inf b => .res (.ok (f64Zero (sa != b)))
  | .fin sa ma ea, .fin sb mb eb =>
    if mb = 0 then (if ma = 0 then .invalid else .divZero)
    else if ma = 0 then .res (.ok (f64Zero (sa != sb)))
    else
      let k := 64 + bitLen mb
      let n := ma * 2 ^ k
      .res (roundF64 r (sa != sb) (n / mb) (ea - eb - k) (n % mb != 0))

/-- rs1 × rs2 + rd with one rounding (R65). -/
def fFma (r : Rnd) (a b c : FNum) : FArith :=
  match a, b, c with
  | .nan, _, _ => .invalid
  | _, .nan, _ => .invalid
  | _, _, .nan => .invalid
  | .fin sa ma ea, .fin sb mb eb, .fin sc mc ec =>
    let sp := sa != sb
    let g := min (ea + eb) ec
    .res (roundSum r (onGrid sp (ma * mb) (ea + eb) g + onGrid sc mc ec g) g sp sc)
  | .fin _ _ _, .fin _ _ _, .inf s => .infinite s
  | a, b, c =>
    match fMul r a b with
    | .infinite s =>
      match c with
      | .inf t => if s = t then .infinite s else .invalid
      | _ => .infinite s
    | _ => .invalid

/-- Largest r with r² ≤ n, one bit at a time from bit k down. -/
def isqrtBits (n : Nat) : Nat → Nat → Nat
  | 0, r => if (r + 1) * (r + 1) ≤ n then r + 1 else r
  | k + 1, r =>
    let t := r + 2 ^ (k + 1)
    isqrtBits n k (if t * t ≤ n then t else r)

/-- Square root; the operand is scaled to an even exponent with at least 120 bits. -/
def fSqrt (r : Rnd) : FNum → FArith
  | .nan => .invalid
  | .inf s => if s then .invalid else .infinite false
  | .fin s m e =>
    if m = 0 then .res (.ok (f64Zero s))
    else if s then .invalid
    else
      let k : Nat := if e % 2 = 0 then 128 else 129
      let n := m * 2 ^ k
      let q := isqrtBits n 96 0
      .res (roundF64 r false q ((e - k) / 2) (q * q != n))

/-- a < b of two numbers that are not NaN; −0.0 and +0.0 are equal. -/
def FNum.lt : FNum → FNum → Bool
  | .nan, _ => false
  | _, .nan => false
  | .inf a, .inf b => a && !b
  | .inf a, .fin _ _ _ => a
  | .fin _ _ _, .inf b => !b
  | .fin sa ma ea, .fin sb mb eb =>
    let g := min ea eb
    decide (onGrid sa ma ea g < onGrid sb mb eb g)

def FNum.isNaN : FNum → Bool
  | .nan => true
  | _ => false

/-- Equal as IEEE numbers. -/
def FNum.eq (a b : FNum) : Bool := !a.isNaN && !b.isNaN && !a.lt b && !b.lt a

/-- An integer as binary64, rounded. -/
def intToF64 (r : Rnd) (v : Int) : Word :=
  match roundF64 r (decide (v < 0)) v.natAbs 0 false with
  | .ok w => w
  | .over s => f64MaxFin s

/-- A finite number rounded to an integer. -/
def f64ToInt (r : Rnd) (s : Bool) (m : Nat) (e : Int) : Int :=
  let sh := (-e).toNat
  let m0 := m * 2 ^ e.toNat
  let q := m0 / 2 ^ sh
  let q1 := if roundsUp r s q (m0 % 2 ^ sh) sh false then q + 1 else q
  if s then -(q1 : Int) else q1

/-! Conversions of the interfaces -/

/-- A binary32 as an operand (R154). -/
def FNum.ofBits32 (v : Nat) : FNum :=
  let s : Bool := v / 2 ^ 31 % 2 == 1
  let e : Nat := v / 2 ^ 23 % 256
  let f : Nat := v % 2 ^ 23
  if e = 255 then (if f = 0 then .inf s else .nan)
  else if e = 0 then .fin s f (-149)
  else .fin s (2 ^ 23 + f) ((e : Int) - 150)

/-- Widened exactly to binary64; a NaN gives the canonical one. -/
def FNum.toF64 : FNum → Word
  | .nan => f64CanonNaN
  | .inf s => if s then 0xFFF0000000000000#64 else 0x7FF0000000000000#64
  | .fin s m e =>
    match roundF64 .nearest s m e false with
    | .ok w => w
    | .over t => f64MaxFin t

/-- Binary64 to binary32 as R163 sends it: nearest, ties to even; too large a magnitude, an infinity included, as the
largest finite binary32; a NaN as the quiet NaN 0x7FC0_0000. -/
def f64ToF32 (w : Word) : Nat :=
  let sgn (s : Bool) : Nat := if s then 2 ^ 31 else 0
  match FNum.ofBits w with
  | .nan => 0x7FC00000
  | .inf s => sgn s + 0x7F7FFFFF
  | .fin s m e =>
    let t := max (e + (bitLen m : Int) - 24) (-149)
    let sh := (t - e).toNat
    let m0 := m * 2 ^ (e - t).toNat
    let q := m0 / 2 ^ sh
    let q1 := if roundsUp .nearest s q (m0 % 2 ^ sh) sh false then q + 1 else q
    let q2 := if q1 = 2 ^ 24 then 2 ^ 23 else q1
    let t2 := if q1 = 2 ^ 24 then t + 1 else t
    if q2 = 0 then sgn s
    else if 104 < t2 then sgn s + 0x7F7FFFFF
    else if q2 < 2 ^ 23 then sgn s + q2
    else sgn s + (t2 + 150).toNat * 2 ^ 23 + (q2 - 2 ^ 23)

/-- An exact fraction, not reduced; the denominator is positive. -/
structure Frac where
  num : Int
  den : Nat
  deriving DecidableEq, Repr

def Frac.ofInt (v : Int) : Frac := ⟨v, 1⟩
def Frac.add (a b : Frac) : Frac := ⟨a.num * b.den + b.num * a.den, a.den * b.den⟩
def Frac.neg (a : Frac) : Frac := ⟨-a.num, a.den⟩
def Frac.sub (a b : Frac) : Frac := a.add b.neg
def Frac.mul (a b : Frac) : Frac := ⟨a.num * b.num, a.den * b.den⟩
/-- Division; 0 where the divisor is 0. -/
def Frac.div (a b : Frac) : Frac :=
  if b.num = 0 then ⟨0, 1⟩
  else ⟨a.num * b.den * b.num.sign, a.den * b.num.natAbs⟩
def Frac.lt (a b : Frac) : Bool := decide (a.num * b.den < b.num * a.den)

/-- A finite binary64 as a fraction; 0 for a NaN or an infinity. -/
def Frac.ofF64 (w : Word) : Frac :=
  match FNum.ofBits w with
  | .fin s m e => ⟨(if s then -1 else 1) * (m * 2 ^ e.toNat : Nat), 2 ^ (-e).toNat⟩
  | _ => ⟨0, 1⟩

/-- A fraction rounded to an integer. -/
def Frac.round (r : Rnd) (a : Frac) : Int :=
  let s := decide (a.num < 0)
  let n := a.num.natAbs
  let q := n / a.den
  let rem := n % a.den
  let up := match r with
    | .nearest => decide (a.den < 2 * rem) || (2 * rem == a.den && q % 2 == 1)
    | .zero => false
    | .up => !s && rem != 0
    | .down => s && rem != 0
  let v : Int := if up then q + 1 else q
  if s then -v else v

/-- A fraction rounded to binary64. -/
def Frac.toF64 (r : Rnd) (a : Frac) : Word :=
  let k := 128 + bitLen a.den
  let n := a.num.natAbs * 2 ^ k
  match roundF64 r (decide (a.num < 0)) (n / a.den) (-(k : Int)) (n % a.den != 0) with
  | .ok w => w
  | .over s => f64MaxFin s

end Sys2Proof.Machine
end

