-- ==== Sys2Proof/Machine/Crc.lean ====
section
/-! DEFINITION. The four CRC algorithms of R425 and the byte layouts that they are computed over (R212, R232, R426). -/

namespace Sys2Proof.Machine

/-- Parameters of an algorithm (R425). -/
structure CrcAlg where
  width : Nat
  poly : Nat
  init : Nat
  reflected : Bool
  xorOut : Nat
  deriving DecidableEq, Repr

/-- `CVU.CTLn.POLY` 0 to 3. -/
def crcAlg : Nat → CrcAlg
  | 0 => ⟨32, 0x1EDC6F41, 0xFFFFFFFF, true, 0xFFFFFFFF⟩
  | 1 => ⟨32, 0x04C11DB7, 0xFFFFFFFF, true, 0xFFFFFFFF⟩
  | 2 => ⟨64, 0x42F0E1EBA9EA3693, 0, false, 0⟩
  | _ => ⟨16, 0x1021, 0xFFFF, false, 0⟩

/-- The check value of an algorithm, over "123456789" (R425). -/
def crcCheck : Nat → Nat
  | 0 => 0xE3069283
  | 1 => 0xCBF43926
  | 2 => 0x6C40DF5F0B497347
  | _ => 0x29B1

def ceilDiv (a b : Nat) : Nat := (a + b - 1) / b

/-- The low `n` bits of `v` in reverse order. -/
def reflectBits : Nat → Nat → Nat
  | 0, _ => 0
  | n + 1, v => v % 2 * 2 ^ n + reflectBits n (v / 2)

/-- One bit through the register, most significant bit first. -/
def crcBit (a : CrcAlg) (r : Nat) (b : Nat) : Nat :=
  let top := (r / 2 ^ (a.width - 1) + b) % 2
  let sh := r * 2 % 2 ^ a.width
  if top = 1 then sh ^^^ a.poly else sh

/-- The `n` low bits of a byte, from bit n − 1 down. -/
def crcBits (a : CrcAlg) (r v : Nat) : Nat → Nat
  | 0 => r
  | n + 1 => crcBits a (crcBit a r (v / 2 ^ n % 2)) v n

def crcByte (a : CrcAlg) (r : Nat) (b : Byte) : Nat :=
  crcBits a r (if a.reflected then reflectBits 8 b.toNat else b.toNat) 8

/-- The unfinalised register after a run of bytes. -/
def crcRun (a : CrcAlg) (r : Nat) : Bytes → Nat
  | [] => r
  | b :: l => crcRun a (crcByte a r b) l

/-- Reflected where the algorithm says so, then XORed (R427). -/
def crcFinal (a : CrcAlg) (r : Nat) : Nat := (if a.reflected then reflectBits a.width r else r) ^^^ a.xorOut

/-- The check value of a byte string. DEDUCED (log 90). -/
def crc (p : Nat) (l : Bytes) : Nat := crcFinal (crcAlg p) (crcRun (crcAlg p) (crcAlg p).init l)

/-- A number in `n` bytes, little-endian. -/
def leBytes : Nat → Nat → Bytes
  | 0, _ => []
  | n + 1, v => BitVec.ofNat 8 v :: leBytes n (v / 256)

/-- The number that bytes spell, little-endian. -/
def leNat : Bytes → Nat
  | [] => 0
  | b :: l => b.toNat + 256 * leNat l

/-- A tagged word as 9 bytes: value little-endian, then the tag byte (R232). -/
def wordBytes (w : TW) : Bytes := leBytes 8 w.val.toNat ++ [w.tag]

def wordsBytes (l : List TW) : Bytes := l.flatMap wordBytes

/-- Bytes cut into groups of `n`, a short last group zero-padded; `fuel` bounds the number of groups. -/
def groupBytes (n : Nat) : Nat → Bytes → List Bytes
  | 0, _ => []
  | fuel + 1, l => if l.isEmpty then [] else (l.take n ++ List.replicate (n - l.length) 0#8) :: groupBytes n fuel (l.drop n)

/-- Bytes as 64-bit words with one tag, 8 bytes per word, zero-padded (R234, R436). -/
def packWords (tag : BitVec 8) (l : Bytes) : List TW :=
  (groupBytes 8 (l.length + 1) l).map (fun g => ⟨BitVec.ofNat 64 (leNat g), tag⟩)

/-- The value bytes of words. -/
def valueBytes (l : List TW) : Bytes := l.flatMap (fun w => leBytes 8 w.val.toNat)

end Sys2Proof.Machine
end

