-- ==== Sys2Proof/Machine/Image.lean ====
section
/-! DEFINITION. Program images (R172 to R178): the parts of an image file, the state map, and the reading of a file. -/

namespace Sys2Proof.Machine

/-- A task of the DESCRIPTOR section (R115, R158, R162, R172). `snap` pairs a point with a destination word, `outs` a
point with the word that holds the task's value for it. -/
structure TaskDesc where
  task : Nat
  entry : Nat
  budget : Nat
  divpol : Bool
  pair : Nat
  snapAt : Nat
  snap : List (Nat × Nat)
  outs : List (Nat × Nat)
  scr : Nat
  scrLen : Nat
  /-- The image marks the task safety-related (R280). -/
  safety : Bool
  /-- Check-list entries as their 64-bit values (R432). -/
  checks : List Nat
  /-- Every other bit of an entry of its snapshot and output lists is 0 (R158, R162). -/
  formed : Bool
  deriving DecidableEq, Repr

/-- A state-map entry (R176), source and destination as word addresses. -/
structure MapEntry where
  src : Nat
  dst : Nat
  len : Nat
  kind : Nat
  conv : Nat
  log : Bool
  decl : Nat
  /-- The reserved bits are 0, and the address fields of INIT and DROP that must be 0 are. -/
  formed : Bool
  deriving DecidableEq, Repr

/-- An image as its file gives it (R172, R173). -/
structure Image where
  slot : Nat
  issues : List Nat
  cls : Nat
  fwLo : Nat
  fwHi : Nat
  pred : Nat
  dataUsed : Nat
  retUsed : Nat
  ident : Nat
  code : List TW
  tasks : List TaskDesc
  signals : List Nat
  initial : List (Nat × TW)
  fwd : List MapEntry
  rev : List MapEntry
  deriving DecidableEq, Repr

/-- Bits [hi:lo] of a number. -/
def bitField (v lo n : Nat) : Nat := v / 2 ^ lo % 2 ^ n

/-- An offset and area of a state-map entry as a word address. -/
def mapAddr (ofs area : Nat) : Nat := if area = 0 then ofs else 0x8000000 + ofs

/-- A state-map entry from its two values (R176). -/
def MapEntry.ofWords (a b : Nat) : MapEntry :=
  let o := bitField a 0 23
  let n := bitField a 23 23
  let k := bitField b 0 4
  { src := mapAddr (bitField a 0 22) (bitField a 22 1), dst := mapAddr (bitField a 23 22) (bitField a 45 1),
    len := bitField a 48 16, kind := k, conv := bitField b 4 4, log := b.testBit 12, decl := bitField b 32 32,
    formed := bitField a 46 2 == 0 && bitField b 13 19 == 0 && (k != 3 || o == 0) && (k != 4 || n == 0)
      && bitField a 48 16 != 0 && decide (1 ≤ k) && decide (k ≤ 4) && (k == 2 || bitField b 4 4 == 0)
      && (k != 2 || (decide (1 ≤ bitField b 4 4) && decide (bitField b 4 4 ≤ 4))) }

/-- A little-endian field of a file. -/
def fileField (f : Bytes) (ofs n : Nat) : Nat := leNat ((f.drop ofs).take n)

/-- The section table: type, offset, length (R172). -/
def sections (f : Bytes) : List (Nat × Nat × Nat) :=
  (List.range (min 16 (fileField f 8 4))).map fun i =>
    (fileField f (64 + 16 * i) 4, fileField f (72 + 16 * i) 4, fileField f (76 + 16 * i) 4)

/-- The bytes of a section; none where the file has none of the type. -/
def sectionOf (f : Bytes) (ty : Nat) : Option Bytes :=
  match (sections f).find? (fun e => e.1 == ty) with
  | some e => some ((f.drop e.2.1).take e.2.2)
  | none => none

/-- Bytes as program words, 9 bytes each: value, then tag. -/
def codeWords (b : Bytes) : List TW :=
  (groupBytes 9 (b.length / 9 + 1) b).map fun g => ⟨BitVec.ofNat 64 (leNat (g.take 8)), g.getD 8 0#8⟩

def u64s (b : Bytes) : List Nat := (groupBytes 8 (b.length / 8 + 1) b).map leNat

def mapEntries : List Nat → List MapEntry
  | a :: b :: l => .ofWords a b :: mapEntries l
  | _ => []

/-- Every section lies within L, CODE is at most 2 Mi words, and each required section is present (R172, R175). -/
def sectionsOk (f : Bytes) : Bool :=
  let l := fileField f 4 4
  let n := fileField f 8 4
  fileField f 0 4 == 3 && f.length == l + 96 && decide (1 ≤ n) && decide (n ≤ 16)
    && (sections f).all (fun e => decide (e.2.1 + e.2.2 ≤ l))
    && [1, 2, 3, 4, 5].all (fun t => (sectionOf f t).isSome)
    && (match sectionOf f 2 with
        | some c => decide (c.length ≤ 9 * 2097152) && c.length % 9 == 0
        | none => false)

/-- Data bank, retentive bank and SRAM range of a program slot (R170): base and words. -/
def dataBank (slot : Nat) : Nat × Nat := (if slot = 0 then 0x10000 else 0x208000, 2064384)
def retBank (slot : Nat) : Nat × Nat := (if slot = 0 then 0x8000000 else 0x8020000, 131072)
def slotBase (slot : Nat) : Nat := if slot = 0 then 0x1000000 else 0x1200000

end Sys2Proof.Machine
end

