-- ==== Sys2Proof/Config.lean ====
section
/-! DEFINITION. What the spec leaves open: free values, as constants without a body. Nothing can be proved about their
values, so every claim holds for all of them. Each is named in notes/assumptions. -/

namespace Sys2Proof.Config

/-- What a format D offset is added to, besides the branch's own instruction address: the spec does not say whether
the offset counts from the branch or from the instruction after it (R62, R63). DESIGN CHOICE (log 7, 28). -/
opaque branchBase : Nat

/-- The instruction address after 4 Mi − 1, the last of a slot (R61). DESIGN CHOICE (log 28). -/
opaque addrPastEnd : BitVec 22

/-- Whether `rs1` of PPACK is the high lane (R64 gives the mnemonic and R66 the class, not the lane order).
DESIGN CHOICE (log 29). -/
opaque ppackRs1High : Bool

/-- REC after a good reception by an error-passive receiver, above 119 (ISO 11898-1 allows 119 to 127), and what TEC
reads while the channel is bus-off: R383 gives it 8 bits and R379 a value above 255. PRESUMED (log 83). -/
opaque canRecReturn : Nat → Nat
/-- PRESUMED (log 83). -/
opaque canTecBusOff : Nat → BitVec 8

/-- Rounding of the module's own conversions (R386, R388, R396, R397), which the spec bounds and does not state.
DESIGN CHOICE (log 85). -/
opaque ioRound : Machine.Rnd

/-- Current in nA that a 24-bit converter code stands for, before trim: path A, path B (R395).
DESIGN CHOICE (log 85). -/
opaque aiCode : Bool → BitVec 24 → Int

/-- What AICUR reads for a trimmed current that its 25 unsigned bits do not hold (R405). DESIGN CHOICE (log 85). -/
opaque aiCurOut : Int → Nat

/-- Commanded current of an AO word that is a NaN and not BAD, of which R386 says nothing: how far above Imin.
DESIGN CHOICE (log 7, 85). -/
opaque aoNaN : Nat → Nat

/-- Codes of the TAP instructions in the 6-bit instruction register, which are those of the BSDL description (R497); only
IDCODE's is known, from the reset value of DBG.STAT.IR. DESIGN CHOICE (log 97). -/
opaque tapCode : TapKind → BitVec 6

/-- What the maintenance bus reads at the mailbox offsets, whose access is Write (R495). DEDUCED (log 96). -/
opaque mnbMailRead : Nat → Byte

/-- SHA-384, which the spec names and does not define (R173, R324, R468, R471). DESIGN CHOICE (log 74). -/
opaque sha384 : Bytes → BitVec 384

/-- ECDSA P-384 verification: public key, digest, signature (R173, R468, R476). DESIGN CHOICE (log 74). -/
opaque ecdsaOk : Bytes → BitVec 384 → Bytes → Bool

/-- The DESCRIPTOR and INITIAL sections of an image (R172): the spec says what they hold and not their bytes.
DESIGN CHOICE (log 50). -/
opaque parseDescriptor : Bytes → Option (List Machine.TaskDesc)
/-- DESIGN CHOICE (log 50). -/
opaque parseInitial : Bytes → Option (List (Nat × TW))

/-- Whether an image's manifest declares SC 3 (R280), of which R172 gives no field. DESIGN CHOICE (log 50). -/
opaque imageSc3 : Bytes → Bool

/-- Body words of a configuration copy, which R304 leaves to the firmware release. DEDUCED (log 67). -/
opaque cfgBody : List (Nat × Bytes) → List TW

/-- RATE that a servo asks for, from the offset in ns and the present RATE (R342, R344): the spec bounds the change and
not the control law. DESIGN CHOICE (log 81). -/
opaque servoRate : Int → Int → Int

/-- Event number within its class, of the firmware release (R440). DESIGN CHOICE (log 10). -/
opaque evNumber : Machine.EvKind → BitVec 12

/-- Severity of an event, coded as FLAGS [6:5] (R439, R440). DESIGN CHOICE (log 10). -/
opaque evSeverity : Machine.EvKind → BitVec 2

/-- Severity of the class-0 records by event number, and NUMBER in a PAD record, of which the spec says nothing
(R439, R440). DEDUCED (log 11). -/
opaque ringSeverity : Nat → BitVec 2
/-- DEDUCED (log 11). -/
opaque padNumber : Nat → BitVec 32

/-- Payload bytes of an event, from the numbers that the owning chapter says it holds (R440). DESIGN CHOICE (log 10). -/
opaque evPayload : Machine.EvKind → List Int → Bytes

/-- Columns of the check matrix (R106 gives their properties and not the columns): of stored bit `i` below 80, of address
bit `i - 80` from there on. Taken where they have those properties. DESIGN CHOICE (log 9). -/
opaque eccColumn : Nat → BitVec 8

/-- The serial number's 12 characters and the variant, from fuses (R285). DESIGN CHOICE (log 95). -/
opaque serialChar : Nat → Byte
/-- DESIGN CHOICE (log 95). -/
opaque variantC : Bool

/-- Entries of the event list, of the firmware release (R440, R453): class, event number. DESIGN CHOICE (log 95). -/
opaque eventList : Nat → Nat → Bytes

/-- Bytes of commit sets, force changes and yearling reports in OBJECT frames, which R234 names and does not lay out:
a commit set as (index, subindex, value) with client, role, sequence, companion flag, earliest instant and the client and
instant of each entry; a force change as point, word (none
removes), instant, client; a report as sequence, differing points and entries of R183. DESIGN CHOICE (log 62). -/
opaque encCommit : List (Nat × Nat × Bytes) → List Int → Bytes
/-- DESIGN CHOICE (log 62). -/
opaque decCommit : Bytes → Option (List (Nat × Nat × Bytes) × List Int)
/-- DESIGN CHOICE (log 62). -/
opaque encForce : Nat → Option TW → Int → Nat → Bytes
/-- DESIGN CHOICE (log 62). -/
opaque decForce : Bytes → Option (Nat × Option TW × Int × Nat)
/-- DESIGN CHOICE (log 62). -/
opaque encReport : Nat → Nat → List Bytes → Bytes
/-- DESIGN CHOICE (log 62). -/
opaque decReport : Bytes → Option (Nat × Nat × List Bytes)

/-- MAC address of NET0 as a number, from fuses (R311). DESIGN CHOICE (log 95). -/
opaque macBase : Nat

/-- clockAccuracy and offsetScaledLogVariance that the module announces (R349 gives its clockClass and timeSource).
DESIGN CHOICE (log 81). -/
opaque ptpAccuracy : BitVec 8
/-- DESIGN CHOICE (log 81). -/
opaque ptpVariance : BitVec 16

/-- Bytes of an IPv4 header that the spec leaves to the module (R316, R347): 0 type of service, 1 time to live, 2 the
Don't Fragment flag, 3 the identification, by the count of free values taken. DESIGN CHOICE (log 72). -/
opaque ipField : Nat → Nat → Nat

/-- Byte of a VOP-C frame behind its part of the message, by the count of free values taken and its place (R331, which does
not say what such a byte is). DEDUCED (log 76). -/
opaque vopcPad : Nat → Nat → Byte

/-- Word of a publication's element, as publication × 512 + element, that no point of the publishing cycle is bound to
(R319, which does not say what such an element carries). DESIGN CHOICE (log 47). -/
opaque peerUnbound : Nat → TW

/-- The instant of application in the header of a configuration copy, by generation: the copy is written before its Weir
instant is known (R299, R304). DEDUCED (log 67). -/
opaque copyInstant : Nat → Int

/-- Whether a certificate is for the public key of a key pair, and whether one chains to a trust anchor (R323, R472).
DESIGN CHOICE (log 74). -/
opaque certSameKey : Bytes → Bytes → Bool
/-- DESIGN CHOICE (log 74). -/
opaque certChains : Bytes → Bytes → Bool

/-- The public key behind the hash in the service-key fuse (R476): the request does not carry it.
DESIGN CHOICE (log 95). -/
opaque serviceKey : BitVec 384 → Bytes

/-- The DTLS key pair that the runtime generates and the certificate that it signs with it (R472), by the count of free
values taken. DESIGN CHOICE (log 74). -/
opaque newKey : Nat → Bytes
/-- DESIGN CHOICE (log 74). -/
opaque selfCert : Bytes → Bytes

/-- The nonce of a life-cycle request, which changes at every BOOT and at every request (R476): the nonce that follows.
DEDUCED (log 94). -/
opaque nextNonce : Nat → Nat

/-- Whether an image with an identity, which this module does not hold, accepts a firmware release and a hardware issue
(R259, row 0x04): MANIFEST frames carry the identities of images and not their manifests (R234).
DESIGN CHOICE (log 23). -/
opaque imageAccepts : Nat → Nat → Nat → Bool

/-- Head, tail and next NUMBER that a scan of the event ring finds (R464): the spec does not say how it finds them.
DEDUCED (log 91). -/
opaque ringScan : List TW → Nat × Nat × Nat

/-- The phase 2 items of SYNC (R252), which R234 does not lay out: the configuration, the force table, CONSEC and skip count
of each task, and, as numbers, the generation, the directory's companion slot, the active slot and ROLLBK.
DESIGN CHOICE (log 62). -/
opaque encSync2 : List (Nat × Bytes) → List (Nat × TW) → List (Nat × Nat × Nat) → List Nat → List TW
/-- DESIGN CHOICE (log 62). -/
opaque decSync2 : List TW → Option (List (Nat × Bytes) × List (Nat × TW) × List (Nat × Nat × Nat) × List Nat)

/-- Where the datagrams of a session go (R316, R323): MAC address, IPv4 address and UDP port of its client, which the DTLS
handshake brought. DESIGN CHOICE (log 116). -/
opaque dtlsPeer : Nat → BitVec 96
/-- The DTLS 1.3 record that protects a VOP message (R323, RFC 9147), by session and the free counter.
DESIGN CHOICE (log 116). -/
opaque dtlsRecord : Nat → Nat → List (BitVec 8) → List (BitVec 8)

/-- Whether the partner in control has a commit set or an exchange pending, by TIME (R39): no frame reports it to a module in
ISOLATED or SYNC. DESIGN CHOICE (log 103). -/
opaque partnerPending : Int → Bool
/-- The partner's committed split mask (R228), which no frame carries: by its mask in effect and the TIME stamp of its frame.
DEDUCED (log 114). -/
opaque partnerMask : Nat → Int → Nat

/-- Whether the step of BOOT in progress is passed at a tick, by step and TIME tick (R47): BOOT's step times are bounds.
DESIGN CHOICE (log 104). -/
opaque bootAdvance : Nat → Nat → Bool
/-- What a step of BOOT that is passed at a tick has found. DESIGN CHOICE (log 104). -/
opaque bootFound : Nat → BootEnv

/-- The result that a check-value engine leaves when it fails its self-test (R430): another value than the check value.
DESIGN CHOICE (log 128). -/
opaque cvuWrong : Nat → Nat

/-- Where in a data bank the runtime stub saves the registers of a preempted task of a place (R215): the spec names no
area. DESIGN CHOICE (log 34). -/
opaque saveArea : Nat → Nat

/-- Where in a data bank the runtime stub keeps the frame record of a transmit object of a channel (R373): the spec names no
area. DEDUCED (log 84). -/
opaque frameArea : Nat → Nat → Nat

/-- Whether the front lever opens at a tick, by the counter (R261): no command of the table says so.
DEDUCED (log 24). -/
opaque leverOpens : Nat → Bool

/-- `PWR.TEMP` after its first measurement (R505), by the counter: no command of the table brings one.
DESIGN CHOICE (log 117). -/
opaque boardTemp : Nat → BitVec 16

/-- What the front indicators show where the table of R501 has no row: MODE in SAFE, PAIR with two of its three conditions
missing, NETS under traffic, whose rate and colour between flashes it does not give. DESIGN CHOICE (log 100). -/
opaque modeLightSafe : Machine.Light
/-- DESIGN CHOICE (log 100). -/
opaque pairLightOne : Machine.Light
/-- DESIGN CHOICE (log 100). -/
opaque netsTraffic : Machine.Light

end Sys2Proof.Config
end

