-- ==== Sys2Proof/Machine/Flags.lean ====
section
/-! DEFINITION. The tag byte (R54 to R60): fields, the default propagation of R58, and integer narrowing (R75). -/

namespace Sys2Proof.Machine

/-- Type codes (R55). -/
def tyInt : Nat := 0
def tyUint : Nat := 1
def tyFloat : Nat := 2
def tyTime : Nat := 3
def tyBits : Nat := 4
def tyEnum : Nat := 5
def tyRef : Nat := 6
def tyPair : Nat := 7

/-- Quality codes in their order (R57). -/
def qBad : Nat := 0
def qUncertain : Nat := 1
def qSubst : Nat := 2
def qGood : Nat := 3

def tagQ (t : BitVec 8) : Nat := t.toNat / 64
def tagF (t : BitVec 8) : Bool := t.getLsbD 5
def tagL (t : BitVec 8) : Bool := t.getLsbD 4
def tagT (t : BitVec 8) : Nat := t.toNat % 16

/-- Quality × 0x40 + Forced × 0x20 + Limit × 0x10 + Type (R55). -/
def mkTag (q : Nat) (f l : Bool) (ty : Nat) : BitVec 8 :=
  BitVec.ofNat 8 (q % 4 * 64 + (if f then 32 else 0) + (if l then 16 else 0) + ty % 16)

/-- GOOD with Limit and Forced clear (R8, R58). -/
def goodTag (ty : Nat) : BitVec 8 := mkTag qGood false false ty

end Sys2Proof.Machine

namespace Sys2Proof

def TW.ty (w : TW) : Nat := Machine.tagT w.tag
def TW.q (w : TW) : Nat := Machine.tagQ w.tag
def TW.forced (w : TW) : Bool := Machine.tagF w.tag
def TW.limit (w : TW) : Bool := Machine.tagL w.tag
/-- Whether a word's type code is reserved (R55, R68). -/
def TW.reserved (w : TW) : Bool := decide (8 ≤ w.ty)

end Sys2Proof

namespace Sys2Proof.Machine

/-- GOOD INT64, as a CSR read returns it (R8). -/
def goodInt (v : Nat) : TW := ⟨BitVec.ofNat 64 v, goodTag tyInt⟩
def goodBits (v : Nat) : TW := ⟨BitVec.ofNat 64 v, goodTag tyBits⟩
def goodTime (v : Int) : TW := ⟨BitVec.ofInt 64 v, goodTag tyTime⟩

/-- Lowest quality of the contributing operands, Limit and Forced ORed (R58). -/
structure Contrib where
  q : Nat
  limit : Bool
  forced : Bool
  deriving DecidableEq, Repr

def contrib : List TW → Contrib
  | [] => ⟨qGood, false, false⟩
  | w :: l =>
    let c := contrib l
    ⟨min (w.q) c.q, w.limit || c.limit, w.forced || c.forced⟩

/-- The default result tag (R58), with Limit also set by the instruction. -/
def Contrib.tag (c : Contrib) (lim : Bool) (ty : Nat) : BitVec 8 := mkTag c.q c.forced (c.limit || lim) ty

/-- A result whose quality the instruction lowers to `q` (never raises). -/
def Contrib.tagAt (c : Contrib) (q : Nat) (lim : Bool) (ty : Nat) : BitVec 8 :=
  mkTag (min q c.q) c.forced (c.limit || lim) ty

/-- Nearest value of the range and whether it moved (R75). -/
def saturate (lo hi v : Int) : Int × Bool :=
  if v < lo then (lo, true) else if hi < v then (hi, true) else (v, false)

def int64Min : Int := -(2 ^ 63)
def int64Max : Int := 2 ^ 63 - 1
def uint64Max : Int := 2 ^ 64 - 1

/-- The integer that an INT64, TIME or UINT64 operand stands for. -/
def intOf (ty : Nat) (w : Word) : Int := if ty = tyUint then (w.toNat : Int) else w.toInt

/-- An exact integer result in 64 bits: wrapped, or saturated with Limit (R75). -/
def narrow (ty : Nat) (wrap : Bool) (v : Int) : Word × Bool :=
  if wrap then (BitVec.ofInt 64 v, false)
  else
    let p := if ty = tyUint then saturate 0 uint64Max v else saturate int64Min int64Max v
    (BitVec.ofInt 64 p.1, p.2)

/-- One signed 32-bit lane of a PAIR32 result. -/
def narrow32 (wrap : Bool) (v : Int) : BitVec 32 × Bool :=
  if wrap then (BitVec.ofInt 32 v, false)
  else
    let p := saturate (-(2 ^ 31)) (2 ^ 31 - 1) v
    (BitVec.ofInt 32 p.1, p.2)

def laneHi (w : Word) : Int := (w.extractLsb' 32 32).toInt
def laneLo (w : Word) : Int := (w.extractLsb' 0 32).toInt
def packLanes (hi lo : BitVec 32) : Word := hi ++ lo

end Sys2Proof.Machine
end

