-- ==== Sys2Proof/Machine/Reg.lean ====
section
/-! DEFINITION. The registers of the CSR window (R13, R103), field by field, as the register tables of the chapters
give them: word address, lowest bit, width, access code (R9, R11), reset value. Hidden state is in State.lean. -/

namespace Sys2Proof.Machine

/-- Access codes of the register tables (R9): read only, read-write, write 1 to clear, write 1 to set, write only,
read-write until locked. -/
inductive Acc where
  | ro | rw | w1c | w1s | wo | rwl
  deriving DecidableEq, Repr

/-- One field of a control and status register. -/
structure Fld where
  addr : Nat
  lsb : Nat
  width : Nat
  acc : Acc
  reset : Nat
  deriving DecidableEq, Repr

/-- The key of a field in the register file: word address and lowest bit. -/
def Fld.key (f : Fld) : Nat := f.addr * 32 + f.lsb

namespace Reg

/-! PWR, modes (R50) -/
def modeCur : Fld := ⟨0xF0010100, 0, 3, .ro, 1⟩
def modePrev : Fld := ⟨0xF0010100, 4, 3, .ro, 0⟩
def modePartner : Fld := ⟨0xF0010100, 8, 3, .ro, 0⟩
def modePvalid : Fld := ⟨0xF0010100, 11, 1, .ro, 0⟩
def modeInctrl : Fld := ⟨0xF0010100, 12, 1, .ro, 0⟩
def modeDrive : Fld := ⟨0xF0010100, 13, 1, .ro, 0⟩
def modeToggle : Fld := ⟨0xF0010100, 14, 1, .ro, 0⟩
def modeLink : Fld := ⟨0xF0010100, 15, 1, .ro, 0⟩
def modeCause : Fld := ⟨0xF0010100, 16, 8, .ro, 0⟩
def cntTrans : Fld := ⟨0xF0010101, 0, 16, .ro, 0⟩
def cntSafe : Fld := ⟨0xF0010101, 16, 16, .ro, 0⟩
def reqTarget : Fld := ⟨0xF0010102, 0, 3, .wo, 0⟩
def reqCause : Fld := ⟨0xF0010102, 8, 8, .wo, 0⟩
def reqGo : Fld := ⟨0xF0010102, 31, 1, .wo, 0⟩
def reqBusy : Fld := ⟨0xF0010103, 0, 1, .ro, 0⟩
def reqRefused : Fld := ⟨0xF0010103, 1, 1, .w1c, 0⟩
def reqLasttgt : Fld := ⟨0xF0010103, 4, 3, .ro, 0⟩
def bootStep : Fld := ⟨0xF0010104, 0, 4, .ro, 0⟩
def bootFail : Fld := ⟨0xF0010104, 4, 1, .ro, 0⟩
def bootFwslot : Fld := ⟨0xF0010104, 5, 1, .ro, 0⟩
def bootFwfallback : Fld := ⟨0xF0010104, 6, 1, .ro, 0⟩
def bootImgslot : Fld := ⟨0xF0010104, 7, 2, .ro, 0⟩
def bootMfref : Fld := ⟨0xF0010104, 9, 1, .ro, 0⟩
def bootSpinj : Fld := ⟨0xF0010104, 10, 1, .ro, 0⟩
def bootPairinj : Fld := ⟨0xF0010104, 12, 12, .ro, 0⟩
def safeCount : Fld := ⟨0xF0010105, 0, 32, .ro, 0⟩

/-! PWR, feeds, speed, memory (R479, R505, R112) -/
def feedA : Fld := ⟨0xF0010000, 0, 1, .ro, 0⟩
def feedB : Fld := ⟨0xF0010000, 1, 1, .ro, 0⟩
def holdv : Fld := ⟨0xF0010000, 2, 1, .ro, 0⟩
def cellMv : Fld := ⟨0xF0010000, 16, 16, .ro, 0⟩
def feedVa : Fld := ⟨0xF0010001, 0, 16, .ro, 0⟩
def feedVb : Fld := ⟨0xF0010001, 16, 16, .ro, 0⟩
def tempBoard : Fld := ⟨0xF0010002, 0, 8, .ro, 0⟩
def tempMaxb : Fld := ⟨0xF0010002, 8, 8, .ro, 0x80⟩
def aloss : Fld := ⟨0xF0010003, 0, 8, .ro, 0⟩
def bloss : Fld := ⟨0xF0010003, 8, 8, .ro, 0⟩
/-- Unit index of the speed registers: clusters 0 to 2, then 3 for SP. -/
def spdSpeed (u : Nat) : Fld := ⟨0xF0010200 + u, 0, 16, .ro, 0⟩
def spdBelow (u : Nat) : Fld := ⟨0xF0010200 + u, 16, 1, .w1c, 0⟩
def spdAtmax (u : Nat) : Fld := ⟨0xF0010200 + u, 17, 1, .ro, 0⟩
def spdTj (u : Nat) : Fld := ⟨0xF0010200 + u, 24, 8, .ro, 0⟩
def vltVolt (u : Nat) : Fld := ⟨0xF0010208 + u, 0, 10, .ro, 900⟩
def vltBias (u : Nat) : Fld := ⟨0xF0010208 + u, 12, 2, .ro, 0⟩
def avsTarget : Fld := ⟨0xF0010210, 0, 16, .rw, 672⟩
def avsHyst : Fld := ⟨0xF0010210, 16, 8, .rw, 32⟩
def avsFixv : Fld := ⟨0xF0010210, 24, 1, .rw, 0⟩
def fixVolt : Fld := ⟨0xF0010211, 0, 10, .rw, 800⟩
def fixClmask : Fld := ⟨0xF0010211, 12, 3, .rw, 0⟩
def eccCe : Fld := ⟨0xF0010300, 0, 24, .ro, 0⟩
def eccUe : Fld := ⟨0xF0010300, 24, 8, .ro, 0⟩
def eccAddr : Fld := ⟨0xF0010301, 0, 32, .ro, 0⟩
def eccKind : Fld := ⟨0xF0010302, 0, 2, .ro, 0⟩
def eccAgent : Fld := ⟨0xF0010302, 4, 3, .ro, 0⟩
def eccSynd : Fld := ⟨0xF0010302, 8, 8, .ro, 0⟩
def eccArea : Fld := ⟨0xF0010302, 16, 3, .ro, 0⟩
def eccRwue : Fld := ⟨0xF0010302, 24, 1, .ro, 0⟩
def scrubThup : Fld := ⟨0xF0010303, 0, 8, .rw, 4⟩
def scrubHolddn : Fld := ⟨0xF0010303, 8, 8, .rw, 64⟩
def scrubMaxlvl : Fld := ⟨0xF0010303, 16, 2, .rw, 3⟩
def scrubLvl : Fld := ⟨0xF0010304, 0, 2, .ro, 0⟩
def scrubSpass : Fld := ⟨0xF0010304, 8, 8, .ro, 0⟩
def scrubMpass : Fld := ⟨0xF0010304, 16, 8, .ro, 0⟩
def scrubPos : Fld := ⟨0xF0010305, 0, 32, .ro, 0⟩
def scrubMpos : Fld := ⟨0xF0010306, 0, 32, .ro, 0⟩
/-- PWR.SLEEPp, one per pair CP0 to CP11 (R479). -/
def sleepMode (p : Nat) : Fld := ⟨0xF0010400 + p, 0, 1, .rw, 0⟩
def sleepState (p : Nat) : Fld := ⟨0xF0010400 + p, 4, 2, .ro, 0⟩
def wakeSrc : Fld := ⟨0xF0010420, 0, 4, .ro, 0⟩
def wakeUnit : Fld := ⟨0xF0010420, 8, 4, .ro, 0⟩
def wakeAtl : Fld := ⟨0xF0010421, 0, 32, .ro, 0⟩
def wakeAth : Fld := ⟨0xF0010422, 0, 32, .ro, 0⟩
def wakeWakes : Fld := ⟨0xF0010423, 0, 16, .ro, 0⟩
def wakeEarly : Fld := ⟨0xF0010423, 16, 16, .ro, 0⟩
def wakeenMnb : Fld := ⟨0xF0010424, 0, 1, .rw, 1⟩

/-! DRV (R148) -/
def drvActive : Fld := ⟨0xF0020000, 0, 1, .ro, 0⟩
def drvShadow : Fld := ⟨0xF0020000, 1, 1, .ro, 0⟩
def drvUpend : Fld := ⟨0xF0020000, 8, 8, .ro, 0⟩
def drvUrun : Fld := ⟨0xF0020000, 16, 8, .ro, 0⟩
def drvIgnw : Fld := ⟨0xF0020000, 24, 8, .w1c, 0⟩
def ovrSkip : Fld := ⟨0xF0020001, 0, 16, .ro, 0⟩
def ovrLate : Fld := ⟨0xF0020001, 16, 16, .ro, 0⟩
def dozeEn : Fld := ⟨0xF0020002, 0, 1, .rw, 1⟩
def dozeLead : Fld := ⟨0xF0020002, 8, 8, .rw, 0x28⟩
def dozeMinidle : Fld := ⟨0xF0020002, 16, 16, .rw, 0xC8⟩
def weirArm : Fld := ⟨0xF0020003, 0, 1, .rw, 0⟩
def weirKind : Fld := ⟨0xF0020003, 1, 1, .rw, 0⟩
def weirHorizon : Fld := ⟨0xF0020003, 8, 16, .rw, 0x2EE0⟩
def weirAtl : Fld := ⟨0xF0020004, 0, 32, .rw, 0⟩
def weirAth : Fld := ⟨0xF0020005, 0, 32, .rw, 0⟩
def weirBl : Fld := ⟨0xF0020006, 0, 32, .ro, 0⟩
def weirBh : Fld := ⟨0xF0020007, 0, 32, .ro, 0⟩
def weirState : Fld := ⟨0xF0020008, 0, 3, .ro, 0⟩
def weirCancel : Fld := ⟨0xF0020008, 8, 8, .ro, 0⟩
def usoftTrig : Fld := ⟨0xF0020010, 0, 8, .w1s, 0⟩
/-- Word address of register `o` of task `n`'s group (R148). -/
def drvGroup (n o : Nat) : Nat := 0xF0020100 + n * 16 + o
def tcfgEn (n : Nat) : Fld := ⟨drvGroup n 0, 0, 1, .rw, 0⟩
def tcfgPair (n : Nat) : Fld := ⟨drvGroup n 0, 4, 4, .rw, 0⟩
def tcfgSafety (n : Nat) : Fld := ⟨drvGroup n 0, 8, 1, .rw, 0⟩
def tcfgDivpol (n : Nat) : Fld := ⟨drvGroup n 0, 9, 1, .rw, 0⟩
def tcfgSkiplim (n : Nat) : Fld := ⟨drvGroup n 0, 16, 8, .rw, 3⟩
def tperN (n : Nat) : Fld := ⟨drvGroup n 1, 0, 19, .rw, 0x50⟩
def tphase (n : Nat) : Fld := ⟨drvGroup n 2, 0, 19, .rw, 0⟩
def toutOfs (n : Nat) : Fld := ⟨drvGroup n 3, 0, 26, .rw, 0x1388⟩
def utrigSrc (n : Nat) : Fld := ⟨drvGroup n 1, 0, 2, .rw, 0⟩
def utrigCh (n : Nat) : Fld := ⟨drvGroup n 1, 4, 4, .rw, 0⟩
def utrigFilt (n : Nat) : Fld := ⟨drvGroup n 1, 8, 7, .rw, 0⟩
def umiatUs (n : Nat) : Fld := ⟨drvGroup n 2, 0, 26, .rw, 0x2710⟩
def tbud (n : Nat) : Fld := ⟨drvGroup n 4, 0, 32, .rw, 0⟩
def tentry (n : Nat) : Fld := ⟨drvGroup n 5, 0, 22, .rw, 0⟩
def tsnap (n : Nat) : Fld := ⟨drvGroup n 6, 0, 22, .rw, 0⟩
def tsnapc (n : Nat) : Fld := ⟨drvGroup n 7, 0, 17, .rw, 0⟩
def tscr (n : Nat) : Fld := ⟨drvGroup n 8, 0, 22, .rw, 0⟩
def tscrl (n : Nat) : Fld := ⟨drvGroup n 9, 0, 16, .rw, 0⟩
def tstState (n : Nat) : Fld := ⟨drvGroup n 10, 0, 3, .ro, 0⟩
def tstConsec (n : Nat) : Fld := ⟨drvGroup n 10, 8, 8, .ro, 0⟩
def tstAband (n : Nat) : Fld := ⟨drvGroup n 10, 16, 4, .ro, 0⟩
def tstDisc (n : Nat) : Fld := ⟨drvGroup n 10, 20, 4, .ro, 0⟩
def tstMerge (n : Nat) : Fld := ⟨drvGroup n 10, 24, 8, .ro, 0⟩
def tskip (n : Nat) : Fld := ⟨drvGroup n 11, 0, 32, .ro, 0⟩
def tlate (n : Nat) : Fld := ⟨drvGroup n 12, 0, 32, .ro, 0⟩
def tmax (n : Nat) : Fld := ⟨drvGroup n 13, 0, 32, .ro, 0⟩
def tlast (n : Nat) : Fld := ⟨drvGroup n 14, 0, 32, .ro, 0⟩
def trel (n : Nat) : Fld := ⟨drvGroup n 15, 0, 32, .ro, 0⟩

/-! XCH (R200) -/
def xchActive : Fld := ⟨0xF0110000, 0, 1, .ro, 0⟩
def xchAvalid : Fld := ⟨0xF0110000, 1, 1, .ro, 0⟩
def xchBvalid : Fld := ⟨0xF0110000, 2, 1, .ro, 0⟩
def xchFree : Fld := ⟨0xF0110000, 3, 1, .ro, 1⟩
def xchRollbk : Fld := ⟨0xF0110000, 4, 1, .ro, 0⟩
def xchOp : Fld := ⟨0xF0110001, 0, 4, .wo, 0⟩
def xchGo : Fld := ⟨0xF0110001, 31, 1, .wo, 0⟩
def xchState : Fld := ⟨0xF0110002, 0, 4, .ro, 0⟩
def xchErr : Fld := ⟨0xF0110002, 8, 8, .ro, 0⟩
def xchDirtycan : Fld := ⟨0xF0110002, 16, 8, .ro, 0⟩
def trialCycles : Fld := ⟨0xF0110003, 0, 16, .rw, 0x3E8⟩
def trialDone : Fld := ⟨0xF0110003, 16, 16, .ro, 0⟩
def repSeq : Fld := ⟨0xF0110004, 0, 16, .ro, 0⟩
def repEntries : Fld := ⟨0xF0110004, 16, 13, .ro, 0⟩
def repOvf : Fld := ⟨0xF0110004, 29, 1, .ro, 0⟩
def xchDiff : Fld := ⟨0xF0110005, 0, 32, .ro, 0⟩
def xchDirtys : Fld := ⟨0xF0110006, 0, 32, .ro, 0⟩
def xchDirtyr : Fld := ⟨0xF0110007, 0, 32, .ro, 0⟩
/-- `k` = 0 IDAL, 1 IDAH, 2 IDBL, 3 IDBH. -/
def xchId (k : Nat) : Fld := ⟨0xF0110008 + k, 0, 32, .ro, 0⟩
def rstKind : Fld := ⟨0xF011000C, 0, 2, .ro, 0⟩
def rstWref : Fld := ⟨0xF011000C, 4, 3, .ro, 0⟩

/-! LKS (R229); unit 12 is SP -/
def splitMask : Fld := ⟨0xF0030000, 0, 12, .rwl, 0⟩
def splitPend : Fld := ⟨0xF0030000, 16, 1, .ro, 0⟩
def splitLock : Fld := ⟨0xF0030000, 31, 1, .w1s, 0⟩
def fstValid : Fld := ⟨0xF0030001, 0, 1, .ro, 0⟩
def fstKind : Fld := ⟨0xF0030001, 4, 4, .ro, 0⟩
def fstUnit : Fld := ⟨0xF0030001, 8, 4, .ro, 0⟩
def fstTask : Fld := ⟨0xF0030001, 16, 5, .ro, 0⟩
def fstPriv : Fld := ⟨0xF0030001, 21, 1, .ro, 0⟩
def fstMore : Fld := ⟨0xF0030001, 24, 1, .ro, 0⟩
def ftoken : Fld := ⟨0xF0030002, 0, 22, .ro, 0⟩
def faddr : Fld := ⟨0xF0030003, 0, 32, .ro, 0⟩
def fxor0 : Fld := ⟨0xF0030004, 0, 32, .ro, 0⟩
def fxor1 : Fld := ⟨0xF0030005, 0, 32, .ro, 0⟩
def fxor2 : Fld := ⟨0xF0030006, 0, 8, .ro, 0⟩
def injPair : Fld := ⟨0xF0030008, 0, 4, .rw, 0⟩
def injGo : Fld := ⟨0xF0030008, 31, 1, .wo, 0⟩
def injBusy : Fld := ⟨0xF0030009, 0, 1, .ro, 0⟩
def injResult : Fld := ⟨0xF0030009, 1, 2, .ro, 0⟩
def injLane : Fld := ⟨0xF0030009, 8, 7, .ro, 0x7F⟩
def injEntry : Fld := ⟨0xF0030009, 16, 3, .ro, 0⟩
def ustSplit (u : Nat) : Fld := ⟨0xF0030100 + u * 8, 0, 1, .ro, 0⟩
def ustMaxocc (u : Nat) : Fld := ⟨0xF0030100 + u * 8, 4, 4, .ro, 0⟩
def ustSeals (u : Nat) : Fld := ⟨0xF0030100 + u * 8, 16, 16, .ro, 0⟩
/-- `k` = 0 SEALL, 1 SEALH, 2 SEAL1L, 3 SEAL1H. -/
def lksSeal (u k : Nat) : Fld := ⟨0xF0030100 + u * 8 + 1 + k, 0, 32, .ro, 0⟩

/-! BLW and EWX (R261, R262) -/
def blwPos : Fld := ⟨0xF0040000, 0, 1, .ro, 0⟩
def prefpri : Fld := ⟨0xF0040001, 0, 1, .rw, 0⟩
def convlim : Fld := ⟨0xF0040001, 4, 10, .rw, 0xA⟩
def evLinka : Fld := ⟨0xF0040002, 0, 1, .ro, 0⟩
def evLinkb : Fld := ⟨0xF0040002, 1, 1, .ro, 0⟩
def evToggle : Fld := ⟨0xF0040002, 2, 1, .ro, 0⟩
def evOwntog : Fld := ⟨0xF0040002, 3, 1, .ro, 0⟩
def evRlfault : Fld := ⟨0xF0040002, 8, 1, .w1c, 0⟩
def evSplitev : Fld := ⟨0xF0040002, 9, 1, .w1c, 0⟩
def evTakeover : Fld := ⟨0xF0040002, 10, 1, .w1c, 0⟩
def sealCmp : Fld := ⟨0xF0040003, 0, 16, .ro, 0⟩
def sealDis : Fld := ⟨0xF0040003, 16, 8, .ro, 0⟩
def sealMiss : Fld := ⟨0xF0040003, 24, 8, .ro, 0⟩
def sfValid : Fld := ⟨0xF0040004, 0, 1, .ro, 0⟩
def sfTask : Fld := ⟨0xF0040004, 4, 5, .ro, 0⟩
def sfUnit : Fld := ⟨0xF0040004, 12, 4, .ro, 0⟩
def sfState : Fld := ⟨0xF0040004, 16, 1, .ro, 0⟩
def sfOutput : Fld := ⟨0xF0040004, 17, 1, .ro, 0⟩
def sfStore : Fld := ⟨0xF0040004, 18, 1, .ro, 0⟩
def sfMissing : Fld := ⟨0xF0040004, 19, 1, .ro, 0⟩
def sfCore1 : Fld := ⟨0xF0040004, 20, 1, .ro, 0⟩
def sfAtl : Fld := ⟨0xF0040005, 0, 32, .ro, 0⟩
def sfAth : Fld := ⟨0xF0040006, 0, 32, .ro, 0⟩
def diagState : Fld := ⟨0xF0040007, 0, 2, .ro, 0⟩
def diagOwn : Fld := ⟨0xF0040007, 4, 2, .ro, 0⟩
def diagPart : Fld := ⟨0xF0040007, 8, 2, .ro, 0⟩
def diagUnits : Fld := ⟨0xF0040007, 16, 13, .ro, 0⟩
def resyncCount : Fld := ⟨0xF0040008, 0, 8, .ro, 0⟩
def syncPhase : Fld := ⟨0xF0040009, 0, 4, .ro, 0⟩
def syncPasses : Fld := ⟨0xF0040009, 8, 8, .ro, 0⟩
def syncAbort : Fld := ⟨0xF0040009, 16, 4, .ro, 0⟩
def syncDs : Fld := ⟨0xF004000A, 0, 23, .ro, 0⟩
def syncDr : Fld := ⟨0xF004000B, 0, 23, .ro, 0⟩
def intentSw : Fld := ⟨0xF004000C, 0, 1, .ro, 0⟩
def intentSeen : Fld := ⟨0xF004000C, 1, 1, .w1c, 0⟩
def joinref : Fld := ⟨0xF004000D, 0, 8, .ro, 0⟩
def ownfwRel : Fld := ⟨0xF004000E, 0, 16, .ro, 0⟩
def ownfwClass : Fld := ⟨0xF004000E, 16, 16, .ro, 0⟩
def pfwRel : Fld := ⟨0xF004000F, 0, 16, .ro, 0⟩
def pfwClass : Fld := ⟨0xF004000F, 16, 16, .ro, 0⟩
/-- Lane 0 is A, lane 1 is B. -/
def laneTrained (l : Nat) : Fld := ⟨0xF0050000 + l, 0, 1, .ro, 0⟩
def laneUp (l : Nat) : Fld := ⟨0xF0050000 + l, 1, 1, .ro, 0⟩
def laneRetrain (l : Nat) : Fld := ⟨0xF0050000 + l, 2, 1, .w1s, 0⟩
def laneTrains (l : Nat) : Fld := ⟨0xF0050000 + l, 8, 8, .ro, 0⟩
def laneDowns (l : Nat) : Fld := ⟨0xF0050000 + l, 16, 8, .ro, 0⟩
def ewxCrc (l : Nat) : Fld := ⟨0xF0050002 + l, 0, 32, .ro, 0⟩
def ewxDisc : Fld := ⟨0xF0050004, 0, 32, .ro, 0⟩
def ewxRetx : Fld := ⟨0xF0050005, 0, 32, .ro, 0⟩
def ewxLat (l : Nat) : Fld := ⟨0xF0050006, 16 * l, 16, .ro, 0⟩
def ewxStripe : Fld := ⟨0xF0050007, 0, 2, .ro, 3⟩

/-! TMB and PTP (R356, R357) -/
def tmbState : Fld := ⟨0xF0060000, 0, 3, .rw, 0⟩
def tmbLock : Fld := ⟨0xF0060000, 3, 1, .ro, 0⟩
def tmbStepped : Fld := ⟨0xF0060000, 4, 1, .ro, 0⟩
def tmbArmed : Fld := ⟨0xF0060000, 5, 1, .ro, 0⟩
def tmbPll : Fld := ⟨0xF0060000, 6, 1, .ro, 0⟩
def tmbFault : Fld := ⟨0xF0060000, 7, 1, .ro, 0⟩
def tmbPairfar : Fld := ⟨0xF0060000, 8, 1, .w1c, 0⟩
def tmbMonrun : Fld := ⟨0xF0060000, 9, 3, .ro, 0⟩
def nowsl : Fld := ⟨0xF0060001, 0, 32, .ro, 0⟩
def nowsh : Fld := ⟨0xF0060002, 0, 16, .ro, 0⟩
def nowns : Fld := ⟨0xF0060003, 0, 30, .ro, 0⟩
def nowfr : Fld := ⟨0xF0060004, 0, 16, .ro, 0⟩
def tmbRate : Fld := ⟨0xF0060005, 0, 32, .rw, 0⟩
def tmbStepl : Fld := ⟨0xF0060006, 0, 32, .rw, 0⟩
def tmbSteph : Fld := ⟨0xF0060007, 0, 32, .rw, 0⟩
def stepGo : Fld := ⟨0xF0060008, 0, 1, .wo, 0⟩
def stepRefused : Fld := ⟨0xF0060008, 1, 1, .w1c, 0⟩
def stepCase : Fld := ⟨0xF0060008, 4, 2, .wo, 0⟩
def tmbSteps : Fld := ⟨0xF0060009, 0, 8, .ro, 0⟩
def tmbRateref : Fld := ⟨0xF0060009, 8, 8, .ro, 0⟩
def tmbDisc : Fld := ⟨0xF0060009, 16, 16, .ro, 0⟩
def monDev : Fld := ⟨0xF006000A, 0, 16, .ro, 0⟩
def monFails : Fld := ⟨0xF006000A, 16, 16, .ro, 0⟩
def pairofs : Fld := ⟨0xF006000B, 0, 32, .ro, 0⟩
def ptpEn : Fld := ⟨0xF0070000, 0, 1, .rw, 0⟩
def ptpProfile : Fld := ⟨0xF0070000, 1, 1, .rw, 0⟩
def ptpMap : Fld := ⟨0xF0070000, 2, 1, .rw, 0⟩
def ptpRole : Fld := ⟨0xF0070000, 4, 2, .rw, 0⟩
def ptpDomain : Fld := ⟨0xF0070000, 8, 8, .rw, 0⟩
def ptpPcp : Fld := ⟨0xF0070000, 16, 3, .rw, 7⟩
def ptpPort (p : Nat) : Fld := ⟨0xF0070001 + p, 0, 4, .ro, 1⟩
def ptpOfs : Fld := ⟨0xF0070003, 0, 32, .ro, 0⟩
def ptpMpd : Fld := ⟨0xF0070004, 0, 32, .ro, 0⟩
def ptpCorTx (p : Nat) : Fld := ⟨0xF0070005 + p, 0, 16, .ro, 0x70⟩
def ptpCorRx (p : Nat) : Fld := ⟨0xF0070005 + p, 16, 16, .ro, 0xB8⟩
def ptpAsym (p : Nat) : Fld := ⟨0xF0070007 + p, 0, 32, .rw, 0⟩
def ptpExtTx (p : Nat) : Fld := ⟨0xF0070009 + p, 0, 16, .rw, 0⟩
def ptpExtRx (p : Nat) : Fld := ⟨0xF0070009 + p, 16, 16, .rw, 0⟩
def ptpGml : Fld := ⟨0xF007000B, 0, 32, .ro, 0⟩
def ptpGmh : Fld := ⟨0xF007000C, 0, 32, .ro, 0⟩
def ptpUtc : Fld := ⟨0xF007000D, 0, 16, .ro, 0⟩
def ptpUtcValid : Fld := ⟨0xF007000D, 16, 1, .ro, 0⟩

/-! CAN (R383); channel `n`, C = 0xF009_0000 + n × 0x1000. The object window is held in `CanChan`. -/
def canBase (n : Nat) : Nat := 0xF0090000 + n * 0x1000
def canMode (n : Nat) : Fld := ⟨canBase n, 0, 2, .ro, 1⟩
def canRecover (n : Nat) : Fld := ⟨canBase n, 4, 1, .w1s, 0⟩
/-- Fuse field; R380 makes CAN12 to CAN15 the autonomous class. -/
def canClass (n : Nat) : Fld := ⟨canBase n, 5, 1, .ro, if 12 ≤ n then 1 else 0⟩
def canCfgen (n : Nat) : Fld := ⟨canBase n, 8, 1, .rw, 0⟩
def canVopc (n : Nat) : Fld := ⟨canBase n, 9, 1, .ro, 0⟩
def nbtBrp (n : Nat) : Fld := ⟨canBase n + 1, 0, 8, .rw, 0x01⟩
def nbtSeg1 (n : Nat) : Fld := ⟨canBase n + 1, 8, 8, .rw, 0x1E⟩
def nbtSeg2 (n : Nat) : Fld := ⟨canBase n + 1, 16, 7, .rw, 0x07⟩
def nbtSjw (n : Nat) : Fld := ⟨canBase n + 1, 24, 7, .rw, 0x07⟩
def dbtBrp (n : Nat) : Fld := ⟨canBase n + 2, 0, 5, .rw, 0⟩
def dbtSeg1 (n : Nat) : Fld := ⟨canBase n + 2, 8, 5, .rw, 0x0E⟩
def dbtSeg2 (n : Nat) : Fld := ⟨canBase n + 2, 16, 4, .rw, 0x3⟩
def dbtSjw (n : Nat) : Fld := ⟨canBase n + 2, 24, 4, .rw, 0x3⟩
def dbtTdc (n : Nat) : Fld := ⟨canBase n + 2, 31, 1, .rw, 1⟩
def tdcoOffset (n : Nat) : Fld := ⟨canBase n + 3, 0, 7, .rw, 0x10⟩
def canState (n : Nat) : Fld := ⟨canBase n + 8, 0, 2, .ro, 0⟩
def canIdle (n : Nat) : Fld := ⟨canBase n + 8, 2, 1, .ro, 0⟩
def canLock (n : Nat) : Fld := ⟨canBase n + 8, 3, 1, .ro, 0⟩
def canLockobj (n : Nat) : Fld := ⟨canBase n + 8, 8, 8, .ro, 0⟩
def canPosts (n : Nat) : Fld := ⟨canBase n + 8, 16, 9, .ro, 0⟩
def canHold (n : Nat) : Fld := ⟨canBase n + 8, 25, 1, .ro, 0⟩
def canTec (n : Nat) : Fld := ⟨canBase n + 9, 0, 8, .ro, 0⟩
def canRec (n : Nat) : Fld := ⟨canBase n + 9, 8, 7, .ro, 0⟩
def canRp (n : Nat) : Fld := ⟨canBase n + 9, 15, 1, .ro, 0⟩
def canLec (n : Nat) : Fld := ⟨canBase n + 9, 16, 4, .ro, 0⟩
def canDlec (n : Nat) : Fld := ⟨canBase n + 9, 20, 4, .ro, 0⟩
/-- Saturating counter `k`: 0 RXOK, 1 TXOK, 2 FMISS, 3 OVR, 4 BOFF, 5 LERR, 6 RTR, 7 SHORT, 8 TXREPL, 9 TXDISC,
10 LOCKAB. -/
def canCnt (n k : Nat) : Fld := ⟨canBase n + 0x10 + k, 0, 32, .ro, 0⟩
def moselObj (n : Nat) : Fld := ⟨canBase n + 0x20, 0, 8, .rw, 0⟩
def txpost (n : Nat) : Fld := ⟨canBase n + 0x40, 0, 22, .wo, 0⟩
def fctlKind (n e : Nat) : Fld := ⟨canBase n + 0x400 + e * 4, 0, 3, .rw, 0⟩
def fctlIde (n e : Nat) : Fld := ⟨canBase n + 0x400 + e * 4, 3, 1, .rw, 0⟩
def fctlUrgent (n e : Nat) : Fld := ⟨canBase n + 0x400 + e * 4, 4, 1, .rw, 0⟩
def fctlReject (n e : Nat) : Fld := ⟨canBase n + 0x400 + e * 4, 5, 1, .rw, 0⟩
def fctlObj (n e : Nat) : Fld := ⟨canBase n + 0x400 + e * 4, 8, 8, .rw, 0⟩
def fid1 (n e : Nat) : Fld := ⟨canBase n + 0x400 + e * 4 + 1, 0, 29, .rw, 0⟩
def fid2 (n e : Nat) : Fld := ⟨canBase n + 0x400 + e * 4 + 2, 0, 29, .rw, 0⟩

/-! ALP and HRT (R405, R406) -/
def fsupVolt : Fld := ⟨0xF00A0000, 0, 12, .ro, 0⟩
def fsupLow : Fld := ⟨0xF00A0000, 16, 1, .ro, 0⟩
def aoGroup (n o : Nat) : Nat := 0xF00A0100 + n * 16 + o
def aoFloor (n : Nat) : Fld := ⟨aoGroup n 0, 0, 2, .ro, 0⟩
def aoGuard (n : Nat) : Fld := ⟨aoGroup n 0, 2, 1, .ro, 0⟩
def aoSusp (n : Nat) : Fld := ⟨aoGroup n 0, 3, 1, .ro, 0⟩
def aoFlags (n : Nat) : Fld := ⟨aoGroup n 0, 16, 11, .ro, 0⟩
def aoC (n : Nat) : Fld := ⟨aoGroup n 1, 0, 25, .ro, 0⟩
def aopC (n : Nat) : Fld := ⟨aoGroup n 2, 0, 25, .ro, 0⟩
def aopValid (n : Nat) : Fld := ⟨aoGroup n 2, 31, 1, .ro, 0⟩
def aoOwn (n : Nat) : Fld := ⟨aoGroup n 3, 0, 25, .ro, 0⟩
def aoTot (n : Nat) : Fld := ⟨aoGroup n 4, 0, 25, .ro, 0⟩
def aoHead (n : Nat) : Fld := ⟨aoGroup n 5, 0, 16, .ro, 0⟩
def aoSafe (n : Nat) : Fld := ⟨aoGroup n 6, 0, 25, .rw, 0⟩
def aoLimMin (n : Nat) : Fld := ⟨aoGroup n 7, 0, 16, .rw, 0x0ED8⟩
def aoLimMax (n : Nat) : Fld := ⟨aoGroup n 7, 16, 16, .rw, 0x5014⟩
def aiGroup (n o : Nat) : Nat := 0xF00A0200 + n * 16 + o
def aiRawA (n : Nat) : Fld := ⟨aiGroup n 0, 0, 24, .ro, 0⟩
def aiRawB (n : Nat) : Fld := ⟨aiGroup n 1, 0, 24, .ro, 0⟩
def aiCur (n : Nat) : Fld := ⟨aiGroup n 2, 0, 25, .ro, 0⟩
def aiDev (n : Nat) : Fld := ⟨aiGroup n 3, 0, 32, .ro, 0⟩
def aiFlags (n : Nat) : Fld := ⟨aiGroup n 4, 0, 7, .ro, 0⟩
def aiClr (n : Nat) : Fld := ⟨aiGroup n 4, 8, 1, .w1s, 0⟩
/-- Word `o` of the table memory of channel `c` (0 to 7 AO, 8 to 15 AI). Reset values: T[k] = k × 2^19, LINEAR,
0.0 to 100.0, cutoff 0.01, measured currents 4.0 mA and 20.0 mA in nA. -/
def alpTab (c o : Nat) : Fld :=
  ⟨0xF00A8000 + c * 0x40 + o, 0, if o = 0x21 then 2 else 32, .rw,
    if o ≤ 0x20 then o * 524288
    else if o = 0x25 then 0x40590000
    else if o = 0x26 then 0x00028F5C
    else if 0x28 ≤ o ∧ o ≤ 0x2F then (if o % 2 = 0 then 4000000 else 20000000)
    else 0⟩
def hrtEn : Fld := ⟨0xF00B0000, 0, 16, .rw, 0⟩
def hrtTxen : Fld := ⟨0xF00B0000, 16, 1, .ro, 0⟩
def hrtGroup (c o : Nat) : Nat := 0xF00B0100 + c * 8 + o
def cstState (c : Nat) : Fld := ⟨hrtGroup c 0, 0, 3, .ro, 0⟩
def cstCarrier (c : Nat) : Fld := ⟨hrtGroup c 0, 3, 1, .ro, 0⟩
def cstIdent (c : Nat) : Fld := ⟨hrtGroup c 0, 4, 1, .ro, 0⟩
def cstFails (c : Nat) : Fld := ⟨hrtGroup c 0, 5, 3, .ro, 0⟩
def cstRc (c : Nat) : Fld := ⟨hrtGroup c 0, 8, 8, .ro, 0⟩
def cstDevst (c : Nat) : Fld := ⟨hrtGroup c 0, 16, 8, .ro, 0⟩
def cpollMs (c : Nat) : Fld := ⟨hrtGroup c 1, 0, 22, .rw, 0x7D0⟩
def cpollTask (c : Nat) : Fld := ⟨hrtGroup c 1, 24, 4, .rw, 0⟩
def cadrPoll (c : Nat) : Fld := ⟨hrtGroup c 2, 0, 6, .rw, 0⟩
def cadrLah (c : Nat) : Fld := ⟨hrtGroup c 2, 8, 8, .ro, 0⟩
def clal (c : Nat) : Fld := ⟨hrtGroup c 3, 0, 32, .ro, 0⟩
def cok (c : Nat) : Fld := ⟨hrtGroup c 4, 0, 32, .ro, 0⟩
def cerr (c : Nat) : Fld := ⟨hrtGroup c 5, 0, 32, .ro, 0⟩

/-! MPU (R422); `copy` is the checker, 0 or 1 (R420): both hold all regions, the register window shows checker 0 -/
def mpuEpoch : Fld := ⟨0xF00C0000, 0, 8, .ro, 0⟩
def mpuDrain : Fld := ⟨0xF00C0000, 8, 1, .ro, 0⟩
def mpuRefused : Fld := ⟨0xF00C0000, 9, 1, .w1c, 0⟩
def mpuFault : Fld := ⟨0xF00C0000, 10, 1, .ro, 0⟩
def mpuInflt : Fld := ⟨0xF00C0000, 16, 8, .ro, 0⟩
def wcmdRegion : Fld := ⟨0xF00C0001, 0, 6, .wo, 0⟩
def wcmdGo : Fld := ⟨0xF00C0001, 31, 1, .wo, 0⟩
def mpuWbase : Fld := ⟨0xF00C0002, 0, 32, .rw, 0⟩
def mpuWlim : Fld := ⟨0xF00C0003, 0, 32, .rw, 0⟩
/-- The 18 attribute bits [17:0] of MPU.WATTR as one field; bits [3] and [7] are reserved. -/
def mpuWattr : Fld := ⟨0xF00C0004, 0, 18, .rw, 0⟩
def mpuWmask : Fld := ⟨0xF00C0005, 0, 21, .rw, 0⟩
def vioAddr : Fld := ⟨0xF00C0010, 0, 32, .ro, 0⟩
def vioValid : Fld := ⟨0xF00C0011, 0, 1, .w1c, 0⟩
def vioKind : Fld := ⟨0xF00C0011, 1, 2, .ro, 0⟩
def vioPriv : Fld := ⟨0xF00C0011, 3, 1, .ro, 0⟩
def vioMaster : Fld := ⟨0xF00C0011, 4, 5, .ro, 0⟩
def vioRegion : Fld := ⟨0xF00C0011, 9, 7, .ro, 0⟩
def vioCause : Fld := ⟨0xF00C0011, 16, 3, .ro, 0⟩
def vioCore : Fld := ⟨0xF00C0011, 19, 1, .ro, 0⟩
def vioEpoch : Fld := ⟨0xF00C0011, 24, 8, .ro, 0⟩
def vioCnt : Fld := ⟨0xF00C0012, 0, 32, .ro, 0⟩
/-- Word address of register `o` of region `r` in checker `copy`; checker 1 has no address in the CSR window and is
keyed beyond it. -/
def mpuGroup (copy r o : Nat) : Nat := copy * 0x100000000 + 0xF00C0100 + r * 4 + o
def rBase (copy r : Nat) : Fld := ⟨mpuGroup copy r 0, 0, 32, .ro, 0⟩
def rLim (copy r : Nat) : Fld := ⟨mpuGroup copy r 1, 0, 32, .ro, 0⟩
def rAttr (copy r : Nat) : Fld := ⟨mpuGroup copy r 2, 0, 18, .ro, 0⟩
def rMask (copy r : Nat) : Fld := ⟨mpuGroup copy r 3, 0, 21, .ro, 0⟩

/-! CVU (R434) -/
def cvuFault : Fld := ⟨0xF00D0000, 0, 4, .ro, 0⟩
def cvuGroup (n o : Nat) : Nat := 0xF00D0100 + n * 16 + o
def cvuPoly (n : Nat) : Fld := ⟨cvuGroup n 0, 0, 2, .rw, 0⟩
def cvuWmode (n : Nat) : Fld := ⟨cvuGroup n 0, 4, 1, .rw, 0⟩
def cvuFinal (n : Nat) : Fld := ⟨cvuGroup n 0, 8, 3, .rw, 0⟩
def cvuAfold (n : Nat) : Fld := ⟨cvuGroup n 0, 12, 1, .rw, 0⟩
def cvuSfold (n : Nat) : Fld := ⟨cvuGroup n 0, 13, 1, .rw, 0⟩
def cvuCont (n : Nat) : Fld := ⟨cvuGroup n 0, 14, 1, .rw, 0⟩
def cvuGo (n : Nat) : Fld := ⟨cvuGroup n 0, 31, 1, .wo, 0⟩
def cvuStart (n : Nat) : Fld := ⟨cvuGroup n 1, 0, 32, .rw, 0⟩
def cvuLen (n : Nat) : Fld := ⟨cvuGroup n 2, 0, 23, .rw, 0⟩
def cvuSeq (n : Nat) : Fld := ⟨cvuGroup n 3, 0, 32, .rw, 0⟩
def cvuBusy (n : Nat) : Fld := ⟨cvuGroup n 4, 0, 1, .ro, 0⟩
def cvuValid (n : Nat) : Fld := ⟨cvuGroup n 4, 1, 1, .ro, 0⟩
def cvuErr (n : Nat) : Fld := ⟨cvuGroup n 4, 4, 3, .ro, 0⟩
def cvuIgnw (n : Nat) : Fld := ⟨cvuGroup n 4, 8, 8, .w1c, 0⟩
def cvuResl (n : Nat) : Fld := ⟨cvuGroup n 5, 0, 32, .ro, 0⟩
def cvuResh (n : Nat) : Fld := ⟨cvuGroup n 6, 0, 32, .ro, 0⟩
def cvuPos (n : Nat) : Fld := ⟨cvuGroup n 7, 0, 23, .ro, 0⟩

/-! EVR (R452) -/
def evrFifo : Fld := ⟨0xF00E0000, 0, 5, .ro, 0⟩
def evrHwq : Fld := ⟨0xF00E0000, 5, 4, .ro, 0⟩
def evrFault : Fld := ⟨0xF00E0000, 9, 1, .w1c, 0⟩
def evrErasing : Fld := ⟨0xF00E0000, 10, 1, .ro, 0⟩
def evrMirror : Fld := ⟨0xF00E0000, 11, 1, .ro, 0⟩
def evrHead : Fld := ⟨0xF00E0001, 0, 32, .ro, 0⟩
def evrTail : Fld := ⟨0xF00E0002, 0, 32, .ro, 0⟩
def evrNumber : Fld := ⟨0xF00E0003, 0, 32, .ro, 0⟩
def evrPnum : Fld := ⟨0xF00E0004, 0, 32, .ro, 0⟩
def evrOptime : Fld := ⟨0xF00E0005, 0, 32, .ro, 0⟩
def evrPcycle : Fld := ⟨0xF00E0006, 0, 24, .ro, 0⟩
def evrRefused : Fld := ⟨0xF00E0007, 0, 16, .ro, 0⟩
def evrGo : Fld := ⟨0xF00E0007, 31, 1, .wo, 0⟩
def evrPid (k : Nat) : Fld := ⟨0xF00E0008 + k, 0, 32, .ro, 0⟩
def evrPbuf (k : Nat) : Fld := ⟨0xF00E0100 + k, 0, 32, .wo, 0⟩

/-! LCS (R480) -/
def lcsState : Fld := ⟨0xF0000000, 0, 3, .ro, 0⟩
def lcsUsed : Fld := ⟨0xF0000000, 8, 5, .ro, 0⟩
def lcsPend : Fld := ⟨0xF0000000, 16, 1, .ro, 0⟩
def lcsTarget : Fld := ⟨0xF0000000, 20, 3, .ro, 0⟩
def lcsId (k : Nat) : Fld := ⟨0xF0000001 + k, 0, 32, .ro, 0⟩
def kslotUsed : Fld := ⟨0xF0000005, 0, 4, .ro, 0⟩
def kslotActive : Fld := ⟨0xF0000005, 4, 4, .ro, 0xF⟩
def kslotRevoked : Fld := ⟨0xF0000005, 8, 8, .ro, 0⟩
def fwkeyRevoked : Fld := ⟨0xF0000006, 0, 4, .ro, 0⟩
def fwminMajor : Fld := ⟨0xF0000007, 0, 6, .ro, 0⟩
def tamperCount : Fld := ⟨0xF0000008, 0, 8, .ro, 0⟩
def tamperCover : Fld := ⟨0xF0000008, 8, 1, .ro, 0⟩
def tamperLog : Fld := ⟨0xF0000008, 12, 4, .ro, 0⟩
def lcsOp : Fld := ⟨0xF0000009, 0, 4, .wo, 0⟩
def lcsGo : Fld := ⟨0xF0000009, 31, 1, .wo, 0⟩

/-! MNB and DBG (R505) -/
def mnbAddr : Fld := ⟨0xF00F0000, 0, 7, .ro, 0x58⟩
def mbnew : Fld := ⟨0xF00F0000, 8, 1, .w1c, 0⟩
def mnbActive : Fld := ⟨0xF00F0000, 9, 1, .ro, 0⟩
def mnbNaks : Fld := ⟨0xF00F0000, 16, 8, .ro, 0⟩
def mbox (k : Nat) : Fld := ⟨0xF00F0001 + k, 0, 32, .ro, 0⟩
def mnbReads : Fld := ⟨0xF00F0005, 0, 16, .ro, 0⟩
def mnbWrites : Fld := ⟨0xF00F0005, 16, 16, .ro, 0⟩
def dbgProbe : Fld := ⟨0xF0100000, 0, 1, .ro, 0⟩
def dbgTapst : Fld := ⟨0xF0100000, 4, 4, .ro, 0xF⟩
def dbgIr : Fld := ⟨0xF0100000, 8, 6, .ro, 1⟩
def dbgRefused : Fld := ⟨0xF0100000, 16, 1, .w1c, 0⟩
def dbgId : Fld := ⟨0xF0100001, 0, 32, .ro, 0x17240C2B⟩

end Reg
end Sys2Proof.Machine
end

