-- ==== Sys2Proof/Machine/State.lean ====
section
/-! DEFINITION. The state. -/

namespace Sys2Proof.Machine

/-- One core: its general registers (R62, R96), instruction address (R61) and eight control registers (R98). -/
structure CoreSt where
  g : SMap TW := []
  iaddr : BitVec 22 := 0
  priv : Bool := true
  divpol : Bool := false
  slot : Bool := false
  split : Bool := false
  urg : Bool := false
  task : BitVec 5 := 0
  tvec : BitVec 32 := 0
  tepc : BitVec 32 := 0
  tcause : BitVec 32 := 0
  tval : BitVec 32 := 0
  ttag : BitVec 32 := 0
  tstat : BitVec 32 := 1
  scratch : BitVec 32 := 0
  /-- Flipped bits of the 80 stored bits of a register-file word (R95, R105). -/
  rflips : SMap (BitVec 80) := []
  deriving DecidableEq, Repr

/-! Lockstep -/

/-- A token as the comparator sees it (R207): fault kind of R217 (0 for an instruction that is not compared), its words,
and the address that a fault captures (R229). -/
structure Token where
  kind : Nat
  words : List (BitVec 72)
  addr : Nat
  deriving DecidableEq, Repr

/-- An entry of a delay FIFO (R205). -/
structure FifoEntry where
  word : BitVec 72
  kind : BitVec 3
  stamp : BitVec 5
  parity : BitVec 10
  deriving DecidableEq, Repr

/-- An instruction that core 0 of a locked unit has retired and core 1 has not (R202): its address and privilege on core 0,
core 0's token, and the write that it holds in the pending-store buffer (R208), as address and word. -/
structure Ahead where
  instr : Instr
  iaddr : BitVec 22
  priv : Bool
  token : Token
  held : Option (Nat × TW)
  deriving DecidableEq, Repr

/-- A locked unit besides its cores (R202 to R211): both retire counts modulo 32, the outstanding tokens and the delay
FIFO, oldest first, the raw counter at the last retirement, the instruction address and privilege of core 0's last token,
and what disturbs core 1's path to the comparator: the tokens that pass before it, and the lanes that it flips. -/
structure PairSt where
  count0 : BitVec 5 := 0
  count1 : BitVec 5 := 0
  ahead : List Ahead := []
  fifo : List FifoEntry := []
  lastAt : Nat := 0
  lastIaddr : BitVec 22 := 0
  lastPriv : Bool := false
  skew : Option (Nat × BitVec 72) := none
  deriving DecidableEq, Repr

/-- The time base (R334, R336): its two counter copies (R340), the unreadable residue, the TIME at the previous tick, the
hold-up clock in 1/32768 s since the PTP epoch (R339), and the servos. -/
structure Tmb where
  sec : Nat := 0
  ns : Nat := 0
  frac : Nat := 0
  residue : Nat := 0
  copySec : Nat := 0
  copyNs : Nat := 0
  prev : Int := 378691199999999999
  /-- The hold-up clock in cycles of 32,768 Hz (R339). -/
  hold : Nat := 0
  /-- Part of a hold-up cycle since the last one, in 1/10^9 cycles. -/
  holdPart : Nat := 0
  /-- The raw 1 GHz counter (R336, R361), not rate-adjusted, since reset. -/
  raw : Nat := 0
  /-- Nanoseconds that the time base has advanced by its ticks since reset, steps left out (R110, R342, R347). -/
  run : Nat := 0
  /-- The last pair offset (R344, R345), none before the first one and after a step. -/
  pairOff : Option Int := none
  /-- Counter ticks of feed-domain power since the last whole second of operating time (R441). -/
  upTicks : Nat := 0
  /-- Consecutive PTP offsets within the lock threshold, beyond the unlock threshold, and from the present master. -/
  good : Nat := 0
  bad : Nat := 0
  fromMaster : Nat := 0
  master : Nat := 0
  /-- The master of the last qualified PTP offset; none before the first one since BOOT (R342, R345). -/
  qualMaster : Option Nat := none
  /-- The last qualified PTP offset, measured also in shadow (R341). -/
  lastOffset : Option Int := none
  /-- The same counts of the pair servo (R344). -/
  pairGood : Nat := 0
  pairBad : Nat := 0
  pairLocked : Bool := false
  /-- Client that armed a step (R345, R346). -/
  armClient : Nat := 0
  deriving DecidableEq, Repr

/-- An event record before the EVR writes it (R439, R440): what its writer supplies, and the times of the occurrence. -/
structure EvRec where
  cls : Nat
  num : Nat
  sev : Nat
  payload : Bytes
  tai : Int
  inlock : Bool
  optime : Nat
  pcycle : Nat
  /-- The payload was cut to fit 1,024 bytes (R439). -/
  trunc : Bool
  deriving DecidableEq, Repr

/-- A record or a repeat update received in MIRROR frames, waiting for the EVR (R446). -/
inductive MirrorIn where
  | record (bytes : Bytes)
  | update (number word3 : Nat)
  deriving DecidableEq, Repr

/-- The event recorder (R444, R445): the hardware queue, the post FIFO, the mirror queue, where the last own record
stands, and the counters of R453. -/
structure Evr where
  hwq : List EvRec := []
  fifo : List EvRec := []
  mirror : List MirrorIn := []
  /-- Cursor, NUMBER and power cycle of the last own record, and of the last mirrored record. -/
  lastOwn : Option (Nat × Nat × Nat) := none
  lastMirror : Option (Nat × Nat) := none
  written : Nat := 0
  repeats : Nat := 0
  refused : Nat := 0
  /-- Posts refused since the last DROPPED record (R444). -/
  dropped : Nat := 0
  mirrored : Nat := 0
  gaps : Nat := 0
  overwritten : Nat := 0
  suppressed : Nat := 0
  updDropped : Nat := 0
  deriving DecidableEq, Repr

/-- A transition that waits for its boundary (R37): number, cause code, instant at which it takes effect. -/
structure Pend where
  num : Nat
  cause : Nat
  at_ : Int
  deriving DecidableEq, Repr

/-- A MANIFEST frame's content (R234, R258). DEDUCED (log 114). -/
structure Manifest where
  bytes : Bytes := []
  issue : Nat := 0
  split : Nat := 0
  active : Nat := 0
  aValid : Bool := false
  bValid : Bool := false
  idA : Nat := 0
  idB : Nat := 0
  dev : Nat := 0
  /-- The partner's committed split mask, which no frame carries (R228). -/
  mask : Nat := 0
  deriving DecidableEq, Repr

/-- What a refused auto-join depends on (R259): the partner's reported mode, its MANIFEST frame, and this module's own
images, firmware and split mask. -/
structure JoinView where
  mode : Nat
  man : Option Manifest
  own : List Nat
  deriving DecidableEq, Repr

/-- What the mode control of the supervisor pair keeps besides the PWR registers (R38, R43 to R45, R52, R282). -/
structure ModeSt where
  pend : Option Pend := none
  /-- A latching fault has stopped releases and every pair (R38, R218). -/
  stopped : Bool := false
  latched : Bool := false
  lastCause : Nat := 0
  lastAt : Int := 0
  lastClass : Nat := 0
  /-- Instant of the last transition. -/
  modeAt : Int := 0
  /-- Entry into ISOLATED: transition, cause, instant. -/
  isoNum : Nat := 0
  isoCause : Nat := 0
  isoAt : Int := 0
  autoSusp : Bool := false
  retryCount : Nat := 0
  retryAt : Option Int := none
  /-- Last HEARTBEAT that reported a partner in control (R43). -/
  ctlSeen : Option Int := none
  /-- What the last auto-join refusal depended on; it stands until that changes (R259). -/
  refused : Option JoinView := none
  /-- Armed ISOLATE_SOLO requests: session and instant (R52). -/
  arms : List (Nat × Int) := []
  /-- Instant of the last passing injection test of each of the 13 units (R279). -/
  injAt : SMap Int := []
  proofDue : Bool := false
  /-- BOOT has ended without a verified firmware or a tested supervisor pair (R49). -/
  romOnly : Bool := false
  deriving DecidableEq, Repr

/-- Content of the partner's last HEARTBEAT (R234) and its arrival. DESIGN CHOICE (log 103). -/
structure PartnerHb where
  mode : Nat := 0
  drive : Bool := false
  inctrl : Bool := false
  pendNum : Nat := 0
  pendAt : Int := 0
  intent : Bool := false
  laneA : Bool := false
  laneB : Bool := false
  toggle : Bool := false
  inlock : Bool := false
  cause : Nat := 0
  at_ : Int := 0
  /-- The mode reported before this one. -/
  was : Nat := 0
  /-- The partner in control has a set or an exchange pending, which no frame says (R39). -/
  holds : Bool := false
  deriving DecidableEq, Repr

/-- An Ack frame that waits for its ACK (R233). -/
structure AckWait where
  ty : Nat
  seq : Nat
  payload : List TW
  lane : Nat
  last : Bool
  at_ : Int
  tries : Nat
  deriving DecidableEq, Repr

/-- A seal record (R246). -/
structure SealRec where
  task : Nat
  core : Bool
  at_ : Int
  state : Word
  output : Word
  store : Word
  deriving DecidableEq, Repr

/-- A role swap in progress (R243): proposal SEQ, boundary, and how far it has come. -/
structure Swap where
  seq : Nat
  b : Int
  accepted : Bool := false
  confirmed : Bool := false
  deriving DecidableEq, Repr

/-- A targeted self-test (R249 to R251). -/
structure SelfTest where
  task : Nat
  core : Bool
  at_ : Int
  start : Int
  running : Bool := true
  deriving DecidableEq, Repr

/-- An OBJECT set received in part (R233, R234). -/
structure ObjRx where
  kind : Nat
  total : Nat
  parts : SMap Bytes := []
  deriving DecidableEq, Repr

/-- The Bellwether and the link engines besides their registers (R231 to R259). -/
structure LinkSt where
  hb : Option PartnerHb := none
  /-- Arrival of the last valid HEARTBEAT on lane A and lane B. -/
  hbA : Option Int := none
  hbB : Option Int := none
  /-- Lanes in training, and the trained state asked for in BOOT. -/
  training : List Nat := []
  /-- An instant since which fewer than two lanes are up, and the last instant at which that held (R247). -/
  oneLaneAt : Option Int := none
  oneLaneEnd : Option Int := none
  manifest : Option Manifest := none
  /-- Next SEQ to send, by type; frames of Dup types already taken, as type × 2^32 + SEQ, newest first. -/
  txSeq : SMap Nat := []
  seen : List Nat := []
  acks : List AckWait := []
  hbSentAt : Option Int := none
  /-- Settle interval of R239: when it began. -/
  settleAt : Option Int := none
  /-- Last sensed edge of the partner's toggle (R237). -/
  edgeAt : Option Int := none
  /-- A role-line fault is owed at the first heartbeat that reports a toggling mode (R238). -/
  rlOwed : Bool := false
  claimOwn : Option Int := none
  /-- Cause of the start that this module's claim asks for (R242). -/
  claimCause : Nat := 0
  /-- Arrival of the partner's last claim, and its preferred-primary bit. -/
  claimPartner : Option Int := none
  claimPref : Bool := false
  swap : Option Swap := none
  /-- A former primary that saw a STANDBY partner after its own transition 15 at this boundary (R243). -/
  swapDone : Option Int := none
  reversalAt : Option Int := none
  seals : List SealRec := []
  pSeals : List SealRec := []
  /-- Consecutive missing records of a task, and whether each so far fell while one lane was up. -/
  missRun : SMap (Nat × Bool) := []
  /-- Tasks whose last record disagreed (R243). -/
  disagreed : List Nat := []
  test : Option SelfTest := none
  /-- SYNC: start of phase 3, whether phase 2 is dirty, the words already copied and those dirty, and GO's boundary. -/
  phase3At : Option Int := none
  phase2Dirty : Bool := false
  dirty : List Nat := []
  goAt : Option Int := none
  /-- Stores of the supervisor pair and of DMA masters that the final window of SYNC holds (R254). -/
  held : List (Nat × TW) := []
  /-- The module sends SYNC data to its partner, in this phase. -/
  sendPhase : Nat := 0
  echoNum : Nat := 0
  echoAt : SMap Int := []
  /-- OBJECT sets received in part: kind, total length, parts by number (R234). -/
  objs : List ObjRx := []
  /-- Words of the phase 2 items received, by offset (R252). -/
  sync2 : SMap TW := []
  deriving DecidableEq, Repr

/-- The registers that preemption saves (R121): both cores of the pair, or the core of a split pair.
DESIGN CHOICE (log 34). -/
structure Saved where
  task : Nat
  core0 : CoreSt
  core1 : CoreSt
  deriving DecidableEq, Repr

/-- What the Drover keeps of one task besides its registers (R118 to R137). DEDUCED (log 40). -/
structure TaskSt where
  /-- Release or trigger instant of the cycle in progress, and the word that TREL gives (R80). -/
  rel : Option Int := none
  relWord : TW := ⟨0#64, 0x43#8⟩
  /-- Release instant last acted on: released or skipped. -/
  lastRel : Option Int := none
  /-- The task runs: its pair executes it; start of its logic. -/
  startAt : Option Int := none
  /-- Preempted since, and time spent so in this cycle (R148, TLAST). -/
  awayAt : Option Int := none
  awayNs : Int := 0
  /-- The cycle ended by a trap, or was abandoned: it publishes nothing. -/
  noPublish : Bool := false
  /-- The cycle was released by this module in control: its sinks act (R21, R23, R143). -/
  own : Bool := false
  /-- Instant of the last cycle whose seals agreed with the partner's (R183). -/
  agreed : Option Int := none
  /-- End-of-cycle work done for the cycle released at `rel`; the cycle's output words by point. -/
  ended : Bool := false
  outs : List (Nat × TW) := []
  /-- Output words of a late cycle that waits for an output instant, with its release instant. -/
  lateOuts : Option (Int × List (Nat × TW)) := none
  /-- Output instant last acted on. -/
  lastOut : Option Int := none
  /-- Urgent: last dispatch, and the trigger held as pending with its record. -/
  lastDispatch : Option Int := none
  pend : Option (Int × List TW) := none
  trigger : List TW := []
  /-- Accepted stores of the cycle in order (R246), and how many an urgent task has published (R164). -/
  stores : List (Nat × TW) := []
  published : Nat := 0
  /-- Snapshot list entries that have arrived on the standby (R17, R244). -/
  got : List Nat := []
  /-- The warning of a run of consecutive skips has been recorded (R131). -/
  warned : Bool := false
  /-- The cycle's snapshot is complete (R124). -/
  ready : Bool := false
  /-- The cycle has been counted as late (R128), and a late cycle that waits was released in control. -/
  late : Bool := false
  lateOwn : Bool := false
  /-- What TREL gives for the held trigger (R80, R134). -/
  pendWord : TW := ⟨0#64, 0x43#8⟩
  /-- The output list and signal table under which an urgent task goes on running past a Weir or exchange instant (R146),
  and what its entry takes when it ends. -/
  old : Option (List (Nat × Nat) × List Nat) := none
  later : List (Fld × Nat) := []
  /-- The output words of the last cycles that ended, by release, newest first (R183). -/
  past : List (Int × List (Nat × TW)) := []
  /-- Release of the last cycle whose seal record was compared or found missing (R183). -/
  judged : Option Int := none
  /-- A trial cycle on time that waits for its comparison: release, output words, and whether the seals of the active cycle
  agreed, once that is known (R183). -/
  await : Option (Int × List (Nat × TW) × Option Bool) := none
  deriving DecidableEq, Repr

/-- The Drover (R121, R136, R144): tasks, the preempted tasks of each execution place (pair, or core of a split pair),
points that urgent tasks wrote with the end of the urgent task that wrote them, and the boundary search. -/
structure Drv where
  tasks : SMap TaskSt := []
  /-- Running task of a place, keyed as a core (core 0 for a locked pair). -/
  running : SMap Nat := []
  stack : SMap (List Saved) := []
  urgent : SMap (Option Int) := []
  /-- Transition into SOLO by transition 7, before which plus 125 µs no release is made (R120). -/
  startAt : Option Int := none
  /-- Search: request instant, chosen boundary, whether an urgent task was dispatched in W, decision. -/
  searchAt : Option Int := none
  window : Option Int := none
  urgentInW : Bool := false
  decision : Option Bool := none
  deriving DecidableEq, Repr

/-- A write held at the write port (R159): 0 source update, 1 publication, 2 force or removal, 3 status, 4 expiry. -/
structure PortWrite where
  kind : Nat
  point : Nat
  word : TW
  deriving DecidableEq, Repr

/-- A force or a removal that waits for its grid instant (R166). -/
structure ForceChange where
  point : Nat
  word : Option TW
  at_ : Int
  client : Nat
  deriving DecidableEq, Repr

/-- A subscription's run-time state (R156): last accepted SEQ, the assigned releases still to come that have a frame, the
parts accepted, misses. DEDUCED (log 46). -/
structure SubSt where
  seq : Option Nat := none
  rels : List Int := []
  lastPart : List Nat := []
  miss : Nat := 0
  deriving DecidableEq, Repr

/-- The process image besides its points (R154 to R168). -/
structure Pimg where
  /-- The signal table of the active image: its binding words (R151, R152). -/
  signals : List Nat := []
  queue : List PortWrite := []
  forces : SMap TW := []
  changes : List ForceChange := []
  /-- Instant of the last update of a point with a freshness limit; points whose silence has expired. -/
  updAt : SMap Int := []
  expired : List Nat := []
  imageAt : Int := 0
  subs : SMap SubSt := []
  ignored : Nat := 0
  expiries : Nat := 0
  late : Nat := 0
  waits : Nat := 0
  unencodable : Nat := 0
  refusal : Nat := 0
  deriving DecidableEq, Repr

/-- A message object (R365, R383): its configuration, its last frame or the frame to be sent, and a frame waiting behind
one in transmission (R374) as launch time and data. -/
structure CanObj where
  dir : Nat := 0
  ide : Bool := false
  fdf : Bool := false
  brs : Bool := false
  esi : Bool := false
  dlc : Nat := 0
  /-- The DLC of the last frame stored into a receive object. -/
  rxDlc : Nat := 0
  id : Nat := 0
  isNew : Bool := false
  ovr : Bool := false
  pend : Bool := false
  stamp : Int := 0
  launch : Int := 0
  data : Bytes := []
  behind : Option (Int × Bytes) := none
  /-- The object's place in the order in which the channel's frames were queued (R355). -/
  ord : Nat := 0
  deriving DecidableEq, Repr

/-- A frame record as the CAN DMA has read it (R373): object, action, launch time, 64 data bytes. -/
structure CanPost where
  obj : Nat
  action : Nat
  launch : Int
  data : Bytes
  deriving DecidableEq, Repr

/-- The read lock of a channel (R366): object, when it was taken, and the object as the window shows it. -/
structure CanLock where
  obj : Nat
  at_ : Int
  view : CanObj
  deriving DecidableEq, Repr

/-- A CAN channel besides its registers (R360 to R380). -/
structure CanChan where
  objs : SMap CanObj := []
  posts : List CanPost := []
  lock : Option CanLock := none
  /-- The hold buffer (R367): frame, SOF stamp, and whether it replaced a held frame. -/
  hold : Option (CanFrame × Int × Bool) := none
  /-- Object in transmission. -/
  inTx : Option Nat := none
  /-- Normal state waits for the first bus idle (R360); new timing waits for it (R364), then for 11 recessive bits. -/
  toNormal : Bool := false
  newTiming : Bool := false
  integrating : Bool := false
  /-- Timing in effect: the NBT, DBT and TDCO words. -/
  nbt : Nat := 0x07071E01
  dbt : Nat := 0x83030E00
  tdco : Nat := 0x10
  /-- Bus-off since (R380), and the raw counter at the start of recovery. -/
  busOffAt : Option Int := none
  recovAt : Option Nat := none
  /-- Frames queued so far (R355). -/
  queued : Nat := 0
  deriving DecidableEq, Repr

/-- An analogue output stage besides its registers (R389 to R393). -/
structure AoSt where
  /-- Start of the floor ramp (R390). -/
  rampAt : Option Int := none
  /-- Last change of the target's C, floor or guard (R392). -/
  changedAt : Int := 0
  /-- Since when the guard is engaged, P exceeds C/2 by 1 % of span, and P is above 0.8 mA (R391). -/
  engagedAt : Option Int := none
  excessAt : Option Int := none
  returnAt : Option Int := none
  lost : Bool := false
  excess : Bool := false
  /-- Consecutive mismatches, measurements in limit and without (R392, R393). -/
  mism : Nat := 0
  inLim : Nat := 0
  outLim : Nat := 0
  limit : Bool := false
  mismatch : Bool := false
  clamped : Bool := false
  badAct : Bool := false
  safeC : Bool := false
  engaged : Bool := false
  /-- The pending command is the channel's safe current (R394), or that of a late cycle (R128). -/
  pendSafe : Bool := false
  pendLate : Bool := false
  /-- Target of the stage in nA (R389), and the code of 16 bits that it is set to (R385, R387). -/
  target : Int := 0
  raw : Nat := 0
  deriving DecidableEq, Repr

/-- An analogue input besides its registers (R395 to R398): the last 50 trimmed currents of each path, newest first. -/
structure AiSt where
  curA : List Int := []
  curB : List Int := []
  faultA : Bool := false
  faultB : Bool := false
  fails : Nat := 0
  drift : Bool := false
  clearing : Bool := false
  word0 : TW := ⟨0#64, 0#8⟩
  word1 : TW := ⟨0#64, 0#8⟩
  deriving DecidableEq, Repr

/-- An FSK channel besides its registers (R400): last due time, the end of the request, retries left. -/
structure HrtSt where
  dueAt : Int := 0
  reqEnd : Option Int := none
  tries : Nat := 0
  notAnswering : Bool := false
  ignored : Nat := 0
  deriving DecidableEq, Repr

/-- The loop inputs and outputs besides their registers, with the counters of `OD 5700h`. -/
structure Alp where
  ao : SMap AoSt := []
  ai : SMap AiSt := []
  hrt : SMap HrtSt := []
  mismatches : Nat := 0
  compliance : Nat := 0
  engagements : Nat := 0
  deriving DecidableEq, Repr

/-- An entry of the Tarn (R292). -/
structure TarnEntry where
  index : Nat
  sub : Nat
  value : Bytes
  client : Nat
  at_ : Int
  deriving DecidableEq, Repr

/-- A commit in the flash history (R301, R310). DEDUCED (log 69). -/
structure HistEntry where
  gen : Nat
  b : Int
  client : Nat
  entries : Nat
  deriving DecidableEq, Repr

/-- The Tarn and the Weir (R292 to R303): state 0 EMPTY, 1 OPEN, 2 CHECKING, 3 ARMED, 4 COMPANION. -/
structure Tarn where
  state : Nat := 0
  entries : List TarnEntry := []
  seq : Nat := 0
  last : Nat := 0
  /-- Failing rules as (rule, index, subindex, entry), in rule order, and their count. -/
  fails : List (Nat × Nat × Nat × Nat) := []
  failCount : Nat := 0
  foreign : Nat := 0
  checkAt : Option Int := none
  /-- The committing client, its role, the sequence of its request, the companion flag and the earliest instant. -/
  client : Nat := 0
  role : Nat := 0
  reqSeq : Nat := 0
  companion : Bool := false
  earliest : Int := 0
  /-- The check has passed on both modules; the inactive copy has been written; W has been prepared. -/
  passed : Bool := false
  written : Bool := false
  prepared : Bool := false
  /-- The set was in CHECKING at a takeover, and completes its check alone (R302). -/
  alone : Bool := false
  /-- The copy of the configuration in use, whether it is valid, and its generation (R302, R305). -/
  copy : Nat := 0
  valid : Bool := false
  gen : Nat := 0
  lastB : Int := 0
  lastClient : Nat := 0
  history : List HistEntry := []
  deriving DecidableEq, Repr

/-- LV group 0x0401 (R307, R343): written and acting copies of the lock and unlock thresholds. -/
structure Live where
  wLock : Nat := 100
  wUnlock : Nat := 1000
  aLock : Nat := 100
  aUnlock : Nat := 1000
  inconsistent : Bool := false
  pend : Bool := false
  deriving DecidableEq, Repr

/-- A VOP session (R323 to R328); `kept` pairs request identifiers with responses, newest first. -/
structure Session where
  id : Nat
  port : Nat
  client : Nat
  role : Option Nat := none
  maxRole : Nat := 0
  lastReq : Int := 0
  /-- Requests outstanding, as the last request of the session has shown (R327). -/
  out : Nat := 0
  kept : List (Nat × Bytes) := []
  deriving DecidableEq, Repr

/-- The segmented transfer in progress (R330). -/
structure Transfer where
  session : Nat
  index : Nat
  sub : Nat
  total : Nat
  got : Bytes
  /-- Parts forwarded to the partner (R174). -/
  parts : Nat
  at_ : Int
  deriving DecidableEq, Repr

/-- A message in progress on VOP-C (R331). -/
structure VopcRx where
  total : Nat
  got : Bytes
  next : Nat
  at_ : Int
  deriving DecidableEq, Repr

/-- A frame in a transmit queue (R313): queue 0 to 3, launch time, bytes, and the points whose words it carries. -/
structure NetFrame where
  queue : Nat
  launch : Option Int
  bytes : Bytes
  pts : List Nat
  deriving DecidableEq, Repr

/-- The network ports and VOP besides registers (R311 to R333). -/
structure Net where
  sessions : List Session := []
  nextSession : Nat := 1
  transfer : Option Transfer := none
  vopc : Option VopcRx := none
  vopcKept : List (Nat × Bytes) := []
  queue0 : List NetFrame := []
  queue1 : List NetFrame := []
  /-- Relayed frames: originating pair, sequence number, port (R29). -/
  relayed : List (Nat × Nat × Nat) := []
  macDisc : SMap Nat := []
  peerDisc : Nat := 0
  peerElem : Nat := 0
  relays : Nat := 0
  vopDropped : Nat := 0
  /-- Requests waiting, and outstanding on VOP-C, as the last request has shown (R327). -/
  waiting : Nat := 0
  vopcOut : Nat := 0
  hsRefused : Nat := 0
  deriving DecidableEq, Repr

/-- A foreign master as its last Announce described it (R342, R347): clock identity, the data that the best master
clock algorithm compares, timeSource, and the port. -/
structure Master where
  port : Nat
  ident : Nat
  rank : List Nat
  source : Nat
  utc : Nat
  utcValid : Bool
  at_ : Int
  /-- Two Announce messages within four announce intervals have arrived. -/
  qual : Bool
  deriving DecidableEq, Repr

/-- PTP besides registers (R347 to R352). -/
structure Ptp where
  masters : List Master := []
  /-- Path delay measured from a master (identity, ns), and the Sync of a two-step master that waits for its Follow_Up
  (port, identity, sequence, receive time). -/
  delays : List (Nat × Int) := []
  twoStep : List (Nat × Nat × Nat × Int) := []
  /-- Delay requests sent: port, sequence, transmit time; peer delay requests likewise. -/
  reqs : List (Nat × Nat × Int) := []
  seq : Nat := 0
  /-- Last Sync of a master, as (identity, receive instant minus origin). -/
  lastSync : List (Nat × Int) := []
  syncs : SMap Nat := []
  timeouts : Nat := 0
  discarded : Nat := 0
  stepsRefused : Nat := 0
  /-- The last RATE change by a servo (R342), the last Announce and delay request of each port, and since when a port may
  become master beside a better clock (R347), all as `Tmb.run`. -/
  rateAt : Option Nat := none
  annAt : SMap Nat := []
  reqAt : SMap Nat := []
  preAt : SMap Nat := []
  deriving DecidableEq, Repr

/-- A yearling report entry (R183). -/
structure RepEntry where
  point : Nat
  classes : Nat
  cycles : Nat
  first : Int
  active : TW
  trial : TW
  /-- Release instant of the last difference counted. -/
  last : Int
  deriving DecidableEq, Repr

/-- An exchange or rollback in progress (R185 to R191): the map in use is MAPFWD of the idle image, or MAPREV of the
active one for a rollback. -/
structure Exch where
  rollback : Bool
  companion : Bool
  client : Nat
  earliest : Int
  firstPass : Bool := false
  dirty : List Nat := []
  prepared : Bool := false
  /-- The dirty load at the present window exceeds 700 (R187). -/
  overload : Bool := false
  deriving DecidableEq, Repr

/-- Program exchange besides registers (R170 to R201). -/
structure Xch where
  /-- Image files in the flash image slots 0 and 1. -/
  flash0 : Option Bytes := none
  flash1 : Option Bytes := none
  /-- What the loaded slots hold (XCH.SLOT.AVALID, BVALID say that they are valid). -/
  imgA : Option Image := none
  imgB : Option Image := none
  /-- Own result of a load in PRIMARY, which waits for the partner's (R175). -/
  loadAt : Option Int := none
  /-- Yearling run: configuration generation at its start, per trial task compared cycles and uncompared ones in a row,
  report entries, and whether a run has completed for the idle image and whether it is void. -/
  trialGen : Nat := 0
  /-- The idle slot holds what a LOAD handed on by the partner put there (R175). -/
  handed : Bool := false
  trial : SMap (Nat × Nat) := []
  report : List RepEntry := []
  /-- Differing points beyond the 4,096 that the report holds (R183). -/
  overPoints : List Nat := []
  ran : Bool := false
  void : Bool := false
  /-- The standby takes the trial state (R181): the dirty source words of its pre-copy, and the boundary whose window has
  opened. -/
  take : Option (List Nat) := none
  takeAt : Option Int := none
  exch : Option Exch := none
  /-- Urgent tasks that run across an exchange instant (R189). -/
  keep : List Nat := []
  /-- Stores of those tasks in the old banks. -/
  keepStores : List (Nat × TW) := []
  /-- Bit n: BOOT step 10 met an uncorrectable word in the retentive bank of slot n (R194). -/
  bankUe : Nat := 0
  /-- The old-image map that R189 applies. -/
  keepMap : List MapEntry := []
  deriving DecidableEq, Repr

/-- Supply, speed and idle states besides registers (R86 to R93, R454 to R465). -/
structure Pwr where
  /-- Last change of rail or bias by the adaptive loop, per unit (clusters 0 to 2, 3 SP; R91). -/
  avsAt : SMap Nat := []
  /-- Start of DOZE per cluster, and clusters that owe a canary reading after a refresh (R459). -/
  dozeAt : SMap Int := []
  /-- Rail and bias step of a cluster at its entry into DOZE (R456). -/
  dozeRail : SMap (Nat × Nat) := []
  owed : List Nat := []
  /-- Below 16.0 V on both feeds: the warning has been recorded (R463). -/
  warned : Bool := false
  cellAt : Int := 0
  /-- Hold-up clock at the report of the supply-return comparator (R461), and whether the hold-up domain has lost its
  state since (R464). -/
  wakeHold : Option Nat := none
  holdLost : Bool := false
  /-- Scrubbing (R108 to R110): corrected errors in the present second, seconds since the last one over the threshold,
  uncorrectable results in the present retentive pass, and the interval's start. -/
  scrubCe : Nat := 0
  scrubQuiet : Nat := 0
  retUe : Bool := false
  scrubAt : Nat := 0
  deriving DecidableEq, Repr

/-- Keys, firmware slots and the life cycle besides registers (R464 to R477). -/
structure Lcs where
  nonce : Nat := 0
  /-- Steps of the change in progress that are complete, and its client. -/
  steps : Nat := 0
  imageKey : Bytes := []
  keyHash : SMap (BitVec 384) := []
  fwHash : SMap (BitVec 384) := []
  serviceHash : BitVec 384 := 0
  anchor : Bytes := []
  cert : Bytes := []
  certKey : Bytes := []
  /-- Firmware slots: the file, and whether it is valid. -/
  fw0 : Bytes := []
  fw1 : Bytes := []
  fwValid : Nat := 0
  bootSel : Nat := 0
  /-- Flash slots marked invalid by the rolling check, which slot is next, and the last pass end (R473). -/
  flashBad : Nat := 0
  rollNext : Nat := 0
  rollAt : Int := 0
  rollDone : Int := 0
  /-- Tamper openings logged in STORE, as hold-up clock times (R465). -/
  tamperLog : List Int := []
  copyOptime : Nat := 0
  copyPcycle : Nat := 0
  driftCount : Nat := 0
  deriving DecidableEq, Repr

/-- The check-value engines besides registers (R424 to R430). -/
structure Cvu where
  /-- The running register of each engine, for a continued scan, and scan errors. -/
  acc : SMap Nat := []
  errors : SMap Nat := []
  testAt : Int := 0
  deriving DecidableEq, Repr

/-- The memory protection unit besides registers (R417 to R423): start of the drain in progress, a rule write that
waits for it, refused rule writes, DBG lock refusals. DEDUCED (log 88). -/
structure Mpu where
  drainAt : Option Int := none
  waiting : Option (Nat × Nat × Nat × Nat × Nat) := none
  ruleRefused : Nat := 0
  dbgLocked : Nat := 0
  /-- The epoch by which the second checker tags (R420); MPU.STAT.EPOCH is the first one's. -/
  epoch1 : Nat := 0
  deriving DecidableEq, Repr

/-- Maintenance bus and debug port besides registers (R494 to R500): pointer, word latch, mailbox bytes of the write in
progress; the TAP instruction in effect, and whether it has stopped the functional logic (R499). -/
structure Hwif where
  ptr : Nat := 0
  latch : Nat := 0
  mail : SMap Byte := []
  tap : TapKind := .idcode
  pins : Bool := false
  deriving DecidableEq, Repr

/-- What the module sends out of itself. The model never reads it. -/
inductive Out where
  /-- A frame on a lane (R232): its words and CRC-32C trailer. -/
  | ewx (lane : Nat) (words : List TW) (crc : BitVec 32)
  /-- A CAN frame offered on a channel (R375). -/
  | can (ch : Nat) (f : CanFrame)
  /-- A HART request on an FSK channel (R400, R401). -/
  | fsk (ch : Nat) (bytes : Bytes)
  /-- An Ethernet frame that departs from a port (R353). -/
  | net (port : Nat) (bytes : Bytes)
  /-- A HelloRetryRequest with a cookie, from a port (R323). -/
  | hello (port : Nat)
  /-- A VOP response in a session (R326), and on VOP-C with the identifier of its frames (R331). -/
  | vop (session : Nat) (bytes : Bytes)
  | vopc (ch id : Nat) (frames : List Bytes)
  /-- Status code (R329) of a request that reaches the module as a command of its own. -/
  | status (session code : Nat)
  /-- A word that a read of a register or of memory returns to its reader. -/
  | read (addr : Nat) (w : TW)
  /-- Bytes that the maintenance bus returns (R495). -/
  | mnb (bytes : Bytes)
  /-- An error response (R415). -/
  | busError
  deriving DecidableEq, Repr

/-- The state of the module. -/
structure State where
  /-- Fields of the registers of the CSR window that are not at their reset value (R9, R10). -/
  csr : SMap Nat := []
  /-- Memory words that do not read as `memDflt` (R54, R103). -/
  mem : SMap TW := []
  /-- Values of the committed configuration in effect, by index × 256 + subindex, encoded as R286 gives them; an
  object that is not listed has its default. -/
  cfg : SMap Bytes := []
  /-- The cores of the 13 units, core 0 before core 1 (R86, R87). -/
  cores : SMap CoreSt := []
  /-- The stagger of each locked unit (R202 to R211). -/
  pairs : SMap PairSt := []
  /-- The state of each block that its registers do not show. -/
  tmb : Tmb := {}
  evr : Evr := {}
  md : ModeSt := {}
  link : LinkSt := {}
  drv : Drv := {}
  pimg : Pimg := {}
  can : SMap CanChan := []
  /-- Launches refused by R355. -/
  launchRefused : Nat := 0
  /-- Further blocks. -/
  alp : Alp := {}
  tarn : Tarn := {}
  live : Live := {}
  /-- Decoded content of configuration copies 0 and 1 (R304). -/
  cfg0 : SMap Bytes := []
  cfg1 : SMap Bytes := []
  /-- Further blocks. -/
  net : Net := {}
  ptp : Ptp := {}
  xch : Xch := {}
  pwr : Pwr := {}
  lcs : Lcs := {}
  cvu : Cvu := {}
  mpu : Mpu := {}
  hwif : Hwif := {}
  /-- The model's own: how many free values have been taken. -/
  free : Nat := 0
  /-- Flipped bits of the 80 stored bits of a word (R105). -/
  upsets : SMap (BitVec 80) := []
  /-- What the module has sent, in order. -/
  out : List Out := []
  /-- The commands that wait, the next one first. -/
  pending : List Instr := []
  deriving DecidableEq, Repr

/-- The module right after reset (R10, R50): every register at its reset value, which `Fld.reset` gives for an unlisted
field, so that `PWR.MODE.CUR` reads BOOT; no memory word listed, and no command waiting. DESIGN CHOICE (log 1, 3, 4). -/
def State.reset : State := {}

/-- Faults of a step. There are none: every command's effect is a next state, since what the spec calls a fault of the
module (a latching fault, a trap, an error code) is an effect on the state that the spec describes. -/
inductive Fault : Type
  deriving DecidableEq, Repr

/-- Refusals of a step. -/
inductive Refusal where
  /-- Raised by an arm of `exec` whose command has no meaning in this model. Safe: nothing is claimed of it. -/
  | notModelled (mnemonic : String)
  deriving DecidableEq, Repr

/-- What a step answers. -/
abbrev Result := Host.Outcome State Fault Refusal

end Sys2Proof.Machine
end

