-- ==== Sys2Proof/Machine/Base.lean ====
section
/-! DEFINITION. The named operations on the state that every chapter uses: register fields, memory words, the running
time base, events, outputs. -/

namespace Sys2Proof.Machine

/-- One operation for each element of a list, in order. -/
def State.each {α : Type} (s : State) (l : List α) (f : α → State → State) : State :=
  match l with
  | [] => s
  | a :: l => State.each (f a s) l f

/-! Register fields -/

/-- The value of a register field. -/
def State.get (s : State) (f : Fld) : Nat := SMap.get f.reset s.csr f.key

/-- A register field as a flag. -/
def State.flag (s : State) (f : Fld) : Bool := s.get f != 0

/-- Set a register field, cut to its width. -/
def State.set (s : State) (f : Fld) (v : Nat) : State :=
  { s with csr := SMap.set s.csr f.key (v % 2 ^ f.width) }

def State.setFlag (s : State) (f : Fld) (b : Bool) : State := s.set f (if b then 1 else 0)

/-- Count by one, wrapping at the field's width. -/
def State.incWrap (s : State) (f : Fld) : State := s.set f (s.get f + 1)

/-- Add, saturating at the field's width. -/
def State.addSat (s : State) (f : Fld) (n : Nat) : State := s.set f (min (s.get f + n) (2 ^ f.width - 1))

def State.incSat (s : State) (f : Fld) : State := s.addSat f 1

/-- A TIME or cursor in two 32-bit halves. -/
def State.setHalves (s : State) (lo hi : Fld) (v : Int) : State :=
  let n := (BitVec.ofInt 64 v).toNat
  (s.set lo (n % 2 ^ 32)).set hi (n / 2 ^ 32)

def State.getHalves (s : State) (lo hi : Fld) : Int := (BitVec.ofNat 64 (s.get hi * 2 ^ 32 + s.get lo)).toInt

/-- A signed value cut to the range of a 32-bit signed field, in two's complement (saturating fields of R356, R357). -/
def satI32 (v : Int) : Nat := (BitVec.ofInt 32 (saturate (-(2 ^ 31)) (2 ^ 31 - 1) v).1).toNat

/-! Modes -/

/-- Mode numbers (R33). -/
def mStore : Nat := 0
def mBoot : Nat := 1
def mIsolated : Nat := 2
def mSync : Nat := 3
def mStandby : Nat := 4
def mPrimary : Nat := 5
def mSolo : Nat := 6
def mSafe : Nat := 7

/-- `PWR.MODE.CUR`. -/
def State.mode (s : State) : Nat := s.get Reg.modeCur

/-- In control: PRIMARY or SOLO (R33). -/
def State.inControl (s : State) : Bool := s.mode == mPrimary || s.mode == mSolo

/-- The feed domain is powered: every mode but STORE (R33). -/
def State.powered (s : State) : Bool := s.mode != mStore

/-- The functional logic runs: powered, and not stopped by boundary scan (R499). -/
def State.functional (s : State) : Bool := s.powered && !s.hwif.pins

/-- The interfaces are held as in BOOT: before BOOT has ended, after a failed step 4 or 5 (R49), and while boundary scan holds
the pins. -/
def State.held (s : State) : Bool := decide (s.mode ≤ mBoot) || s.md.romOnly || s.hwif.pins

/-- The runtime on the supervisor pair runs: no STORE, no BOOT, a verified firmware on a tested pair (R49), and the
functional logic not stopped by boundary scan (R499). -/
def State.runtime (s : State) : Bool := decide (mIsolated ≤ s.mode) && !s.md.romOnly && !s.hwif.pins

/-! Memory (R103) -/

/-- The areas of the word-address map (R103), numbered as `PWR.ECCINFO.AREA` where they carry the check code. -/
inductive Area where
  | data | slotA | slotB | storeCode | storeData | retentive | csr | none
  deriving DecidableEq, Repr

def areaOf (a : Nat) : Area :=
  if a < 0x400000 then .data
  else if a < 0x1000000 then .none
  else if a < 0x1200000 then .slotA
  else if a < 0x1400000 then .slotB
  else if a < 0x2000000 then .none
  else if a < 0x20C0000 then .storeCode
  else if a < 0x2100000 then .storeData
  else if a < 0x8000000 then .none
  else if a < 0x8400000 then .retentive
  else if a < 0xF0000000 then .none
  else if a < 0xF0120000 then .csr
  else .none

/-- What an unlisted word reads as: the fill of R512 in a program slot, else value 0 with tag 0x00.
DESIGN CHOICE (log 8). -/
def memDflt (a : Nat) : TW :=
  if areaOf a = .slotA ∨ areaOf a = .slotB then ⟨0xFFFFFFFFFFFFFFFF#64, 0xFF#8⟩ else ⟨0#64, 0#8⟩

/-- The stored word at an address, without any check. -/
def State.word (s : State) (a : Nat) : TW := SMap.get (memDflt a) s.mem a

/-- Write a word: value, tag and check bits together (R101), so that earlier upset bits of the word are gone. -/
def State.setWord (s : State) (a : Nat) (w : TW) : State :=
  { s with mem := SMap.put (memDflt a) s.mem a w, upsets := SMap.erase s.upsets a }

/-- Write words from an address up. -/
def State.setWords (s : State) (a : Nat) : List TW → State
  | [] => s
  | w :: l => State.setWords (s.setWord a w) (a + 1) l

/-- `n` words from an address up. -/
def State.words (s : State) (a n : Nat) : List TW := (List.range n).map (fun i => s.word (a + i))

/-- Every word of `[lo, hi)` to what an unlisted word reads as. -/
def State.clearWords (s : State) (lo hi : Nat) : State :=
  { s with mem := SMap.eraseRange s.mem lo hi, upsets := SMap.eraseRange s.upsets lo hi }

/-! Time -/

/-- The TIME of the present instant (R335). -/
def State.now (s : State) : Int := ((s.tmb.sec : Int) + 378691200) * 1000000000 + s.tmb.ns

/-- The time base has reached `t`. -/
def State.due (s : State) (t : Int) : Bool := decide (t ≤ s.now)

/-- TMB matches `t`: the last tick reached it. DESIGN CHOICE (log 5). -/
def State.matches (s : State) (t : Int) : Bool := decide (s.tmb.prev < t) && decide (t ≤ s.now)

/-- In lock (R339), as `TMB.STAT.LOCK` shows it. -/
def State.inLock (s : State) : Bool := s.flag Reg.tmbLock

/-! Cores -/

/-- Number of core `b` of unit `u` in State. -/
def coreKey (u : Nat) (b : Bool) : Nat := 2 * u + if b then 1 else 0

def State.core (s : State) (u : Nat) (b : Bool) : CoreSt := SMap.get {} s.cores (coreKey u b)

def State.setCore (s : State) (u : Nat) (b : Bool) (c : CoreSt) : State :=
  { s with cores := SMap.put {} s.cores (coreKey u b) c }

/-- The stagger of a unit (R202). -/
def State.pair (s : State) (u : Nat) : PairSt := SMap.get {} s.pairs u

def State.setPair (s : State) (u : Nat) (f : PairSt → PairSt) : State :=
  { s with pairs := SMap.put {} s.pairs u (f (s.pair u)) }

/-- A unit retires a token, or takes an event, now (R204, R211). -/
def State.noteToken (s : State) (u : Nat) : State := s.setPair u fun p => { p with lastAt := s.tmb.raw }

/-- One change on every core. -/
def State.onCores (s : State) (f : Nat → CoreSt → CoreSt) : State :=
  s.each (List.range 26) fun k t => { t with cores := SMap.put {} t.cores k (f (k / 2) (SMap.get {} t.cores k)) }

/-! Events (R444) -/

/-- Bytes of a record before its payload (R439, R440): the header, and the time block that class 0 lacks. -/
def recHead (cls : Nat) : Nat := if cls = 0 then 16 else 32

/-- A record of an event now: the EVR adds NUMBER when it writes it. DESIGN CHOICE (log 10). -/
def State.mkRec (s : State) (cls num sev : Nat) (payload : Bytes) : EvRec :=
  let n := 1024 - recHead cls
  { cls := cls, num := num, sev := sev, payload := payload.take n,
    tai := if s.get Reg.tmbState = 0 then 0 else s.now, inlock := s.inLock,
    optime := s.get Reg.evrOptime, pcycle := s.get Reg.evrPcycle, trunc := decide (n < payload.length) }

def State.evRec (s : State) (k : EvKind) (args : List Int) : EvRec :=
  s.mkRec k.cls (Config.evNumber k).toNat (Config.evSeverity k).toNat (Config.evPayload k args)

/-- A hardware record (R444): queued in 8 entries, never suppressed. DEDUCED (log 11). -/
def State.hwEvent (s : State) (k : EvKind) (args : List Int) : State :=
  if s.evr.hwq.length < 8 then
    let q := s.evr.hwq ++ [s.evRec k args]
    ({ s with evr := { s.evr with hwq := q } }).set Reg.evrHwq q.length
  else s

/-- A record into the post FIFO of 16; a post that finds it full is refused and counted (R444). -/
def State.post (s : State) (r : EvRec) : State :=
  if s.evr.fifo.length < 16 then
    let q := s.evr.fifo ++ [r]
    ({ s with evr := { s.evr with fifo := q } }).set Reg.evrFifo q.length
  else ({ s with evr := { s.evr with refused := s.evr.refused + 1, dropped := s.evr.dropped + 1 } }).incSat Reg.evrRefused

/-- A configuration object's value as a number; `d` is its default. -/
def State.cfgNat (s : State) (index sub d : Nat) : Nat :=
  match SMap.find s.cfg (index * 256 + sub) with
  | some b => leNat b
  | none => d

/-- A runtime event (R443): counted and not recorded where `OD 3A00h.01` suppresses its class. -/
def State.event (s : State) (k : EvKind) (args : List Int) : State :=
  if (s.cfgNat 0x3A00 0x01 0).testBit k.cls then
    { s with evr := { s.evr with suppressed := s.evr.suppressed + 1 } }
  else s.post (s.evRec k args)

/-- The row of R266 of the last detection (R282). -/
def State.detected (s : State) (row : Nat) : State := { s with md := { s.md with lastClass := row } }

/-- `PWR.TEMP.BOARD` (0) and `PWR.TEMP.MAXB` (1). DESIGN CHOICE (log 117). -/
def State.temp (s : State) (i : Nat) : Nat :=
  if s.tmb.raw = 0 then s.get (if i = 0 then Reg.tempBoard else Reg.tempMaxb)
  else (Config.boardTemp s.tmb.raw).toNat / 256 ^ i % 256

/-- DESIGN CHOICE (log 99). -/
def State.emit (s : State) (o : Out) : State := { s with out := s.out ++ [o] }

/-! Rails (R91, R94, R112) -/

/-- A unit's rail, which ATMAX shows at 0.90 V. -/
def State.setRail (s : State) (u v : Nat) : State := (s.set (Reg.vltVolt u) v).setFlag (Reg.spdAtmax u) (v == 900)

/-- The rail is held at a fixed voltage (R94). -/
def State.fixedRail (s : State) (u : Nat) : Bool :=
  s.flag Reg.avsFixv && decide (u < 3) && (s.get Reg.fixClmask).testBit u

/-- Fixed-voltage test mode holds the rails of its clusters (R94); a cluster in DOZE comes back to the fixed rail. -/
def State.fixRails (s : State) : State :=
  let v := max 680 (min 900 (s.get Reg.fixVolt))
  s.each ((List.range 3).filter s.fixedRail) fun c t =>
    match SMap.find t.pwr.dozeRail c with
    | some r => if (SMap.find t.pwr.dozeAt c).isSome then
        { t with pwr := { t.pwr with dozeRail := SMap.set t.pwr.dozeRail c (v, r.2) } } else t.setRail c v
    | none => t.setRail c v

end Sys2Proof.Machine
end

