-- ==== Sys2Proof/Machine/LinkOps.lean ====
section
/-! DEFINITION. Operations of the Eweox link (R231 to R236): sending a frame, accepting a received one, the content of
the frames that the module sends, and the state of the lanes. -/

namespace Sys2Proof.Machine

/-- Frame types (R233). -/
def ftHeartbeat : Nat := 1
def ftRole : Nat := 2
def ftExit : Nat := 3
def ftSnapshot : Nat := 4
def ftTrigger : Nat := 5
def ftAocmd : Nat := 6
def ftSeal : Nat := 7
def ftDiag : Nat := 8
def ftWeir : Nat := 9
def ftSyncdata : Nat := 10
def ftSyncctl : Nat := 11
def ftMirror : Nat := 12
def ftObject : Nat := 13
def ftManifest : Nat := 14
def ftEcho : Nat := 15
def ftAck : Nat := 16

/-- Duplicated on every lane that is up (R233). -/
def dupType (ty : Nat) : Bool := ty != ftSnapshot && ty != ftSyncdata && ty != ftMirror && ty != ftObject

/-- Sent again until acknowledged (R233). -/
def ackType (ty : Nat) : Bool :=
  ty == ftDiag || (decide (ftSyncdata ≤ ty) && decide (ty ≤ ftManifest))

def wBits (v : Nat) : TW := ⟨BitVec.ofNat 64 v, 0xC4#8⟩
def wTime (v : Int) : TW := ⟨BitVec.ofInt 64 v, 0xC3#8⟩
def wUint (v : Nat) : TW := ⟨BitVec.ofNat 64 v, 0xC1#8⟩

/-- A bit of a number as a factor. -/
def bit (b : Bool) (n : Nat) : Nat := if b then 2 ^ n else 0

def State.laneUp (s : State) (l : Nat) : Bool := s.flag (Reg.laneUp l)
def State.lanesUp (s : State) : List Nat := [0, 1].filter fun l => s.laneUp l
/-- At least one lane is up: `PWR.MODE.LINK` (R231). -/
def State.linkUp (s : State) : Bool := s.laneUp 0 || s.laneUp 1
def State.bothLanes (s : State) : Bool := s.laneUp 0 && s.laneUp 1
def State.togglePresent (s : State) : Bool := s.flag Reg.modeToggle
/-- The partner's mode as last reported over the link, 8 for none (R50). -/
def State.partnerMode (s : State) : Nat := if s.flag Reg.modePvalid then s.get Reg.modePartner else 8

/-- Word 0 of a frame (R232). -/
def frameWord0 (ty lane seq len : Nat) (dup ack last : Bool) : TW :=
  wBits (ty + bit (lane == 1) 8 + bit dup 9 + bit ack 10 + bit last 11 + len * 2 ^ 16 + seq * 2 ^ 32)

def frameCrc (words : List TW) : BitVec 32 := BitVec.ofNat 32 (crc 0 (wordsBytes words))

/-- One frame onto one lane. -/
def State.putFrame (s : State) (lane ty seq : Nat) (dup last : Bool) (payload : List TW) : State :=
  let ws := frameWord0 ty lane seq payload.length dup (ackType ty) last :: wTime s.now :: payload
  s.emit (.ewx lane ws (frameCrc ws))

/-- Take the next SEQ of a type. -/
def State.nextSeq (s : State) (ty : Nat) : Nat := SMap.get 0 s.link.txSeq ty

/-- DEDUCED (log 59). -/
def State.bumpSeq (s : State) (ty : Nat) : State :=
  { s with link := { s.link with txSeq := SMap.set s.link.txSeq ty ((s.nextSeq ty + 1) % 2 ^ 32) } }

/-- Send a frame as R233 states: a Dup frame on every lane that is up, a Stripe frame on one; an Ack frame waits for
its ACK. `lane` chooses the lane of a Stripe frame while both are up. -/
def State.sendFrame (s : State) (ty : Nat) (lane : Nat) (last : Bool) (payload : List TW) : State :=
  let q := s.nextSeq ty
  let lanes := if dupType ty then s.lanesUp
    else if s.bothLanes then [lane % 2] else s.lanesUp
  let s1 := (s.bumpSeq ty).each lanes fun l t => t.putFrame l ty q (dupType ty) last payload
  if ackType ty && !lanes.isEmpty then
    { s1 with link := { s1.link with acks := s1.link.acks ++
        [{ ty := ty, seq := q, payload := payload, lane := lanes.headD 0, last := last, at_ := s.now, tries := 1 }] } }
  else s1

/-- A Stripe set: its frames go out on lanes A and B in turn; the last one carries the end mark (R233). -/
def State.sendSet (s : State) (ty : Nat) : Nat → List (List TW) → State
  | _, [] => s
  | k, p :: l => State.sendSet (s.sendFrame ty k l.isEmpty p) ty (k + 1) l

/-! Receiving -/

/-- A frame as accepted: type, last-of-set flag, SEQ, SENT and payload. DESIGN CHOICE (log 6). -/
structure Frame where
  ty : Nat
  last : Bool
  seq : Nat
  sent : Int
  payload : List TW
  deriving DecidableEq, Repr

/-- Header tags, type and length of R232. DEDUCED (log 58). -/
def parseFrame (words : List TW) : Option Frame :=
  match words with
  | w0 :: w1 :: p =>
    let v := w0.val.toNat
    let ty := v % 256
    if w0.tag = 0xC4#8 ∧ w1.tag = 0xC3#8 ∧ 1 ≤ ty ∧ ty ≤ 16 ∧ v / 2 ^ 16 % 1024 = p.length then
      some ⟨ty, v.testBit 11, v / 2 ^ 32, w1.val.toInt, p⟩
    else none
  | _ => none

def tagsAre (l : List TW) (tags : List (BitVec 8)) : Bool := l.map (·.tag) == tags

/-- Reserved fields of a BITS64 payload word read 0: only the bits of `mask` may be set (R234). -/
def onlyBits (w : TW) (mask : Nat) : Bool := w.val &&& ~~~(BitVec.ofNat 64 mask) == 0#64

/-- Packed bytes from a payload word on: the words that `n` bytes take, and zeros behind the last byte (R234). -/
def padOk (exact : Bool) (n : Nat) (l : List TW) : Bool :=
  (!exact || l.length == ceilDiv n 8) && ((valueBytes l).drop n).all (· == 0#8)

/-- The kind and content of a ROLE payload's words as numbers (R234): a swap confirmation has kind 3 with bit 4 set; a start
claim and a proposal answer nothing, and a start claim names no boundary. DEDUCED (log 58). -/
def roleOk (v t : Nat) : Bool :=
  let kind := v % 4
  if v.testBit 4 then kind == 3 else kind != 0 && (kind == 3 || v / 2 ^ 32 == 0) && (kind != 1 || t == 0)

/-- The words of a MIRROR payload (R234): a record of the length given, or a repeat update of two words. -/
def mirrorOk (v : Nat) (l : List TW) : Bool :=
  (v % 4 == 1 && padOk true (v / 2 ^ 16 % 65536) l) || (v % 4 == 2 && l.length == 2)

/-- The words of an OBJECT payload (R234), in parts of 8,176 bytes. DEDUCED (log 58). -/
def objectOk (v : Nat) (l : List TW) : Bool :=
  1 ≤ v % 16 && v % 16 ≤ 4 && padOk false (v / 2 ^ 32 - 8176 * (v / 2 ^ 16 % 65536)) l

/-- Whether a payload has the layout of R234: word count, tags, and no bit of an unnamed field. -/
def payloadOk (ty : Nat) (p : List TW) : Bool :=
  let b : BitVec 8 := 0xC4#8
  let t : BitVec 8 := 0xC3#8
  let w (i : Nat) : TW := p.getD i ⟨0#64, 0#8⟩
  match ty with
  | 1 => tagsAre p [b, t] && onlyBits (w 0) 0xFF7FFF
  | 2 => tagsAre p [b, t] && onlyBits (w 0) (0xFFFFFFFF00000000 + 0x1F) && roleOk (w 0).val.toNat (w 1).val.toNat
  | 3 => tagsAre p [b] && onlyBits (w 0) 0x3FFF77
  | 4 => decide (2 ≤ p.length) && (w 0).tag == b && onlyBits (w 0) 0xFFFF003F && (w 1).tag &&& 0x3F#8 == 3#8
  | 5 =>
    let soft := (w 0).val.getLsbD 5
    tagsAre p (b :: b :: t :: List.replicate 8 b) && onlyBits (w 0) 0x3F
      && (!soft || ((w 1).val == 0#64 && (p.drop 3).all (fun x => x.val == 0#64)))
  | 6 =>
    let carried (n : Nat) : Bool := (w 1).val.getLsbD n
    decide (p.length = 10) && (w 0).tag == t && (w 1).tag == b && onlyBits (w 1) 0xFF
      && (List.range 8).all (fun n => if carried n then tagT (w (2 + n)).tag == tyFloat else w (2 + n) == ⟨0#64, 0#8⟩)
  | 7 => tagsAre p [b, t, b, b, b] && onlyBits (w 0) 0x3F
  | 8 => tagsAre p [b, t] && onlyBits (w 0) 0x1FFF0033 && ((w 0).val.toNat % 4 == 1 || (w 0).val.toNat % 4 == 2)
  | 9 => tagsAre p [b, t] && onlyBits (w 0) 0x101
  | 10 => decide (1 ≤ p.length) && (w 0).tag == b && onlyBits (w 0) 0xFFFFFFFF0000000F
  | 11 =>
    let kind := (w 0).val.toNat / 16 % 16
    tagsAre p [b, t] && onlyBits (w 0) 0xFFFF0FFF && decide (1 ≤ kind) && decide (kind ≤ 4) && (kind == 3 || (w 1).val == 0#64)
  | 12 => decide (2 ≤ p.length) && p.all (fun x => x.tag == b) && onlyBits (w 0) 0xFFFF0003 && mirrorOk (w 0).val.toNat (p.drop 1)
  | 13 => decide (1 ≤ p.length) && p.all (fun x => x.tag == b) && onlyBits (w 0) 0xFFFFFFFFFFFF000F && objectOk (w 0).val.toNat (p.drop 1)
  | 14 => tagsAre p [b, b, b, b, b, b, b, 0xC1#8, 0xC1#8, b, b] && onlyBits (w 6) 0x7FFFFF
  | 15 =>
    tagsAre p [b, t, t, t] && onlyBits (w 0) 0xFFFF0001
      && ((w 0).val.getLsbD 0 || ((w 2).val == 0#64 && (w 3).val == 0#64))
  | 16 => tagsAre p [b] && onlyBits (w 0) 0xFFFFFFFF000000FF
  | _ => false

/-- Discard a frame (R232, R234). DEDUCED (log 58). -/
def State.discardFrame (s : State) : State := s.incSat Reg.ewxDisc

/-- Acknowledge an Ack frame on the lanes that are up (R233, R234). -/
def State.sendAck (s : State) (ty seq : Nat) : State := s.sendFrame ftAck 0 false [wBits (ty + seq * 2 ^ 32)]

/-- Receive a frame on a lane: CRC, header and payload checks with their counts, acknowledgement, the first valid copy
of a Dup frame (R232 to R234); `k` is the effect of a new frame of the type expected. A frame of another type leaves
the state as it is: it is the subject of that type's own command. DEDUCED (log 58). -/
def State.receive (s : State) (lane : Nat) (f : EwxFrame) (ty : Nat) (k : Frame → State → State) : State :=
  if !s.flag (Reg.laneTrained lane) then s
  else if frameCrc f.words ≠ f.crc then s.incSat (Reg.ewxCrc lane)
  else
    match parseFrame f.words with
    | none => s.discardFrame
    | some fr =>
      if !payloadOk fr.ty fr.payload then s.discardFrame
      else if fr.ty ≠ ty then s
      else
        let s1 := if ackType ty then s.sendAck ty fr.seq else s
        let key := ty * 2 ^ 32 + fr.seq
        if key ∈ s1.link.seen then s1
        else k fr { s1 with link := { s1.link with seen := (key :: s1.link.seen).take 512 } }

/-! Frames that the module sends -/

/-- HEARTBEAT words 2 and 3 (R234). -/
def State.heartbeatPayload (s : State) : List TW :=
  let pn := match s.md.pend with | some p => p.num | none => 0
  let pa := match s.md.pend with | some p => p.at_ | none => 0
  [wBits (s.mode + bit (s.flag Reg.modeDrive) 3 + bit (s.flag Reg.modeInctrl) 4 + pn * 32
      + bit (s.flag Reg.intentSeen) 10 + bit (s.laneUp 0) 11 + bit (s.laneUp 1) 12
      + bit s.togglePresent 13 + bit s.inLock 14 + s.get Reg.modeCause * 2 ^ 16),
   wTime pa]

/-- EXIT (R234). DEDUCED (log 64). -/
def State.sendExit (s : State) (m0 m1 cause num : Nat) (drive : Bool) : State :=
  s.sendFrame ftExit 0 false [wBits (m0 + m1 * 16 + cause * 256 + num * 2 ^ 16 + bit drive 21)]

/-- ROLE: kind 1 claim, 2 proposal, 3 acceptance, 19 confirmation (R234, R243). -/
def State.sendRole (s : State) (kind answered : Nat) (b : Int) : State :=
  s.sendFrame ftRole 0 false
    [wBits (kind + bit (s.flag Reg.prefpri) 2 + bit (s.flag Reg.blwPos) 3 + answered * 2 ^ 32), wTime b]

/-- SYNCCTL (R234): kind 1 phase start, 2 pass end, 3 GO, 4 abort. -/
def State.sendSyncCtl (s : State) (phase kind reason pass : Nat) (b : Int) : State :=
  s.sendFrame ftSyncctl 0 false [wBits (phase + kind * 16 + reason * 256 + pass * 2 ^ 16), wTime b]

/-- WEIR (R234): kind 0 commit, 1 exchange. -/
def State.sendWeir (s : State) (kind : Nat) (go : Bool) (b : Int) : State :=
  s.sendFrame ftWeir 0 false [wBits (kind % 2 + bit go 8), wTime b]

/-- Bytes of an object in OBJECT frames, 8,176 bytes a part (R234). -/
def objectParts (kind total : Nat) : Nat → List Bytes → List (List TW)
  | _, [] => []
  | k, b :: l => (wBits (kind + k * 2 ^ 16 + total * 2 ^ 32) :: packWords 0xC4#8 b) :: objectParts kind total (k + 1) l

/-- Send bytes as an OBJECT set: kind 1 image segment, 2 commit set, 3 force change, 4 yearling report. -/
def State.sendObject (s : State) (kind : Nat) (b : Bytes) : State :=
  s.sendSet ftObject 0 (objectParts kind b.length 0 (groupBytes 8176 (b.length / 8176 + 1) b))

/-! Lane state -/

/-- The stripe register follows the lanes that are up (R262). -/
def State.setStripe (s : State) : State :=
  s.set Reg.ewxStripe (if s.bothLanes then 0 else if s.laneUp 0 then 1 else if s.laneUp 1 then 2 else 3)

/-- The registers that show the lanes and the link (R50, R231, R261). -/
def State.showLanes (s : State) : State :=
  let s1 := ((s.setFlag Reg.evLinka (s.laneUp 0)).setFlag Reg.evLinkb (s.laneUp 1)).setFlag Reg.modeLink s.linkUp
  let s2 := s1.setFlag Reg.evrMirror s.linkUp
  let s3 := if s.bothLanes then { s2 with link := { s2.link with
      oneLaneAt := none, oneLaneEnd := if s2.link.oneLaneAt.isSome then some s.now else s2.link.oneLaneEnd } }
    else match s2.link.oneLaneAt with
      | some _ => s2
      | none => { s2 with link := { s2.link with oneLaneAt := some s.now } }
  s3.setStripe

/-- A lane comes up or goes down: an event, the register, a count of the falls (R231); the fall of the last lane is the loss
of the pair link (R266). -/
def State.setLane (s : State) (l : Nat) (up : Bool) : State :=
  if s.laneUp l = up then s
  else
    let s1 := s.setFlag (Reg.laneUp l) up
    let s2 := if up then s1 else s1.incSat (Reg.laneDowns l)
    let s3 := (s2.event .laneChange [l, if up then 1 else 0]).showLanes
    if up || s3.linkUp then s3 else s3.detected 7

end Sys2Proof.Machine
end

