-- ==== Sys2Proof/Machine/DrvOps.lean ====
section
/-! DEFINITION. Operations of the Drover (R114 to R148): tasks, the release grid, priority, the fastest task's
boundaries, and the run-time state of a task. -/

namespace Sys2Proof.Machine

def State.task (s : State) (n : Nat) : TaskSt := SMap.get {} s.drv.tasks n

def State.setTask (s : State) (n : Nat) (f : TaskSt → TaskSt) : State :=
  { s with drv := { s.drv with tasks := SMap.put {} s.drv.tasks n (f (s.task n)) } }

def cyclicTasks : List Nat := List.range 16
def urgentTasks : List Nat := (List.range 8).map (· + 16)

/-- Enabled: by the configuration and the active image (R115). -/
def State.enabled (s : State) (n : Nat) : Bool := s.flag (Reg.tcfgEn n)

/-- Task numbers from 32 on are the trial tasks of the idle image (R180), 32 above the number that they bear there. -/
def State.trialDesc (s : State) (n : Nat) : Option TaskDesc :=
  match (if s.get Reg.xchActive = 0 then s.xch.imgB else s.xch.imgA) with
  | some m => m.tasks.find? fun t => t.task + 32 == n
  | none => none

/-- An entry of a task: the DRV register, or for a trial task the descriptor's. -/
def State.taskEntry (s : State) (n : Nat) (r : Fld) (d : TaskDesc → Nat) : Nat :=
  if n < 32 then s.get r else match s.trialDesc n with
    | some t => d t
    | none => 0

/-- The unit a task is pinned to (R114). -/
def State.pairOf (s : State) (n : Nat) : Nat := s.taskEntry n (Reg.tcfgPair n) (·.pair)

def State.scrOf (s : State) (n : Nat) : Nat := s.taskEntry n (Reg.tscr n) (·.scr)

/-- Whether a unit runs split (R224, R226); SP never does. -/
def State.isSplit (s : State) (u : Nat) : Bool := decide (u < 12) && (s.get Reg.splitMask).testBit u

/-- The core of a split pair a task runs on: 0 for an even number, 1 for an odd one (R225). -/
def State.coreOf (s : State) (n : Nat) : Bool := s.isSplit (s.pairOf n) && n % 2 == 1

/-- Where a task runs: a locked pair, or one core of a split pair (R225). -/
def State.place (s : State) (n : Nat) : Nat := coreKey (s.pairOf n) (s.coreOf n)

/-- Period in ns (R116). -/
def State.periodNs (s : State) (n : Nat) : Int := (s.get (Reg.tperN n) : Int) * 125000

def State.phaseNs (s : State) (n : Nat) : Int := (s.get (Reg.tphase n) : Int) * 125000

def State.offsetNs (s : State) (n : Nat) : Int := (s.get (Reg.toutOfs n) : Int) * 1000

/-- Minimum interval of an urgent task's dispatches in ns (R134). -/
def State.minInterval (s : State) (n : Nat) : Int := (s.get (Reg.umiatUs n) : Int) * 1000

/-- Last instant of a grid at or before `t`. -/
def gridFloor (period phase t : Int) : Int := if period = 0 then t else t - (t - phase) % period

/-- First instant of a grid at or after `t`. -/
def gridCeil (period phase t : Int) : Int := if period = 0 then t else gridFloor period phase (t + period - 1)

/-- Release instants of a cyclic task (R118): the last one at or before `t`, the first one after it. -/
def State.releaseAtOrBefore (s : State) (n : Nat) (t : Int) : Int := gridFloor (s.periodNs n) (s.phaseNs n) t
def State.releaseAfter (s : State) (n : Nat) (t : Int) : Int := gridCeil (s.periodNs n) (s.phaseNs n) (t + 1)

def State.outputOf (s : State) (n : Nat) (rel : Int) : Int := rel + s.offsetNs n

/-- Enabled cyclic tasks. -/
def State.cyclicEnabled (s : State) : List Nat := cyclicTasks.filter s.enabled

/-- The fastest task configured (R23, R37): shortest period, at equal periods the lower number. -/
def State.fastest (s : State) : Option Nat :=
  s.cyclicEnabled.foldl (fun b n => match b with
    | none => some n
    | some m => if s.get (Reg.tperN n) < s.get (Reg.tperN m) then some n else b) none

/-- The next cycle boundary of the fastest task after `t`; of the 125 µs grid where no task is enabled (R144).
DEDUCED (log 44). -/
def State.boundaryAfter (s : State) (t : Int) : Int :=
  match s.fastest with
  | some n => s.releaseAfter n t
  | none => gridCeil 125000 0 (t + 1)

/-- Releases are active in STANDBY, PRIMARY and SOLO (R120), and not after a latching fault (R38). -/
def State.active (s : State) : Bool := s.flag Reg.drvActive

/-- What takes effect at a boundary comes before its releases (R22 to R24): a transition that waits for an instant that
has come, the reversal of a swap likewise, or an application on GO at a boundary that has come. DEDUCED (log 44). -/
def State.boundaryWaits (s : State) : Bool :=
  (match s.md.pend with | some p => s.due p.at_ | none => false) ||
    (match s.link.reversalAt with | some b => s.due b | none => false) ||
    (match s.drv.window with | some b => s.drv.decision == some true && s.due b | none => false)

/-- The release instant that TMB matches now for a task, if any, not yet acted on (R118 to R120). -/
def State.releaseAt (s : State) (n : Nat) : Option Int :=
  let t := s.releaseAtOrBefore n s.now
  if s.active && s.enabled n && decide (n < 16) && s.matches t && (s.task n).lastRel != some t
      && (match s.drv.startAt with | some a => decide (a + 125000 ≤ t) | none => true)
  then some t else none

/-- The release to take now: none while something takes effect before it (R22 to R24). -/
def State.releaseDue (s : State) (n : Nat) : Option Int := if s.boundaryWaits then none else s.releaseAt n

/-- A task takes part in the yearling run (R180). -/
def State.isTrial (s : State) (n : Nat) : Bool := decide (32 ≤ n) && (SMap.find s.xch.trial (n - 32)).isSome

/-- A release instant of a trial task that TMB matches now (R182): on the standby once it has the trial state, on the
primary, which distributes the snapshots, from TRIAL_START on. DEDUCED (log 54). -/
def State.trialDue (s : State) (n : Nat) : Option Int :=
  let t := s.releaseAtOrBefore n s.now
  let k := s.get Reg.xchState
  if s.active && !s.boundaryWaits && s.isTrial (n + 32) && (k == 5 || (k == 4 && s.mode == mPrimary)) && s.matches t
      && (s.task (n + 32)).lastRel != some t then some t
  else none

/-- Task state codes (R148). -/
def tsDisabled : Nat := 0
def tsIdle : Nat := 1
def tsSnapshot : Nat := 2
def tsWaiting : Nat := 3
def tsLogic : Nat := 4
def tsEnded : Nat := 5
def tsLate : Nat := 6
def tsUrgentPending : Nat := 7

def State.tstate (s : State) (n : Nat) : Nat := s.get (Reg.tstState n)

/-- A cycle of the task has been released and its end-of-cycle work is not done. DEDUCED (log 40). -/
def State.openCycle (s : State) (n : Nat) : Bool := (s.task n).rel.isSome && !(s.task n).ended

/-- The cycle's snapshot is not complete (R124). -/
def State.inSnapshot (s : State) (n : Nat) : Bool := s.openCycle n && !(s.task n).ready && (s.task n).startAt.isNone

/-- The cycle's snapshot is complete and its logic has not started: it waits for its place (R124). -/
def State.waits (s : State) (n : Nat) : Bool := s.openCycle n && (s.task n).ready && (s.task n).startAt.isNone

/-- The task that runs at a place, if any. -/
def State.runningAt (s : State) (p : Nat) : Option Nat := SMap.find s.drv.running p

/-- `a` runs before `b` (R121); a trial task is below every other (R180). -/
def State.before (s : State) (a b : Nat) : Bool :=
  if 32 ≤ a ∨ 32 ≤ b then decide (a < b)
  else if 16 ≤ a then decide (b < 16)
  else if 16 ≤ b then false
  else decide (s.get (Reg.tperN a) < s.get (Reg.tperN b)) || (s.get (Reg.tperN a) == s.get (Reg.tperN b) && decide (a < b))

/-- Both cores of a place get the same change: both cores of a locked pair, the one core of a split pair. -/
def State.onPlace (s : State) (p : Nat) (f : CoreSt → CoreSt) : State :=
  let u := p / 2
  if s.isSplit u then s.setCore u (p % 2 == 1) (f (s.core u (p % 2 == 1)))
  else (s.setCore u false (f (s.core u false))).setCore u true (f (s.core u true))

/-- Record a wake (R461): source code of R460, unit, stamp, count. -/
def State.recordWake (s : State) (src unit : Nat) (t : Int) : State :=
  (((s.set Reg.wakeSrc src).set Reg.wakeUnit unit).setHalves Reg.wakeAtl Reg.wakeAth t).incWrap Reg.wakeWakes

/-- States of a pair in PWR.SLEEPp (R479). -/
def slRun : Nat := 0
def slWait : Nat := 1
def slWaitDoze : Nat := 2
def slDoze : Nat := 3

/-- A cluster leaves DOZE: its pairs are in WAIT with DOZE requested, rail and bias step as at the entry (R141, R456).
DEDUCED (log 37). -/
def State.leaveDoze (s : State) (c : Nat) : State :=
  match SMap.find s.pwr.dozeRail c with
  | none => s
  | some (v, b) =>
    let s1 := (s.setRail c v).set (Reg.vltBias c) b
    let s2 := { s1 with pwr := { s1.pwr with
      dozeAt := SMap.erase s1.pwr.dozeAt c, dozeRail := SMap.erase s1.pwr.dozeRail c } }
    s2.each ((List.range 4).map (· + 4 * c)) fun u t =>
      if t.get (Reg.sleepState u) = slDoze then t.set (Reg.sleepState u) slWaitDoze else t

/-- A release (2) or a trigger (5 CAN, 6 software) ends WAIT of the pair (R139, R460). -/
def State.wakePair (s : State) (u src : Nat) : State :=
  if decide (u < 12) && s.get (Reg.sleepState u) != slRun then
    (((s.leaveDoze (u / 4)).set (Reg.sleepState u) slRun).recordWake src u s.now).noteToken u
  else s

/-- The state code of a task; a trial task has no register. -/
def State.setTState (s : State) (n k : Nat) : State := if n < 32 then s.set (Reg.tstState n) k else s

/-- The stagger of a locked unit is given up: no outstanding token takes effect, and both cores go on alike (R202, R221). -/
def State.flushPair (s : State) (u : Nat) : State :=
  if s.isSplit u ∨ ((s.pair u).ahead = [] ∧ (s.pair u).fifo = []) then s
  else
    (s.setCore u true { s.core u false with rflips := (s.core u true).rflips }).setPair u fun p =>
      { p with ahead := [], fifo := [], count1 := p.count0 }

/-- A change of a task's entry; an urgent task that runs on under the old configuration and image takes it when it ends
(R146). -/
def State.setEntry (s : State) (n : Nat) (f : Fld) (v : Nat) : State :=
  if (s.task n).old.isSome then s.setTask n fun k => { k with later := k.later ++ [(f, v)] } else s.set f v

/-- An urgent task that has run on past a Weir or exchange instant takes what it left (R146). DEDUCED (log 42). -/
def State.takeNew (s : State) (n : Nat) : State :=
  let t := s.setTask n fun k => { k with old := none, later := [] }
  let u := t.each (s.task n).later fun e v => v.set e.1 e.2
  if (s.task n).later.isEmpty ∨ u.enabled n then u else u.set (Reg.tstState n) tsDisabled

/-- The task of a place is given up: the cores stand in privileged mode, in the active slot after a trial cycle (R171). -/
def State.vacate (s : State) (e : Nat × Nat) : State :=
  (s.flushPair (e.1 / 2)).onPlace e.1 fun c =>
    { c with priv := true, slot := if 32 ≤ e.2 then s.get Reg.xchActive == 1 else c.slot }

/-- Every cycle in progress ends without publishing: shadow cycles at a role change (R142), all tasks in SAFE (R38). A
trigger held as pending is dropped with them. DEDUCED (log 40). DESIGN CHOICE (log 134). -/
def State.abandonCycles (s : State) : State :=
  let s0 := s.each s.drv.running fun e t => t.vacate e
  let s1 := s0.each (List.range 24) fun n t =>
    if t.enabled n then
      ((t.setTask n fun k => { k with rel := none, startAt := none, ended := false, outs := [], lateOuts := none,
                                      pend := none, stores := [], got := [], ready := false, late := false,
                                      awayAt := none }).set (Reg.tstState n) tsIdle).takeNew n
    else t
  let ends (e : Nat × Option Int) : Nat × Option Int := if e.2.isNone then (e.1, some s.now) else e
  (({ s1 with drv := { s1.drv with running := [], stack := [], urgent := s1.drv.urgent.map ends } }).set Reg.drvUpend 0).set
    Reg.drvUrun 0

/-- Releases follow the mode (R120, R142): active in STANDBY, PRIMARY and SOLO; shadow in STANDBY. -/
def State.drvOnMode (s : State) (m1 num : Nat) : State :=
  let on := m1 == mStandby || m1 == mPrimary || m1 == mSolo
  let s1 := (s.setFlag Reg.drvActive on).setFlag Reg.drvShadow (m1 == mStandby)
  let s2 := if !on then s1.abandonCycles
    else if num = 12 ∨ num = 13 then s1.abandonCycles else s1
  let s3 := { s2 with drv := { s2.drv with
    startAt := if num = 7 then some s.now else if on then s2.drv.startAt else none } }
  if m1 = mSafe then
    let s4 := (s3.set Reg.weirState (if s3.flag Reg.weirArm then 0 else s3.get Reg.weirState)).set Reg.weirArm 0
    { s4 with drv := { s4.drv with searchAt := none, window := none, decision := none } }
  else s3

end Sys2Proof.Machine
end

