-- ==== Sys2Proof/Machine/PimgOps.lean ====
section
/-! DEFINITION. The process image (R150 to R168): bindings, the write port, forces in effect, status points. -/

namespace Sys2Proof.Machine

/-- A binding word's fields (R152). -/
structure Binding where
  point : Nat
  kind : Nat
  ch : Nat
  sel : Nat
  ofs : Nat
  len : Nat
  enc : Nat
  be : Bool
  badact : Bool
  tmo : Nat
  deriving DecidableEq, Repr

def bitsAt (v lo n : Nat) : Nat := v / 2 ^ lo % 2 ^ n

def Binding.ofWord (v : Nat) : Binding :=
  { point := bitsAt v 0 16, kind := bitsAt v 16 4, ch := bitsAt v 20 4, sel := bitsAt v 24 8, ofs := bitsAt v 32 9,
    len := bitsAt v 41 6, enc := bitsAt v 47 3, be := v.testBit 50, badact := v.testBit 51, tmo := bitsAt v 52 12 }

def bkTaskOut : Nat := 1
def bkCanRx : Nat := 2
def bkCanTx : Nat := 3
def bkAi : Nat := 4
def bkAo : Nat := 5
def bkFskVar : Nat := 6
def bkPeerRx : Nat := 7
def bkPeerTx : Nat := 8

/-- A writer binding (R151): every source binding and every task-output binding. -/
def Binding.isWriter (b : Binding) : Bool :=
  b.kind == bkTaskOut || b.kind == bkCanRx || b.kind == bkAi || b.kind == bkFskVar || b.kind == bkPeerRx

/-- A source binding: a writer other than a task. DEDUCED (log 48). -/
def Binding.isSource (b : Binding) : Bool := b.isWriter && b.kind != bkTaskOut

/-- The bindings in effect: the signal table of the active image (R151). -/
def State.bindings (s : State) : List Binding := s.pimg.signals.map Binding.ofWord

def State.writerOf (s : State) (p : Nat) : Option Binding :=
  s.bindings.find? (fun b => b.point == p && b.isWriter)

/-- Lower the quality of a word to at most `q`, keeping the rest. -/
def lowerQ (w : TW) (q : Nat) : TW := ⟨w.val, mkTag (min q w.q) w.forced w.limit w.ty⟩

/-- The forced word of a point, if a force stands on it (R166). -/
def State.forceOf (s : State) (p : Nat) : Option TW := SMap.find s.pimg.forces p

/-- A point that an urgent task has written keeps its word against cycles released before that task ended (R136).
DEDUCED (log 43). -/
def State.urgentHeld (s : State) (p : Nat) (rel : Int) : Bool :=
  match SMap.find s.drv.urgent p with
  | some none => true
  | some (some e) => decide (rel < e)
  | none => false

/-- The word that a sink takes for a point (R166). -/
def State.sinkWord (s : State) (p : Nat) (w : TW) : TW := match s.forceOf p with | some f => f | none => w

/-- The variables of the retentive banks in use (R252): the active slot's, and the idle one's while it can be rolled
back to. -/
def State.retInUse (s : State) (a : Nat) : Bool :=
  [0, 1].any fun k =>
    (s.get Reg.xchActive == k || s.flag Reg.xchRollbk) &&
      (let r := retBank k
       let n := match (if k = 0 then s.xch.imgA else s.xch.imgB) with | some m => m.retUsed | none => 0
       decide (r.1 ≤ a) && decide (a < r.1 + 16 + n))

/-- A word that SYNC tracks (R253): data memory but for points with a source binding, and retentive words in use. -/
def State.syncTracked (s : State) (a : Nat) : Bool :=
  match areaOf a with
  | .data => decide (0x10000 ≤ a) || !(s.bindings.any fun b => b.point == a && b.isSource)
  | .retentive => s.retInUse a
  | _ => false

/-- `BLW.SYNCDS` and `BLW.SYNCDR`. -/
def State.setSyncDirty (s : State) (l : List Nat) : State :=
  let m := (l.filter fun a => areaOf a == .retentive).length
  (({ s with link := { s.link with dirty := l } }).set Reg.syncDs (l.length - m)).set Reg.syncDr m

/-- A store while this module sends SYNC data makes its word dirty (R253). -/
def State.noteSync (s : State) (a : Nat) : State :=
  if s.link.sendPhase < 3 ∨ (s.link.sendPhase = 3 ∧ areaOf a = .retentive) ∨ s.link.dirty.contains a ∨ !s.syncTracked a then s else s.setSyncDirty (s.link.dirty ++ [a])

/-- A write of a point. -/
def State.setPoint (s : State) (p : Nat) (w : TW) : State := (s.setWord p w).noteSync p

/-- What a write does when it is applied (R159, R166): source updates and expiries of a forced input point are ignored
and counted, a publication on a forced point writes the forced word. -/
def State.applyWrite (s : State) (w : PortWrite) : State :=
  match w.kind, s.forceOf w.point with
  | 0, some _ => { s with pimg := { s.pimg with ignored := s.pimg.ignored + 1 } }
  | 4, some _ => { s with pimg := { s.pimg with ignored := s.pimg.ignored + 1 } }
  | 1, some f => s.setPoint w.point f
  | _, _ => s.setPoint w.point w.word

/-- Stores to tracked words are held from B − 20 µs to B (R254). -/
def State.finalHold (s : State) : Bool :=
  match s.link.goAt with
  | some b => s.link.sendPhase != 0 && decide (s.now < b)
  | none => false

/-- A write reaching the port now is held: a snapshot of this instant is not complete, or its release has still to be
made at this instant, earlier writes are held (R159), or the final window of SYNC holds stores (R254). -/
def State.portHeld (s : State) : Bool :=
  !s.pimg.queue.isEmpty || s.finalHold || cyclicTasks.any (fun n =>
    (s.enabled n && s.inSnapshot n) || (s.releaseAt n).isSome || (s.mode == mPrimary && (s.trialDue n).isSome))

/-- A write through the one write port (R159); a writer that finds the queue of 4,096 full waits, which is counted. -/
def State.portWrite (s : State) (kind p : Nat) (w : TW) : State :=
  if s.portHeld then
    { s with pimg := { s.pimg with
        queue := s.pimg.queue ++ [⟨kind, p, w⟩]
        waits := if s.pimg.queue.length < 4096 then s.pimg.waits else s.pimg.waits + 1 } }
  else s.applyWrite ⟨kind, p, w⟩

/-- A status point is written on each change (R157). -/
def State.status (s : State) (p : Nat) (w : TW) : State :=
  let last := match (s.pimg.queue.filter fun x => x.point == p).getLast? with | some x => x.word | none => s.word p
  if last = w then s else s.portWrite 3 p w

def spMode : Nat := 0xFF00
def spPartner : Nat := 0xFF01
def spLock : Nat := 0xFF02
def spFeeds : Nat := 0xFF03
def spForces : Nat := 0xFF04
def spConfig : Nat := 0xFF05
def spHealth : Nat := 0xFF06
def spCan (n : Nat) : Nat := 0xFF10 + n
def spAo (n : Nat) : Nat := 0xFF20 + n
def spAi (n : Nat) : Nat := 0xFF28 + n

def goodUint (v : Nat) : TW := ⟨BitVec.ofNat 64 v, goodTag tyUint⟩

/-- Status point 0xFF01 (R157). -/
def State.statusPartner (s : State) : State :=
  s.status spPartner ⟨BitVec.ofNat 64 (s.get Reg.modePartner), mkTag (if s.flag Reg.modePvalid then qGood else qBad) false false tyUint⟩

def State.statusForces (s : State) : State := s.status spForces (goodUint s.pimg.forces.length)

/-- A force takes effect (R166): the point is written through the port. -/
def State.setForce (s : State) (p client : Nat) (w : TW) : State :=
  let s1 := { s with pimg := { s.pimg with forces := SMap.set s.pimg.forces p w } }
  ((s1.portWrite 2 p w).statusForces).event .forceApplied [p, client]

/-- A removal takes effect (R167): the point keeps the forced word, Forced, at most UNCERTAIN, until its next update. -/
def State.removeForce (s : State) (p client : Nat) : State :=
  match s.forceOf p with
  | none => s
  | some f =>
    let s1 := { s with pimg := { s.pimg with forces := SMap.erase s.pimg.forces p } }
    ((s1.portWrite 2 p (lowerQ f qUncertain)).statusForces).event .forceRemoved [p, client]

/-- Status point 0xFF06 (R157, R282, R513); `flash` says whether a flash slot is invalid. -/
def State.statusHealth (s : State) (flash : Bool) : State :=
  s.status spHealth (goodBits (bit s.md.proofDue 0 + bit flash 1 + bit (s.flag Reg.eccRwue) 2))

/-- Time base in lock, its register and its status point (R157, R339). -/
def State.setLock (s : State) (b : Bool) : State :=
  (s.setFlag Reg.tmbLock b).status spLock (goodBits (if b then 1 else 0))

/-- A source writer's update of a point (R154, R155): the word, and its freshness time. -/
def State.sourceUpdate (s : State) (b : Binding) (w : TW) : State :=
  let s1 := s.portWrite 0 b.point w
  if b.tmo = 0 then s1
  else { s1 with pimg := { s1.pimg with
    updAt := SMap.set s1.pimg.updAt b.point s1.now, expired := s1.pimg.expired.filter (· != b.point) } }

end Sys2Proof.Machine
end

