-- ==== Sys2Proof/Machine/CanOps.lean ====
section
/-! DEFINITION. Operations of the CAN channels (R359 to R383): data fields of bindings, message objects and their lock,
transmission, error counters and channel states. -/

namespace Sys2Proof.Machine

def State.chan (s : State) (n : Nat) : CanChan := SMap.get {} s.can n

/-- The registers that show a channel's lock, post FIFO and hold buffer (R383). -/
def State.showChan (s : State) (n : Nat) : State :=
  let c := s.chan n
  let s1 := (s.setFlag (Reg.canLock n) c.lock.isSome).set (Reg.canPosts n) c.posts.length
  let s2 := s1.setFlag (Reg.canHold n) c.hold.isSome
  match c.lock with
  | some l => s2.set (Reg.canLockobj n) l.obj
  | none => s2

def State.setChan (s : State) (n : Nat) (f : CanChan → CanChan) : State :=
  ({ s with can := SMap.put {} s.can n (f (s.chan n)) }).showChan n

def CanChan.obj (c : CanChan) (o : Nat) : CanObj := SMap.get {} c.objs o

def CanChan.setObj (c : CanChan) (o : Nat) (f : CanObj → CanObj) : CanChan :=
  { c with objs := SMap.put {} c.objs o (f (c.obj o)) }

def State.setObj (s : State) (n o : Nat) (f : CanObj → CanObj) : State := s.setChan n fun c => c.setObj o f

/-- Data bytes of a DLC (ISO 11898-1, R366). PRESUMED (log 83). -/
def dlcBytes (fdf : Bool) (d : Nat) : Nat :=
  if d ≤ 8 then d
  else if !fdf then 8
  else match d with
    | 9 => 12
    | 10 => 16
    | 11 => 20
    | 12 => 24
    | 13 => 32
    | 14 => 48
    | _ => 64

/-- The data bytes of a frame: as many as its DLC gives. -/
def frameBytes (f : CanFrame) : Bytes :=
  let n := dlcBytes f.fdf f.dlc.toNat
  f.data.take n ++ List.replicate (n - f.data.length) 0#8

/-! Data fields (R152, R154, R163) -/

/-- A bound field of a data field; none where it lies wholly or partly beyond the data (R372). -/
def canGet (b : Binding) (data : Bytes) : Option Nat :=
  if 8 * data.length < b.ofs + b.len + 1 then none
  else if b.be then some (leNat ((data.drop (b.ofs / 8)).take ((b.len + 1) / 8)).reverse)
  else some (leNat data / 2 ^ b.ofs % 2 ^ (b.len + 1))

/-- A received float: a NaN gives the canonical NaN, BAD, Limit; an infinity is stored as received, UNCERTAIN, Limit. -/
def floatWord (f : FNum) (bits : Word) : TW :=
  match f with
  | .nan => ⟨f64CanonNaN, mkTag qBad false true tyFloat⟩
  | .inf _ => ⟨bits, mkTag qUncertain false true tyFloat⟩
  | .fin _ _ _ => ⟨bits, goodTag tyFloat⟩

/-- The word of a received field (R154). -/
def canDecode (b : Binding) (v : Nat) : TW :=
  match b.enc with
  | 0 => goodUint v
  | 1 => ⟨BitVec.ofInt 64 (if 2 ^ b.len ≤ v then (v : Int) - 2 ^ (b.len + 1) else v), goodTag tyInt⟩
  | 2 => floatWord (FNum.ofBits32 v) (FNum.ofBits32 v).toF64
  | 3 => floatWord (FNum.ofBits (BitVec.ofNat 64 v)) (BitVec.ofNat 64 v)
  | _ => goodBits v

/-- The field that a word is sent as; none where the word cannot be encoded and is sent as zero (R163). -/
def canEncode (b : Binding) (w : TW) : Option Nat :=
  let m : Int := 2 ^ (b.len + 1)
  match b.enc with
  | 0 => if w.ty ≤ tyUint then some (saturate 0 (m - 1) (intOf w.ty w.val)).1.toNat else none
  | 1 =>
    if w.ty ≤ tyUint then
      let v := (saturate (-(m / 2)) (m / 2 - 1) (intOf w.ty w.val)).1
      some (if v < 0 then v + m else v).toNat
    else none
  | 2 => if w.ty = tyFloat then some (f64ToF32 w.val) else none
  | 3 => if w.ty = tyFloat then some w.val.toNat else none
  | _ => if w.ty = tyBits then some (w.val.toNat % 2 ^ (b.len + 1)) else none

/-- A field's contribution to the data field read as one little-endian number. -/
def canPlace (b : Binding) (v : Nat) : Nat :=
  if b.be then leNat (leBytes ((b.len + 1) / 8) v).reverse * 2 ^ b.ofs else v * 2 ^ b.ofs

/-! Status and states -/

def State.canStatus (s : State) (n : Nat) : State :=
  let k := s.get (Reg.canState n)
  s.status (spCan n) (goodBits (bit (k == 1) 0 + bit (decide (2 ≤ k)) 1))

/-- A change of the fault confinement state: register, status point, event (R379). -/
def State.setCanState (s : State) (n k : Nat) : State :=
  if s.get (Reg.canState n) = k then s
  else
    let kind := if 2 ≤ k then EvKind.busOff else if k = 1 then .canPassive else .canRecovered
    let s1 := if k = 3 then s else s.set (Reg.canRecover n) 0
    ((s1.set (Reg.canState n) k).canStatus n).event kind [n, k]

/-- Both counters at 0. -/
def State.clearCanErr (s : State) (n : Nat) : State :=
  ((s.set (Reg.canTec n) 0).set (Reg.canRec n) 0).set (Reg.canRp n) 0

/-- Error passive while either counter is at or above 128 (R379). -/
def State.canConfine (s : State) (n : Nat) : State :=
  if 2 ≤ s.get (Reg.canState n) then s
  else s.setCanState n (if 128 ≤ s.get (Reg.canTec n) ∨ s.flag (Reg.canRp n) then 1 else 0)

/-- The bit time of the timing in effect, in raw counter ticks (R361). -/
def canBitTicks (nbt : Nat) : Nat :=
  (1 + (nbt / 2 ^ 8 % 256 + 1) + (nbt / 2 ^ 16 % 128 + 1)) * (nbt % 256 + 1) * 25

/-- Recovery starts (R380): STATE 3. -/
def State.startRecovery (s : State) (n : Nat) : State :=
  (s.setCanState n 3).setChan n fun c => { c with recovAt := some s.tmb.raw }

/-- A write of RECOVER: ignored on an autonomous channel and on one that is not bus-off (R380). PRESUMED (log 83). -/
def State.canRecoverWrite (s : State) (n : Nat) : State :=
  if s.get (Reg.canClass n) = 0 ∧ s.get (Reg.canState n) = 2 then (s.set (Reg.canRecover n) 1).startRecovery n
  else s

/-! Configuration enable -/

/-- The window of the boundary search is open (R117, R383). -/
def State.weirOpen (s : State) : Bool := s.get Reg.weirState == 2

/-- Outside the Weir window and ISOLATED CFGEN of every channel is 0 (R365, R383). DEDUCED (log 84). -/
def State.cfgenEnd (s : State) : State :=
  if s.mode = mIsolated ∨ s.weirOpen = true then s
  else s.each ((List.range 16).filter fun n => s.flag (Reg.canCfgen n)) fun n t => t.setFlag (Reg.canCfgen n) false

/-- The boundary search takes another state, and with the window CFGEN ends. -/
def State.weirTo (s : State) (k : Nat) : State := (s.set Reg.weirState k).cfgenEnd

/-! Pending frames -/

/-- Discard every pending frame that has not started, and every waiting one, and count them (R377); the number too. -/
def State.canDiscard (s : State) (n : Nat) : State × Nat :=
  let c := s.chan n
  let k := (c.objs.filter fun e => e.2.pend && c.inTx != some e.1).length + (c.objs.filter fun e => e.2.behind.isSome).length
  let s1 := s.setChan n fun c =>
    c.objs.foldl (fun c e => c.setObj e.1 fun o => { o with pend := o.pend && c.inTx == some e.1, behind := none }) c
  (s1.addSat (Reg.canCnt n 9) k, k)

/-- A frame waiting behind one in transmission becomes pending when that ends (R374). -/
def CanObj.promote (o : CanObj) : CanObj :=
  match o.behind with
  | some (t, d) => { o with pend := true, launch := t, data := d, behind := none }
  | none => o

/-- Bus-off (R377, R379, R380): pending frames are discarded; an autonomous channel starts recovery at once. -/
def State.busOff (s : State) (n : Nat) : State :=
  let s1 := ((s.setChan n fun c => { c with busOffAt := some s.now, inTx := none }).incSat (Reg.canCnt n 4)).setCanState n 2
  let s2 := (s1.canDiscard n).1
  if s2.get (Reg.canClass n) = 1 then s2.startRecovery n else s2

/-- The channels follow the mode (R360, R377): leaving normal takes effect at once and discards pending frames;
entering it waits for the first bus idle. -/
def State.canOnMode (s : State) (m1 : Nat) : State :=
  let want := if m1 = mStore then 0 else if m1 = mBoot then 1 else if m1 = mPrimary ∨ m1 = mSolo then 3 else 2
  s.cfgenEnd.each (List.range 16) fun n t =>
    if want = 3 then
      if t.get (Reg.canMode n) = 3 then t else t.setChan n fun c => { c with toNormal := true }
    else
      let t1 := if t.get (Reg.canMode n) = 3 then (t.canDiscard n).1 else t
      let t2 := (t1.set (Reg.canMode n) want).setChan n fun c => { c with toNormal := false, busOffAt := none, recovAt := none }
      (((t2.clearCanErr n).setCanState n 0).set (Reg.canRecover n) 0).canStatus n

/-- Normal state begins (R360): counters 0, error active. -/
def State.canEnterNormal (s : State) (n : Nat) : State :=
  let s1 := (s.set (Reg.canMode n) 3).clearCanErr n
  ((s1.set (Reg.canState n) 0).canStatus n).setChan n fun c => { c with toNormal := false, busOffAt := none, recovAt := none }

/-! Message objects -/

/-- Store a reception into a receive object (R365, R368); `lost` says that it replaced a held frame. -/
def State.storeRx (s : State) (n o : Nat) (f : CanFrame) (t : Int) (lost : Bool) : State :=
  let ob := (s.chan n).obj o
  let s1 := s.setObj n o fun x =>
    { x with rxDlc := f.dlc.toNat, esi := f.esi, stamp := t, data := frameBytes f, isNew := true,
             ovr := x.ovr || x.isNew || lost }
  (if ob.isNew then s1.incSat (Reg.canCnt n 3) else s1).incSat (Reg.canCnt n 0)

/-- Release a lock (R366, R367): NEW and OVR cleared by a read of the last word, otherwise counted; then a held frame is
stored. -/
def State.releaseLock (s : State) (n : Nat) (read : Bool) : State :=
  match (s.chan n).lock with
  | none => s
  | some l =>
    let s1 := if read then s.setObj n l.obj fun o => if o.dir = 1 then { o with isNew := false, ovr := false } else o
      else s.incSat (Reg.canCnt n 10)
    let h := (s.chan n).hold
    let s2 := s1.setChan n fun c => { c with lock := none, hold := none }
    match h with
    | some (f, t, lost) => s2.storeRx n l.obj f t lost
    | none => s2

/-- The object that the window shows: the locked one as it was when it was locked (R366). -/
def State.windowObj (s : State) (n : Nat) : CanObj :=
  let c := s.chan n
  let o := s.get (Reg.moselObj n)
  match c.lock with
  | some l => if l.obj = o then l.view else c.obj o
  | none => c.obj o

/-- The DLC that the window shows: of a receive object the received one (R365, R383). -/
def CanObj.showDlc (o : CanObj) : Nat := if o.dir = 1 then o.rxDlc else o.dlc

/-- A word of the object window, offset 0x021 to 0x036 (R383). -/
def CanObj.windowWord (o : CanObj) (ofs : Nat) : Nat :=
  let st := (BitVec.ofInt 64 o.stamp).toNat
  let la := if o.dir = 2 then (BitVec.ofInt 64 o.launch).toNat else 0
  match ofs with
  | 0x21 => o.dir % 4 + bit o.ide 2 + bit o.fdf 3 + bit o.brs 4 + bit o.esi 5 + o.showDlc % 16 * 256 + bit o.isNew 12
      + bit o.ovr 13 + bit o.pend 14
  | 0x22 => o.id % 2 ^ 29
  | 0x23 => st % 2 ^ 32
  | 0x24 => st / 2 ^ 32
  | 0x25 => la % 2 ^ 32
  | 0x26 => la / 2 ^ 32
  | _ => leNat ((o.data.drop (4 * (ofs - 0x27))).take 4)

/-- The last window word of an object: CAN.MOLTH for DLC 0, else the last data word that its DLC gives, 9 to 15 as in FD
frames (R366). PRESUMED (log 83). -/
def CanObj.lastOfs (o : CanObj) : Nat := if o.showDlc = 0 then 0x26 else 0x27 + (dlcBytes true o.showDlc + 3) / 4 - 1

/-- A read of a window word, as the supervisor pair sees it: the value, and the effects of R366. -/
def State.readWindow (s : State) (n ofs : Nat) : Nat × State :=
  let o := s.get (Reg.moselObj n)
  let s1 := if ofs = 0x21 then
      match (s.chan n).lock with
      | some l => if l.obj = o then s else (s.releaseLock n false).setChan n fun c => { c with lock := some ⟨o, s.now, c.obj o⟩ }
      | none => s.setChan n fun c => { c with lock := some ⟨o, s.now, c.obj o⟩ }
    else s
  let w := s1.windowObj n
  let v := w.windowWord ofs
  match (s1.chan n).lock with
  | some l => if l.obj = o ∧ ofs = w.lastOfs then (v, s1.releaseLock n true) else (v, s1)
  | none => (v, s1)

/-- A write of CAN.MOSELn releases any lock (R366). -/
def State.selectObject (s : State) (n v : Nat) : State := (s.releaseLock n false).set (Reg.moselObj n) v

/-- A configuration write through the window, MOCTL or MOID, only while CFGEN is 1 (R365, R383). -/
def State.writeWindow (s : State) (n ofs v : Nat) : State :=
  if !s.flag (Reg.canCfgen n) then s
  else
    let o := s.get (Reg.moselObj n)
    if ofs = 0x21 then s.setObj n o fun x =>
      { x with dir := v % 4, ide := v.testBit 2, fdf := v.testBit 3, brs := v.testBit 4, dlc := v / 256 % 16 }
    else if ofs = 0x22 then s.setObj n o fun x => { x with id := v % 2 ^ 29 }
    else s

/-! Transmission -/

/-- A frame record in data memory (R373); tags are ignored. DEDUCED (log 84). -/
def State.frameRecord (s : State) (a : Nat) : CanPost :=
  let w (i : Nat) : Word := (s.word (a + i)).val
  { obj := (w 0).toNat % 256, action := (w 0).toNat / 256 % 4, launch := (w 1).toInt,
    data := valueBytes (s.words (a + 2) 8) }

/-- A post: the CAN DMA reads the record; a full FIFO of 256 discards it (R373). -/
def State.canPost (s : State) (n : Nat) (p : CanPost) : State :=
  if (s.chan n).posts.length < 256 then s.setChan n fun c => { c with posts := c.posts ++ [p] }
  else s.incSat (Reg.canCnt n 9)

/-- Take the head of the post FIFO. -/
def State.popPost (s : State) (n : Nat) : State := s.setChan n fun c => { c with posts := c.posts.drop 1 }

/-- QUEUE (R355, R374): the frame takes its place in queue order. -/
def State.canQueue (s : State) (n : Nat) (p : CanPost) : State :=
  let c := s.chan n
  let o := c.obj p.obj
  if s.get (Reg.canMode n) ≠ 3 ∨ o.dir ≠ 2 then s.incSat (Reg.canCnt n 9)
  else if s.now + 2000000000 < p.launch then { s with launchRefused := s.launchRefused + 1 }
  else
    let d := p.data.take (dlcBytes o.fdf o.dlc)
    let s1 := s.setChan n fun c => { c with queued := c.queued + 1 }
    if c.inTx = some p.obj then s1.setObj n p.obj fun x => { x with behind := some (p.launch, d), ord := c.queued }
    else
      (if o.pend then s1.incSat (Reg.canCnt n 8) else s1).setObj n p.obj fun x =>
        { x with pend := true, launch := p.launch, data := d, ord := c.queued }

/-- WITHDRAW (R374). -/
def State.canWithdraw (s : State) (n : Nat) (p : CanPost) : State :=
  let c := s.chan n
  if s.get (Reg.canMode n) ≠ 3 ∨ (c.obj p.obj).dir ≠ 2 then s.incSat (Reg.canCnt n 9)
  else if c.inTx = some p.obj then s.setObj n p.obj fun x => { x with behind := none }
  else s.setObj n p.obj fun x => { x with pend := false }

/-- The order of arbitration on the bus: lower wins. Base identifier, then standard before extended, then the extension;
at equal fields the lower object number (R375). -/
def CanObj.arbKey (o : CanObj) : Nat :=
  if o.ide then o.id / 2 ^ 18 * 2 ^ 20 + 2 ^ 19 + o.id % 2 ^ 18 else o.id % 2 ^ 11 * 2 ^ 20

/-- Eligible frames: pending, their launch time reached (R375). -/
def State.canEligible (s : State) (n : Nat) : List (Nat × CanObj) :=
  (s.chan n).objs.filter fun e => e.2.pend && e.2.dir == 2 && s.due e.2.launch

/-- The frame that the channel offers: of those with one launch time the first in queue order (R355), and of these the one
that would win arbitration (R375). DEDUCED (log 84). -/
def State.canOffer (s : State) (n : Nat) : Option (Nat × CanObj) :=
  let l := s.canEligible n
  (l.filter fun e => l.all fun g => g.2.launch != e.2.launch || decide (e.2.ord ≤ g.2.ord)).foldl
    (fun b e => match b with
      | none => some e
      | some m => if e.2.arbKey < m.2.arbKey then some e else b) none

/-- The frame of a transmit object on the bus; data rate choice 0 sends without bit-rate switch (R362). -/
def State.canFrameOf (s : State) (n : Nat) (o : CanObj) : CanFrame :=
  { id := BitVec.ofNat 29 o.id, ide := o.ide, fdf := o.fdf,
    brs := o.brs && o.fdf && s.cfgNat (0x8000 + n * 0x10) 2 2 != 0,
    esi := o.fdf && s.get (Reg.canState n) == 1, rtr := false, dlc := BitVec.ofNat 4 o.dlc, data := o.data }

/-- The transmission in progress ends without success: the frame stays pending, a waiting one takes its place (R374,
R375); out of normal state it is discarded (R377). -/
def State.canTxFailed (s : State) (n : Nat) : State :=
  match (s.chan n).inTx with
  | none => s
  | some o =>
    let s1 := s.setChan n fun c => ({ c with inTx := none }).setObj o CanObj.promote
    if s1.get (Reg.canMode n) = 3 then s1 else (s1.canDiscard n).1

/-! Reception -/

/-- Whether a filter element matches (R370): for 11-bit identifiers by bits [10:0]. -/
def State.filterMatch (s : State) (n e : Nat) (f : CanFrame) : Bool :=
  let m := if f.ide then 2 ^ 29 else 2 ^ 11
  let id := f.id.toNat % m
  let a := s.get (Reg.fid1 n e) % m
  let b := s.get (Reg.fid2 n e) % m
  s.flag (Reg.fctlIde n e) == f.ide &&
    (match s.get (Reg.fctlKind n e) with
     | 1 => id == a
     | 2 => id == a || id == b
     | 3 => decide (a ≤ id) && decide (id ≤ b)
     | 4 => (id &&& b) == (a &&& b)
     | _ => false)

/-- The trigger record (R371). -/
def triggerRecord (n e : Nat) (f : CanFrame) (t : Int) : List TW :=
  goodBits (f.id.toNat + bit f.ide 29 + bit f.fdf 30 + bit f.brs 31 + bit f.esi 32 + f.dlc.toNat * 2 ^ 36
      + n * 2 ^ 40 + e * 2 ^ 48) :: goodTime t ::
    ((groupBytes 8 8 (frameBytes f ++ List.replicate (64 - (frameBytes f).length) 0#8)).map fun g => goodBits (leNat g))

/-- The CAN_RX bindings of an object act on each reception (R154, R367); one too short for a binding is counted (R372). -/
def State.canBindings (s : State) (n o : Nat) (f : CanFrame) : State :=
  let l := s.bindings.filter fun b => b.kind == bkCanRx && b.ch == n && b.sel == o
  let s1 := if l.any fun b => (canGet b (frameBytes f)).isNone then s.incSat (Reg.canCnt n 7) else s
  s1.each l fun b t =>
    match canGet b (frameBytes f) with
    | none => t
    | some v => t.sourceUpdate b (canDecode b v)

/-- A good reception lowers REC by 1; from above 127 it returns to 119 to 127 (ISO 11898-1 through R379). -/
def State.canRecOk (s : State) (n : Nat) : State :=
  if s.get (Reg.canMode n) ≠ 3 ∨ 2 ≤ s.get (Reg.canState n) then s
  else if s.flag (Reg.canRp n) then
    let s1 := (s.set (Reg.canRp n) 0).set (Reg.canRec n) (119 + Config.canRecReturn s.free % 9)
    ({ s1 with free := s1.free + 1 }).canConfine n
  else (s.set (Reg.canRec n) (s.get (Reg.canRec n) - 1)).canConfine n

end Sys2Proof.Machine
end

