-- ==== Sys2Proof/Machine/CsrMap.lean ====
section
/-! DEFINITION. The map of the CSR window (R9 to R11, R104): which fields a word address holds, what they show, and what a
write does to each. -/

namespace Sys2Proof.Machine

namespace Reg

/-! Registers with an address of their own, by block -/

def regs00 : List Fld :=
  [lcsState, lcsUsed, lcsPend, lcsTarget, kslotUsed, kslotActive, kslotRevoked, fwkeyRevoked, fwminMajor,
   tamperCount, tamperCover, tamperLog, lcsOp, lcsGo]

def regs01 : List Fld :=
  [modeCur, modePrev, modePartner, modePvalid, modeInctrl, modeDrive, modeToggle, modeLink, modeCause, cntTrans,
   cntSafe, reqTarget, reqCause, reqGo, reqBusy, reqRefused, reqLasttgt, bootStep, bootFail, bootFwslot,
   bootFwfallback, bootImgslot, bootMfref, bootSpinj]

def regs01a : List Fld :=
  [bootPairinj, safeCount, feedA, feedB, holdv, cellMv, feedVa, feedVb, tempBoard, tempMaxb, aloss, bloss, avsTarget,
   avsHyst, avsFixv, fixVolt, fixClmask, eccCe, eccUe, eccAddr, eccKind, eccAgent, eccSynd, eccArea]

def regs01b : List Fld :=
  [eccRwue, scrubThup, scrubHolddn, scrubMaxlvl, scrubLvl, scrubSpass, scrubMpass, scrubPos, scrubMpos, wakeSrc,
   wakeUnit, wakeAtl, wakeAth, wakeWakes, wakeEarly, wakeenMnb]

def regs02 : List Fld :=
  [drvActive, drvShadow, drvUpend, drvUrun, drvIgnw, ovrSkip, ovrLate, dozeEn, dozeLead, dozeMinidle, weirArm,
   weirKind, weirHorizon, weirAtl, weirAth, weirBl, weirBh, weirState, weirCancel, usoftTrig]

def regs03 : List Fld :=
  [splitMask, splitPend, splitLock, fstValid, fstKind, fstUnit, fstTask, fstPriv, fstMore, ftoken, faddr, fxor0,
   fxor1, fxor2, injPair, injGo, injBusy, injResult, injLane, injEntry]

def regs04 : List Fld :=
  [blwPos, prefpri, convlim, evLinka, evLinkb, evToggle, evOwntog, evRlfault, evSplitev, evTakeover, sealCmp,
   sealDis, sealMiss, sfValid, sfTask, sfUnit, sfState, sfOutput, sfStore, sfMissing, sfCore1, sfAtl, sfAth,
   diagState]

def regs04a : List Fld :=
  [diagOwn, diagPart, diagUnits, resyncCount, syncPhase, syncPasses, syncAbort, syncDs, syncDr, intentSw, intentSeen,
   joinref, ownfwRel, ownfwClass, pfwRel, pfwClass]

def regs05 : List Fld :=
  [ewxDisc, ewxRetx, ewxStripe]

def regs06 : List Fld :=
  [tmbState, tmbLock, tmbStepped, tmbArmed, tmbPll, tmbFault, tmbPairfar, tmbMonrun, nowsl, nowsh, nowns, nowfr,
   tmbRate, tmbStepl, tmbSteph, stepGo, stepRefused, stepCase, tmbSteps, tmbRateref, tmbDisc, monDev, monFails,
   pairofs]

def regs07 : List Fld :=
  [ptpEn, ptpProfile, ptpMap, ptpRole, ptpDomain, ptpPcp, ptpOfs, ptpMpd, ptpGml, ptpGmh, ptpUtc, ptpUtcValid]

def regs0A : List Fld :=
  [fsupVolt, fsupLow]

def regs0B : List Fld :=
  [hrtEn, hrtTxen]

def regs0C : List Fld :=
  [mpuEpoch, mpuDrain, mpuRefused, mpuFault, mpuInflt, wcmdRegion, wcmdGo, mpuWbase, mpuWlim, mpuWattr, mpuWmask,
   vioAddr, vioValid, vioKind, vioPriv, vioMaster, vioRegion, vioCause, vioCore, vioEpoch, vioCnt]

def regs0D : List Fld :=
  [cvuFault]

def regs0E : List Fld :=
  [evrFifo, evrHwq, evrFault, evrErasing, evrMirror, evrHead, evrTail, evrNumber, evrPnum, evrOptime, evrPcycle,
   evrRefused, evrGo]

def regs0F : List Fld :=
  [mnbAddr, mbnew, mnbActive, mnbNaks, mnbReads, mnbWrites]

def regs10 : List Fld :=
  [dbgProbe, dbgTapst, dbgIr, dbgRefused, dbgId]

def regs11 : List Fld :=
  [xchActive, xchAvalid, xchBvalid, xchFree, xchRollbk, xchOp, xchGo, xchState, xchErr, xchDirtycan, trialCycles,
   trialDone, repSeq, repEntries, repOvf, xchDiff, xchDirtys, xchDirtyr, rstKind, rstWref]

end Reg

open Reg in
/-- Fields of register `o` of task `n` (R148); tasks 16 to 23 are urgent. -/
def drvFields (n o : Nat) : List Fld :=
  match o with
  | 0 => [tcfgEn n, tcfgPair n, tcfgSafety n, tcfgDivpol n, tcfgSkiplim n]
  | 1 => if n < 16 then [tperN n] else [utrigSrc n, utrigCh n, utrigFilt n]
  | 2 => if n < 16 then [tphase n] else [umiatUs n]
  | 3 => if n < 16 then [toutOfs n] else []
  | 4 => [tbud n]
  | 5 => [tentry n]
  | 6 => [tsnap n]
  | 7 => [tsnapc n]
  | 8 => [tscr n]
  | 9 => [tscrl n]
  | 10 => [tstState n, tstConsec n, tstAband n, tstDisc n, tstMerge n]
  | 11 => [tskip n]
  | 12 => [tlate n]
  | 13 => [tmax n]
  | 14 => [tlast n]
  | _ => [trel n]

open Reg in
/-- Fields of register `o` of CAN channel `n`, besides the object window (R383). -/
def canFields (n o : Nat) : List Fld :=
  if 0x400 ≤ o ∧ o < 0x600 then
    let e := (o - 0x400) / 4
    match (o - 0x400) % 4 with
    | 0 => [fctlKind n e, fctlIde n e, fctlUrgent n e, fctlReject n e, fctlObj n e]
    | 1 => [fid1 n e]
    | 2 => [fid2 n e]
    | _ => []
  else if 0x10 ≤ o ∧ o < 0x1B then [canCnt n (o - 0x10)]
  else
    match o with
    | 0 => [canMode n, canRecover n, canClass n, canCfgen n, canVopc n]
    | 1 => [nbtBrp n, nbtSeg1 n, nbtSeg2 n, nbtSjw n]
    | 2 => [dbtBrp n, dbtSeg1 n, dbtSeg2 n, dbtSjw n, dbtTdc n]
    | 3 => [tdcoOffset n]
    | 8 => [canState n, canIdle n, canLock n, canLockobj n, canPosts n, canHold n]
    | 9 => [canTec n, canRec n, canRp n, canLec n, canDlec n]
    | 0x20 => [moselObj n]
    | 0x40 => [txpost n]
    | _ => []

open Reg in
/-- Fields of the output stages, inputs and tables (R405). -/
def alpFields (o : Nat) : List Fld :=
  if 0x100 ≤ o ∧ o < 0x180 then
    let n := (o - 0x100) / 16
    match o % 16 with
    | 0 => [aoFloor n, aoGuard n, aoSusp n, aoFlags n]
    | 1 => [aoC n]
    | 2 => [aopC n, aopValid n]
    | 3 => [aoOwn n]
    | 4 => [aoTot n]
    | 5 => [aoHead n]
    | 6 => [aoSafe n]
    | 7 => [aoLimMin n, aoLimMax n]
    | _ => []
  else if 0x200 ≤ o ∧ o < 0x280 then
    let n := (o - 0x200) / 16
    match o % 16 with
    | 0 => [aiRawA n]
    | 1 => [aiRawB n]
    | 2 => [aiCur n]
    | 3 => [aiDev n]
    | 4 => [aiFlags n, aiClr n]
    | _ => []
  else if 0x8000 ≤ o ∧ o < 0x8400 then (if o % 0x40 < 0x30 ∧ o % 0x40 ≠ 0x27 then [alpTab ((o - 0x8000) / 0x40) (o % 0x40)] else [])
  else regs0A.filter fun f => f.addr == 0xF00A0000 + o

open Reg in
/-- Fields of FSK channel registers (R406). -/
def hrtFields (o : Nat) : List Fld :=
  if 0x100 ≤ o ∧ o < 0x180 then
    let c := (o - 0x100) / 8
    match o % 8 with
    | 0 => [cstState c, cstCarrier c, cstIdent c, cstFails c, cstRc c, cstDevst c]
    | 1 => [cpollMs c, cpollTask c]
    | 2 => [cadrPoll c, cadrLah c]
    | 3 => [clal c]
    | 4 => [cok c]
    | 5 => [cerr c]
    | _ => []
  else regs0B.filter fun f => f.addr == 0xF00B0000 + o

open Reg in
/-- Fields of the MPU (R422). -/
def mpuFields (o : Nat) : List Fld :=
  if 0x100 ≤ o ∧ o < 0x200 then
    let r := (o - 0x100) / 4
    match o % 4 with
    | 0 => [rBase 0 r]
    | 1 => [rLim 0 r]
    | 2 => [rAttr 0 r]
    | _ => [rMask 0 r]
  else regs0C.filter fun f => f.addr == 0xF00C0000 + o

open Reg in
/-- Fields of the check-value units (R434). -/
def cvuFields (o : Nat) : List Fld :=
  if 0x100 ≤ o ∧ o < 0x140 then
    let n := (o - 0x100) / 16
    match o % 16 with
    | 0 => [cvuPoly n, cvuWmode n, cvuFinal n, cvuAfold n, cvuSfold n, cvuCont n, cvuGo n]
    | 1 => [cvuStart n]
    | 2 => [cvuLen n]
    | 3 => [cvuSeq n]
    | 4 => [cvuBusy n, cvuValid n, cvuErr n, cvuIgnw n]
    | 5 => [cvuResl n]
    | 6 => [cvuResh n]
    | 7 => [cvuPos n]
    | _ => []
  else regs0D.filter fun f => f.addr == 0xF00D0000 + o

open Reg in
/-- Fields of the power registers (R50, R112, R479, R505). -/
def pwrFields (o : Nat) : List Fld :=
  if 0x200 ≤ o ∧ o < 0x204 then
    let u := o - 0x200
    [spdSpeed u, spdBelow u, spdAtmax u, spdTj u]
  else if 0x208 ≤ o ∧ o < 0x20C then [vltVolt (o - 0x208), vltBias (o - 0x208)]
  else if 0x400 ≤ o ∧ o < 0x40C then [sleepMode (o - 0x400), sleepState (o - 0x400)]
  else (regs01 ++ regs01a ++ regs01b).filter fun f => f.addr == 0xF0010000 + o

open Reg in
/-- Fields of the lockstep units (R229). -/
def lksFields (o : Nat) : List Fld :=
  if 0x100 ≤ o ∧ o < 0x168 then
    let u := (o - 0x100) / 8
    match o % 8 with
    | 0 => [ustSplit u, ustMaxocc u, ustSeals u]
    | k + 1 => if k < 4 then [lksSeal u k] else []
  else regs03.filter fun f => f.addr == 0xF0030000 + o

open Reg in
/-- The fields at a word address of the CSR window; none where no register table names it. -/
def fieldsAt (a : Nat) : List Fld :=
  let o := a % 0x10000
  let at_ (l : List Fld) : List Fld := l.filter fun f => f.addr == a
  match a / 0x10000 - 0xF000 with
  | 0 => at_ (regs00 ++ (List.range 4).map lcsId)
  | 1 => pwrFields o
  | 2 => if 0x100 ≤ o ∧ o < 0x280 then drvFields ((o - 0x100) / 16) (o % 16) else at_ regs02
  | 3 => lksFields o
  | 4 => at_ (regs04 ++ regs04a)
  | 5 => at_ (regs05 ++ [0, 1].flatMap fun l => [laneTrained l, laneUp l, laneRetrain l, laneTrains l, laneDowns l, ewxCrc l, ewxLat l])
  | 6 => at_ regs06
  | 7 => at_ (regs07 ++ [0, 1].flatMap fun p => [ptpPort p, ptpCorTx p, ptpCorRx p, ptpAsym p, ptpExtTx p, ptpExtRx p])
  | 9 => canFields (o / 0x1000) (o % 0x1000)
  | 0xA => alpFields o
  | 0xB => hrtFields o
  | 0xC => mpuFields o
  | 0xD => cvuFields o
  | 0xE => if 0x100 ≤ o ∧ o < 0x200 then [evrPbuf (o - 0x100)] else at_ (regs0E ++ (List.range 4).map evrPid)
  | 0xF => at_ (regs0F ++ (List.range 4).map mbox)
  | 0x10 => at_ regs10
  | 0x11 => at_ (regs11 ++ (List.range 4).map xchId)
  | _ => []

/-! Reads -/

/-- The object window of a CAN channel: channel and offset (R383). -/
def canWindow (a : Nat) : Option (Nat × Nat) :=
  let o := a % 0x1000
  if a / 0x10000 = 0xF009 ∧ 0x21 ≤ o ∧ o < 0x37 then some (a / 0x1000 % 16, o) else none

/-- The value that the fields of a word show: WO fields read 0 (R9), other bits 0 (R11). -/
def State.csrValue (s : State) (a : Nat) : Nat :=
  if a = 0xF0010002 then s.temp 0 + 256 * s.temp 1
  else (fieldsAt a).foldl (fun v f => if f.acc = .wo ∨ f = Reg.usoftTrig then v else v + s.get f * 2 ^ f.lsb) 0

/-! Writes -/

/-- A write of one field by its access code (R9). -/
def State.fieldWrite (s : State) (w : Nat) (f : Fld) : State :=
  let v := w / 2 ^ f.lsb % 2 ^ f.width
  match f.acc with
  | .ro => s
  | .rw => s.set f v
  | .w1c => s.set f (s.get f - (s.get f &&& v))
  | .w1s => s.set f (s.get f ||| v)
  | .wo => s.set f v
  | .rwl => if s.flag Reg.splitLock then s else s.set f v

def State.fieldsWrite (s : State) (a w : Nat) : State := s.each (fieldsAt a) fun f t => t.fieldWrite w f

end Sys2Proof.Machine
end

