-- ==== Sys2Proof/Machine/Operands.lean ====
section
/-! DEFINITION. Operand forms of the instruction formats (R62, R63) and what an instruction asks of the machine: a
register result, a trap, or one of the accesses that the comparator compares (R207). -/

namespace Sys2Proof.Machine

/-- A word of value 0 with tag 0x00: a general register or a data word after reset (R55, R96). -/
def zeroWord : TW := ⟨0#64, 0#8⟩

/-- Read a general register. -/
def CoreSt.reg (c : CoreSt) (r : GReg) : TW := SMap.get zeroWord c.g r.val

/-- Write a general register; none is hardwired. -/
def CoreSt.setReg (c : CoreSt) (r : GReg) (w : TW) : CoreSt :=
  { c with g := SMap.put zeroWord c.g r.val w, rflips := SMap.erase c.rflips r.val }

/-- The STATUS control register (R98). -/
def CoreSt.status (c : CoreSt) : BitVec 32 :=
  BitVec.ofNat 32 ((if c.priv then 1 else 0) + (if c.divpol then 2 else 0) + (if c.slot then 4 else 0)
    + (if c.split then 8 else 0) + (if c.urg then 16 else 0) + c.task.toNat * 256)

/-- The next instruction address (R61). DESIGN CHOICE (log 28). -/
def nextAddr (a : BitVec 22) : BitVec 22 := if a.toNat = 2 ^ 22 - 1 then Config.addrPastEnd else a + 1

/-- Trap codes (R83). -/
def trapIllegal : Nat := 1
def trapPrivilege : Nat := 2
def trapType : Nat := 3
def trapReserved : Nat := 4
def trapDivZero : Nat := 5
def trapRefBound : Nat := 6
def trapMpu : Nat := 7
def trapExplicit : Nat := 8
def trapMemory : Nat := 9

/-- What a trap writes besides STATUS and TEPC (R98, R99): code, imm18 of an EXPLICIT trap, the access's address, and
the tag bytes of the operands. -/
structure TrapInfo where
  code : Nat
  imm : BitVec 18
  addr : BitVec 32
  tags : BitVec 24
  deriving DecidableEq, Repr

/-- What one instruction asks of the machine, found from one core's registers alone. -/
inductive Act where
  | write (rd : GReg) (w : TW)
  | trap (t : TrapInfo)
  | load (addr : Nat) (rd : GReg) (tags : BitVec 24)
  | store (addr : Nat) (w : TW) (tags : BitVec 24)
  | branch (taken : Bool) (target : BitVec 22) (link : Option TW)
  | resume (target : BitVec 22)
  | csrRead (addr : Nat) (rd : GReg)
  | csrWrite (addr : Nat) (w : TW)
  | release (rd : GReg)
  | nowTime (rd : GReg)
  | ctlWrite (n : Nat) (v : BitVec 32)
  | wait
  | fence
  deriving DecidableEq, Repr

/-- The tag bytes of TTAG (R98): rs1 in [7:0], rs2 in [15:8], rd or rs as a source in [23:16]; 0 where absent. -/
def tags3 (a b d : Option TW) : BitVec 24 :=
  let f : Option TW → BitVec 8 := fun w => match w with
    | some v => v.tag
    | none => 0#8
  f d ++ f b ++ f a

/-- A trap without an access address. -/
def Act.fail (code : Nat) (tags : BitVec 24) : Act := .trap ⟨code, 0#18, 0#32, tags⟩

end Sys2Proof.Machine

namespace Sys2Proof

open Machine

/-- RND of a format A word; to nearest in format B, which has no mod field (R63). -/
def Src2.rnd (b : Src2) : Rnd :=
  match b with
  | .reg _ m => Rnd.ofBits (m.extractLsb' 0 2)
  | .imm _ => .nearest

/-- WRAP of a format A word (R63). -/
def Src2.wrap (b : Src2) : Bool :=
  match b with
  | .reg _ m => m.getLsbD 2
  | .imm _ => false

end Sys2Proof

namespace Sys2Proof.Machine

/-- The mod bits are legal for an instruction that uses RND (`fp`) or does not (R63). -/
def modOk (fp : Bool) (m : BitVec 6) : Bool := m.extractLsb' 3 3 == 0#3 && (fp || m.extractLsb' 0 2 == 0#2)

end Sys2Proof.Machine

namespace Sys2Proof

/-- The mod field of the second source is legal (R63). -/
def Src2.legal (fp : Bool) (b : Src2) : Bool :=
  match b with
  | .reg _ m => Machine.modOk fp m
  | .imm _ => true

end Sys2Proof

namespace Sys2Proof.Machine

/-- The immediate as an operand (R58, R67): sign-extended, of the type of rs1, GOOD; exactly converted to binary64
where rs1 is FLOAT64. -/
def immOperand (ty : Nat) (i : BitVec 18) : TW :=
  if ty = tyFloat then ⟨intToF64 .nearest i.toInt, goodTag ty⟩ else ⟨i.signExtend 64, goodTag ty⟩

/-- The second source as an operand; `ty` is the type that an immediate takes. -/
def CoreSt.src2 (c : CoreSt) (b : Src2) (ty : Nat) : TW :=
  match b with
  | .reg r _ => c.reg r
  | .imm i => immOperand ty i

/-- The second source as TTAG shows it: an immediate is absent. -/
def CoreSt.src2Tag (c : CoreSt) (b : Src2) : Option TW :=
  match b with
  | .reg r _ => some (c.reg r)
  | .imm _ => none

end Sys2Proof.Machine
end

