-- ==== Sys2Proof/Machine/IsaArith.lean ====
section
/-! DEFINITION. Integer, floating-point, time and PAIR32 arithmetic (R65 to R67, R75 to R82, R507): what each
instruction asks of the machine, from the registers of one core. -/

namespace Sys2Proof.Machine

/-- A two-source instruction: mod bits, then reserved type codes (R68), then the instruction's own rule. -/
def binary (fp : Bool) (c : CoreSt) (rs1 : GReg) (b : Src2) (k : TW → TW → BitVec 24 → Act) : Act :=
  let x := c.reg rs1
  let y := c.src2 b x.ty
  let t := tags3 (some x) (c.src2Tag b) none
  if !b.legal fp then .fail trapIllegal t
  else if x.reserved || y.reserved then .fail trapReserved t
  else k x y t

/-- A one-source format A instruction. -/
def unary (fp : Bool) (c : CoreSt) (rs1 : GReg) (m : BitVec 6) (k : TW → BitVec 24 → Act) : Act :=
  let x := c.reg rs1
  let t := tags3 (some x) none none
  if !modOk fp m then .fail trapIllegal t
  else if x.reserved then .fail trapReserved t
  else k x t

/-- INT64 with INT64 or UINT64 with UINT64 (R67). -/
def intTypes (x y : TW) : Bool := decide (x.ty ≤ tyUint) && x.ty == y.ty

/-- An integer result with saturation or wrapping (R75) and the default tag. -/
def intResult (rd : GReg) (ty : Nat) (wrap : Bool) (ws : List TW) (v : Int) : Act :=
  let n := narrow ty wrap v
  .write rd ⟨n.1, (contrib ws).tag n.2 ty⟩

def intBinary (f : Int → Int → Int) (rd rs1 : GReg) (b : Src2) (c : CoreSt) : Act :=
  binary false c rs1 b fun x y t =>
    if !intTypes x y then .fail trapType t
    else intResult rd x.ty b.wrap [x, y] (f (intOf x.ty x.val) (intOf x.ty y.val))

def actAdd (rd rs1 : GReg) (b : Src2) : CoreSt → Act := intBinary (· + ·) rd rs1 b
def actSub (rd rs1 : GReg) (b : Src2) : CoreSt → Act := intBinary (· - ·) rd rs1 b
def actMul (rd rs1 : GReg) (b : Src2) : CoreSt → Act := intBinary (· * ·) rd rs1 b

/-- High 64 bits of the 128-bit product; never saturates (R75). -/
def actMulh (rd rs1 : GReg) (b : Src2) (c : CoreSt) : Act :=
  binary false c rs1 b fun x y t =>
    if !intTypes x y then .fail trapType t
    else .write rd ⟨BitVec.ofInt 64 (intOf x.ty x.val * intOf x.ty y.val / 2 ^ 64), (contrib [x, y]).tag false x.ty⟩

/-- Division by zero by the policy of R76: 0 with quality BAD and Limit, or a trap. -/
def zeroDivide (c : CoreSt) (rd : GReg) (ty : Nat) (ws : List TW) (t : BitVec 24) : Act :=
  if c.divpol then .fail trapDivZero t
  else .write rd ⟨0#64, (contrib ws).tagAt qBad true ty⟩

def intDivide (f : Int → Int → Int) (rd rs1 : GReg) (b : Src2) (c : CoreSt) : Act :=
  binary false c rs1 b fun x y t =>
    if !intTypes x y then .fail trapType t
    else if y.val = 0#64 then zeroDivide c rd x.ty [x, y] t
    else intResult rd x.ty b.wrap [x, y] (f (intOf x.ty x.val) (intOf x.ty y.val))

/-- Rounds toward zero (R75). -/
def actDiv (rd rs1 : GReg) (b : Src2) : CoreSt → Act := intDivide Int.tdiv rd rs1 b
/-- The sign follows the dividend (R75). -/
def actRem (rd rs1 : GReg) (b : Src2) : CoreSt → Act := intDivide Int.tmod rd rs1 b

def intUnary (f : Int → Int) (rd rs1 : GReg) (m : BitVec 6) (c : CoreSt) : Act :=
  unary false c rs1 m fun x t =>
    if tyUint < x.ty then .fail trapType t
    else intResult rd x.ty (m.getLsbD 2) [x] (f (intOf x.ty x.val))

def actNeg (rd rs1 : GReg) (m : BitVec 6) : CoreSt → Act := intUnary (fun v => -v) rd rs1 m
def actAbs (rd rs1 : GReg) (m : BitVec 6) : CoreSt → Act := intUnary (fun v => (v.natAbs : Int)) rd rs1 m

/-- The low bound is tested first (R507). -/
def clampInt (lo hi v : Int) : Int := if v < lo then lo else if hi < v then hi else v

/-- PAIR32 bounds in rs2: low lane low bound, high lane high bound; a bound that the type cannot represent gives the
nearest value it can; Limit where the result differs from rs1 (R507). -/
def actClamp (rd rs1 rs2 : GReg) (m : BitVec 6) (c : CoreSt) : Act :=
  binary false c rs1 (.reg rs2 m) fun x y t =>
    if tyUint < x.ty ∨ y.ty ≠ tyPair then .fail trapType t
    else
      let v := intOf x.ty x.val
      let r := (narrow x.ty false (clampInt (laneLo y.val) (laneHi y.val) v)).1
      .write rd ⟨r, (contrib [x, y]).tag (r != x.val) x.ty⟩

/-! Floating point -/

/-- An arithmetic FLOAT64 result with the exceptional cases of R78. -/
def floatResult (c : CoreSt) (rd : GReg) (ws : List TW) (t : BitVec 24) (a : FArith) : Act :=
  let k := contrib ws
  match a with
  | .res (.ok w) => .write rd ⟨w, k.tag false tyFloat⟩
  | .res (.over s) => .write rd ⟨f64MaxFin s, k.tagAt qUncertain true tyFloat⟩
  | .infinite s => .write rd ⟨f64MaxFin s, k.tagAt qUncertain true tyFloat⟩
  | .invalid => .write rd ⟨f64CanonNaN, k.tagAt qBad true tyFloat⟩
  | .divZero => zeroDivide c rd tyFloat ws t

def floatBinary (f : Rnd → FNum → FNum → FArith) (rd rs1 : GReg) (b : Src2) (c : CoreSt) : Act :=
  binary true c rs1 b fun x y t =>
    if x.ty ≠ tyFloat ∨ y.ty ≠ tyFloat then .fail trapType t
    else floatResult c rd [x, y] t (f b.rnd (.ofBits x.val) (.ofBits y.val))

def actFadd (rd rs1 : GReg) (b : Src2) : CoreSt → Act := floatBinary fAdd rd rs1 b
def actFsub (rd rs1 : GReg) (b : Src2) : CoreSt → Act := floatBinary (fun r x y => fAdd r x y.neg) rd rs1 b
def actFmul (rd rs1 : GReg) (b : Src2) : CoreSt → Act := floatBinary fMul rd rs1 b
def actFdiv (rd rs1 : GReg) (b : Src2) : CoreSt → Act := floatBinary fDiv rd rs1 b

/-- Three register operands, rd among them (R65, R508, R509). -/
def ternary (fp : Bool) (c : CoreSt) (rd rs1 : GReg) (b : Src2) (k : TW → TW → TW → BitVec 24 → Act) : Act :=
  let x := c.reg rs1
  let y := c.src2 b x.ty
  let z := c.reg rd
  let t := tags3 (some x) (c.src2Tag b) (some z)
  if !b.legal fp then .fail trapIllegal t
  else if x.reserved || y.reserved || z.reserved then .fail trapReserved t
  else k x y z t

/-- rs1 × rs2 + rd with one rounding; the addend is the prior content of rd (R65). -/
def actFma (rd rs1 rs2 : GReg) (m : BitVec 6) (c : CoreSt) : Act :=
  ternary true c rd rs1 (.reg rs2 m) fun x y z t =>
    if x.ty ≠ tyFloat ∨ y.ty ≠ tyFloat ∨ z.ty ≠ tyFloat then .fail trapType t
    else floatResult c rd [x, y, z] t (fFma (Rnd.ofBits (m.extractLsb' 0 2)) (.ofBits x.val) (.ofBits y.val) (.ofBits z.val))

def floatUnary (k : CoreSt → Rnd → TW → BitVec 24 → Act) (rs1 : GReg) (m : BitVec 6) (c : CoreSt) : Act :=
  unary true c rs1 m fun x t =>
    if x.ty ≠ tyFloat then .fail trapType t else k c (Rnd.ofBits (m.extractLsb' 0 2)) x t

def actFsqrt (rd rs1 : GReg) (m : BitVec 6) : CoreSt → Act :=
  floatUnary (fun c r x t => floatResult c rd [x] t (fSqrt r (.ofBits x.val))) rs1 m
/-- Passes any bit pattern with the sign cleared (R78). -/
def actFabs (rd rs1 : GReg) (m : BitVec 6) : CoreSt → Act :=
  floatUnary (fun _ _ x _ => .write rd ⟨x.val &&& 0x7FFFFFFFFFFFFFFF#64, (contrib [x]).tag false tyFloat⟩) rs1 m
/-- Passes any bit pattern with the sign inverted (R78). -/
def actFneg (rd rs1 : GReg) (m : BitVec 6) : CoreSt → Act :=
  floatUnary (fun _ _ x _ => .write rd ⟨x.val ^^^ 0x8000000000000000#64, (contrib [x]).tag false tyFloat⟩) rs1 m

/-- Low bound in rs2, high bound in rs2 + 1 (R507); a NaN in any of the three, and an infinite result of an infinite
operand, as R78 states. -/
def actFclamp (rd rs1 rs2 : GReg) (m : BitVec 6) (c : CoreSt) : Act :=
  let x := c.reg rs1
  let lo := c.reg rs2
  let hi := c.reg (rs2 + 1)
  let t := tags3 (some x) (some lo) none
  if !modOk true m ∨ rs2.val = 63 then .fail trapIllegal t
  else if x.reserved || lo.reserved || hi.reserved then .fail trapReserved t
  else if x.ty ≠ tyFloat ∨ lo.ty ≠ tyFloat ∨ hi.ty ≠ tyFloat then .fail trapType t
  else
    let k := contrib [x, lo, hi]
    let a := FNum.ofBits x.val
    let b := FNum.ofBits lo.val
    let d := FNum.ofBits hi.val
    if a.isNaN || b.isNaN || d.isNaN then .write rd ⟨f64CanonNaN, k.tagAt qBad true tyFloat⟩
    else
      let r := if a.lt b then lo.val else if d.lt a then hi.val else x.val
      match FNum.ofBits r with
      | .inf s => .write rd ⟨f64MaxFin s, k.tagAt qUncertain true tyFloat⟩
      | _ => .write rd ⟨r, k.tag (r != x.val) tyFloat⟩

/-! Time (R67, R82); format B gives INT64 nanoseconds -/

/-- The second source of TADD and TSUB: an immediate is INT64. -/
def timeBinary (c : CoreSt) (rs1 : GReg) (b : Src2) (k : TW → TW → BitVec 24 → Act) : Act :=
  let x := c.reg rs1
  let y := c.src2 b tyInt
  let t := tags3 (some x) (c.src2Tag b) none
  if !b.legal false then .fail trapIllegal t
  else if x.reserved || y.reserved then .fail trapReserved t
  else k x y t

/-- A saturating result whatever WRAP holds (R82). -/
def timeResult (rd : GReg) (ty : Nat) (ws : List TW) (v : Int) : Act := intResult rd ty false ws v

def actTadd (rd rs1 : GReg) (b : Src2) (c : CoreSt) : Act :=
  timeBinary c rs1 b fun x y t =>
    if x.ty = tyTime ∧ y.ty = tyInt then timeResult rd tyTime [x, y] (x.val.toInt + y.val.toInt)
    else .fail trapType t

def actTsub (rd rs1 : GReg) (b : Src2) (c : CoreSt) : Act :=
  timeBinary c rs1 b fun x y t =>
    if x.ty = tyTime ∧ y.ty = tyInt then timeResult rd tyTime [x, y] (x.val.toInt - y.val.toInt)
    else if x.ty = tyTime ∧ y.ty = tyTime then timeResult rd tyInt [x, y] (x.val.toInt - y.val.toInt)
    else .fail trapType t

/-- A sampled input (R80, R204). -/
def actTrel (rd : GReg) (_ : CoreSt) : Act := .release rd

/-! PAIR32 (R66, R75) -/

/-- DEDUCED (log 120). -/
def pairBinary (f : Int → Int → Int) (rd rs1 rs2 : GReg) (m : BitVec 6) (c : CoreSt) : Act :=
  binary false c rs1 (.reg rs2 m) fun x y t =>
    if x.ty ≠ tyPair ∨ y.ty ≠ tyPair then .fail trapType t
    else
      let hi := narrow32 (m.getLsbD 2) (f (laneHi x.val) (laneHi y.val))
      let lo := narrow32 (m.getLsbD 2) (f (laneLo x.val) (laneLo y.val))
      .write rd ⟨packLanes hi.1 lo.1, (contrib [x, y]).tag (hi.2 || lo.2) tyPair⟩

def actPadd (rd rs1 rs2 : GReg) (m : BitVec 6) : CoreSt → Act := pairBinary (· + ·) rd rs1 rs2 m
def actPsub (rd rs1 rs2 : GReg) (m : BitVec 6) : CoreSt → Act := pairBinary (· - ·) rd rs1 rs2 m
def actPmul (rd rs1 rs2 : GReg) (m : BitVec 6) : CoreSt → Act := pairBinary (· * ·) rd rs1 rs2 m

end Sys2Proof.Machine
end

