-- ==== Sys2Proof/Machine/IsaLogic.lean ====
section
/-! DEFINITION. Logic and shift, compare and select, tag and conversion instructions (R66 to R73, R79, R508 to R510). -/

namespace Sys2Proof.Machine

/-- BITS64 with BITS64 (R67). -/
def logicBinary (f : Word → Word → Word) (rd rs1 : GReg) (b : Src2) (c : CoreSt) : Act :=
  binary false c rs1 b fun x y t =>
    if x.ty ≠ tyBits ∨ y.ty ≠ tyBits then .fail trapType t
    else .write rd ⟨f x.val y.val, (contrib [x, y]).tag false tyBits⟩

def actAnd (rd rs1 : GReg) (b : Src2) : CoreSt → Act := logicBinary (· &&& ·) rd rs1 b
def actOr (rd rs1 : GReg) (b : Src2) : CoreSt → Act := logicBinary (· ||| ·) rd rs1 b
def actXor (rd rs1 : GReg) (b : Src2) : CoreSt → Act := logicBinary (· ^^^ ·) rd rs1 b

def actNot (rd rs1 : GReg) (m : BitVec 6) (c : CoreSt) : Act :=
  unary false c rs1 m fun x t =>
    if x.ty ≠ tyBits then .fail trapType t else .write rd ⟨~~~x.val, (contrib [x]).tag false tyBits⟩

/-- BITS64 with a BITS64 or INT64 count or description, read as an unsigned integer (R67, R509). -/
def shiftBinary (f : Word → Nat → Word) (rd rs1 : GReg) (b : Src2) (c : CoreSt) : Act :=
  binary false c rs1 b fun x y t =>
    if x.ty ≠ tyBits ∨ (y.ty ≠ tyBits ∧ y.ty ≠ tyInt) then .fail trapType t
    else .write rd ⟨f x.val y.val.toNat, (contrib [x, y]).tag false tyBits⟩

def shlWord (w : Word) (n : Nat) : Word := if 64 ≤ n then 0#64 else w <<< n
def shrWord (w : Word) (n : Nat) : Word := if 64 ≤ n then 0#64 else w >>> n
def sarWord (w : Word) (n : Nat) : Word := w.sshiftRight (min n 63)
def rotWord (w : Word) (n : Nat) : Word := w.rotateLeft (n % 64)

/-- Lowest bit p and length of the field that a description names, cut off at bit 63 (R509). -/
def fieldLow (d : Nat) : Nat := d % 64
def fieldLen (d : Nat) : Nat := min (d / 64 % 64 + 1) (64 - fieldLow d)
def fieldMask (d : Nat) : Word := BitVec.ofNat 64 ((2 ^ fieldLen d - 1) * 2 ^ fieldLow d)

def extWord (w : Word) (d : Nat) : Word := (w &&& fieldMask d) >>> fieldLow d
def insWord (old w : Word) (d : Nat) : Word := (old &&& ~~~fieldMask d) ||| ((w <<< fieldLow d) &&& fieldMask d)

def actShl (rd rs1 : GReg) (b : Src2) : CoreSt → Act := shiftBinary shlWord rd rs1 b
def actShr (rd rs1 : GReg) (b : Src2) : CoreSt → Act := shiftBinary shrWord rd rs1 b
def actSar (rd rs1 : GReg) (b : Src2) : CoreSt → Act := shiftBinary sarWord rd rs1 b
def actRot (rd rs1 : GReg) (b : Src2) : CoreSt → Act := shiftBinary rotWord rd rs1 b
def actExt (rd rs1 : GReg) (b : Src2) : CoreSt → Act := shiftBinary extWord rd rs1 b

/-- rd is a third contributing operand and must be BITS64 (R509). -/
def actIns (rd rs1 : GReg) (b : Src2) (c : CoreSt) : Act :=
  ternary false c rd rs1 b fun x y z t =>
    if x.ty ≠ tyBits ∨ (y.ty ≠ tyBits ∧ y.ty ≠ tyInt) ∨ z.ty ≠ tyBits then .fail trapType t
    else .write rd ⟨insWord z.val x.val y.val.toNat, (contrib [x, y, z]).tag false tyBits⟩

/-! Compare and select -/

/-- A NaN among FLOAT64 operands (R66). -/
def anyNaN (x y : TW) : Bool := x.ty == tyFloat && ((FNum.ofBits x.val).isNaN || (FNum.ofBits y.val).isNaN)

/-- A comparison's result: BITS64, 0 or 1, BAD where a FLOAT64 operand is NaN (R66, R79). -/
def boolResult (rd : GReg) (x y : TW) (r : Bool) : Act :=
  let k := contrib [x, y]
  .write rd ⟨if r then 1#64 else 0#64, if anyNaN x y then k.tagAt qBad false tyBits else k.tag false tyBits⟩

/-- Any type with the same type; ENUM only with the same enumeration identifier, bits [47:32] (R55, R67). -/
def equalTypes (x y : TW) : Bool :=
  x.ty == y.ty && (x.ty != tyEnum || x.val.extractLsb' 32 16 == y.val.extractLsb' 32 16)

def sameValue (x y : TW) : Bool :=
  if x.ty = tyFloat then (FNum.ofBits x.val).eq (FNum.ofBits y.val) else x.val == y.val

/-- INT64, UINT64, FLOAT64, TIME with the same type (R67). -/
def orderTypes (x y : TW) : Bool := x.ty == y.ty && decide (x.ty ≤ tyTime)

def lessThan (x y : TW) : Bool :=
  if x.ty = tyFloat then (FNum.ofBits x.val).lt (FNum.ofBits y.val)
  else decide (intOf x.ty x.val < intOf x.ty y.val)

def compareBy (ok r : TW → TW → Bool) (rd rs1 : GReg) (b : Src2) (c : CoreSt) : Act :=
  binary false c rs1 b fun x y t => if !ok x y then .fail trapType t else boolResult rd x y (r x y)

def actCeq (rd rs1 : GReg) (b : Src2) : CoreSt → Act := compareBy equalTypes sameValue rd rs1 b
def actCne (rd rs1 : GReg) (b : Src2) : CoreSt → Act := compareBy equalTypes (fun x y => !sameValue x y) rd rs1 b
def actClt (rd rs1 : GReg) (b : Src2) : CoreSt → Act := compareBy orderTypes lessThan rd rs1 b
/-- A comparison with a NaN is 0 (R79). -/
def actCle (rd rs1 : GReg) (b : Src2) : CoreSt → Act :=
  compareBy orderTypes (fun x y => !anyNaN x y && !lessThan y x) rd rs1 b
def actCun (rd rs1 : GReg) (b : Src2) : CoreSt → Act :=
  compareBy (fun x y => x.ty == tyFloat && y.ty == tyFloat) anyNaN rd rs1 b

/-- Condition from rd; only the condition and the selected operand contribute (R66, R508). -/
def actSel (rd rs1 rs2 : GReg) (m : BitVec 6) (c : CoreSt) : Act :=
  ternary false c rd rs1 (.reg rs2 m) fun x y z t =>
    if z.ty ≠ tyBits then .fail trapType t
    else
      let w := if z.val = 0#64 then y else x
      .write rd ⟨w.val, (contrib [z, w]).tag false w.ty⟩

/-- MIN and MAX (R508): of two zeros of opposite sign −0.0 or +0.0, of two other equal values rs1; a NaN as R78. -/
def extremum (smallest : Bool) (rd rs1 : GReg) (b : Src2) (c : CoreSt) : Act :=
  binary false c rs1 b fun x y t =>
    if !orderTypes x y then .fail trapType t
    else
      let k := contrib [x, y]
      if anyNaN x y then .write rd ⟨f64CanonNaN, k.tagAt qBad true tyFloat⟩
      else
        let v :=
          if lessThan x y then (if smallest then x.val else y.val)
          else if lessThan y x then (if smallest then y.val else x.val)
          else if x.ty = tyFloat ∧ x.val ≠ y.val then f64Zero smallest
          else x.val
        .write rd ⟨v, k.tag false x.ty⟩

def actMin (rd rs1 : GReg) (b : Src2) : CoreSt → Act := extremum true rd rs1 b
def actMax (rd rs1 : GReg) (b : Src2) : CoreSt → Act := extremum false rd rs1 b

/-! Tag instructions -/

/-- The tag byte as a value; Forced as rs1's (R70). -/
def actTget (rd rs1 : GReg) (c : CoreSt) : Act :=
  let x := c.reg rs1
  .write rd ⟨x.tag.zeroExtend 64, mkTag qGood x.forced false tyInt⟩

/-- Replaces the tag fields that the mask selects: bit 3 Quality, 2 Forced, 1 Limit, 0 Type (R71, instruction bits
[9:6]); never clears Forced (R59); a reserved type in tag8 is illegal, one in rs1 traps unless Type is selected (R68). -/
def actTset (rd rs1 : GReg) (tag8 : BitVec 8) (mask : BitVec 4) (c : CoreSt) : Act :=
  let x := c.reg rs1
  let t := tags3 (some x) none none
  if 8 ≤ tagT tag8 then .fail trapIllegal t
  else if x.reserved && !mask.getLsbD 0 then .fail trapReserved t
  else .write rd ⟨x.val,
    mkTag (if mask.getLsbD 3 then tagQ tag8 else x.q) (x.forced || (mask.getLsbD 2 && tagF tag8))
      (if mask.getLsbD 1 then tagL tag8 else x.limit) (if mask.getLsbD 0 then tagT tag8 else x.ty)⟩

/-- Value and type of rs1, quality and Limit of rs2, Forced of either (R72). -/
def actTcpy (rd rs1 rs2 : GReg) (m : BitVec 6) (c : CoreSt) : Act :=
  binary false c rs1 (.reg rs2 m) fun x y _ =>
    .write rd ⟨x.val, mkTag y.q (x.forced || y.forced) y.limit x.ty⟩

/-- The floor lifts a quality that is not BAD (R73). -/
def qualityFloor (q floor : Nat) : Nat := if q ≠ qBad ∧ q < floor then floor else q

/-- mod carries the floor in bits [1:0]; bits [5:2] must be 0 (R73). -/
def actQmin (rd rs1 rs2 : GReg) (m : BitVec 6) (c : CoreSt) : Act :=
  let x := c.reg rs1
  let y := c.reg rs2
  let t := tags3 (some x) (some y) none
  if m.extractLsb' 2 4 ≠ 0#4 then .fail trapIllegal t
  else if x.reserved || y.reserved then .fail trapReserved t
  else .write rd ⟨x.val,
    mkTag (qualityFloor (min x.q y.q) (m.extractLsb' 0 2).toNat) (x.forced || y.forced) (x.limit || y.limit) x.ty⟩

/-! Conversion: quality and flags kept (R66, R79) -/

def convert (fp : Bool) (ty : Nat) (rs1 : GReg) (m : BitVec 6) (c : CoreSt) (k : TW → Act) : Act :=
  unary fp c rs1 m fun x t => if x.ty ≠ ty then .fail trapType t else k x

def actCvtif (rd rs1 : GReg) (m : BitVec 6) (c : CoreSt) : Act :=
  convert true tyInt rs1 m c fun x =>
    .write rd ⟨intToF64 (Rnd.ofBits (m.extractLsb' 0 2)) x.val.toInt, (contrib [x]).tag false tyFloat⟩

/-- Saturates with Limit; a NaN gives 0, BAD, Limit (R79). -/
def actCvtfi (rd rs1 : GReg) (m : BitVec 6) (c : CoreSt) : Act :=
  convert true tyFloat rs1 m c fun x =>
    let k := contrib [x]
    match FNum.ofBits x.val with
    | .nan => .write rd ⟨0#64, k.tagAt qBad true tyInt⟩
    | .inf s => .write rd ⟨BitVec.ofInt 64 (if s then int64Min else int64Max), k.tag true tyInt⟩
    | .fin s n e =>
      let r := narrow tyInt false (f64ToInt (Rnd.ofBits (m.extractLsb' 0 2)) s n e)
      .write rd ⟨r.1, k.tag r.2 tyInt⟩

def actCvtiu (rd rs1 : GReg) (m : BitVec 6) (c : CoreSt) : Act :=
  convert false tyInt rs1 m c fun x =>
    let r := narrow tyUint false x.val.toInt
    .write rd ⟨r.1, (contrib [x]).tag r.2 tyUint⟩

def actCvtui (rd rs1 : GReg) (m : BitVec 6) (c : CoreSt) : Act :=
  convert false tyUint rs1 m c fun x =>
    let r := narrow tyInt false x.val.toNat
    .write rd ⟨r.1, (contrib [x]).tag r.2 tyInt⟩

/-- Target type in instruction bits [15:12]; bits [17:16] 0 (R510); changes the Type field only, from any type code
(R68). -/
def actRetype (rd rs1 : GReg) (rs2f m : BitVec 6) (c : CoreSt) : Act :=
  let x := c.reg rs1
  if !modOk false m ∨ 8 ≤ rs2f.toNat then .fail trapIllegal (tags3 (some x) none none)
  else .write rd ⟨x.val, mkTag x.q x.forced x.limit rs2f.toNat⟩

/-- Two INT64 operands as the lanes of a PAIR32, each saturating with Limit (R66). Which operand is the high lane the
spec leaves open (Config.ppackRs1High). DESIGN CHOICE (log 29, 119). -/
def actPpack (rd rs1 rs2 : GReg) (m : BitVec 6) (c : CoreSt) : Act :=
  binary false c rs1 (.reg rs2 m) fun x y t =>
    if x.ty ≠ tyInt ∨ y.ty ≠ tyInt then .fail trapType t
    else
      let p := narrow32 (m.getLsbD 2) x.val.toInt
      let q := narrow32 (m.getLsbD 2) y.val.toInt
      .write rd ⟨if Config.ppackRs1High then packLanes p.1 q.1 else packLanes q.1 p.1,
        (contrib [x, y]).tag (p.2 || q.2) tyPair⟩

/-- DESIGN CHOICE (log 119). -/
def actPhi (rd rs1 : GReg) (m : BitVec 6) (c : CoreSt) : Act :=
  convert false tyPair rs1 m c fun x => .write rd ⟨BitVec.ofInt 64 (laneHi x.val), (contrib [x]).tag false tyInt⟩

/-- DESIGN CHOICE (log 119). -/
def actPlo (rd rs1 : GReg) (m : BitVec 6) (c : CoreSt) : Act :=
  convert false tyPair rs1 m c fun x => .write rd ⟨BitVec.ofInt 64 (laneLo x.val), (contrib [x]).tag false tyInt⟩

end Sys2Proof.Machine
end

