-- ==== Sys2Proof/Machine/IsaFlow.lean ====
section
/-! DEFINITION. Loads and stores, branches, immediates and system instructions (R61 to R64, R69, R74, R97, R98, R511):
what each asks of the machine. -/

namespace Sys2Proof.Machine

/-- (value bits [31:0] of the base + imm18) modulo 2^32 (R511). -/
def baseAddr (base : TW) (i : BitVec 18) : Nat := (base.val.truncate 32 + i.signExtend 32 : BitVec 32).toNat

/-- No type check; the base contributes nothing (R511). -/
def actLd (rd base : GReg) (i : BitVec 18) (c : CoreSt) : Act :=
  .load (baseAddr (c.reg base) i) rd (tags3 (some (c.reg base)) none none)

def actSt (rs base : GReg) (i : BitVec 18) (c : CoreSt) : Act :=
  .store (baseAddr (c.reg base) i) (c.reg rs) (tags3 (some (c.reg base)) none (some (c.reg rs)))

/-- REF base word address and extent (R55). -/
def refBase (w : TW) : Nat := (w.val.extractLsb' 0 32).toNat
def refExtent (w : TW) : Nat := (w.val.extractLsb' 32 32).toNat

/-- ref of type REF, index of type INT64; an index that is negative or not below the extent traps (R69). -/
def refAccess (c : CoreSt) (ref index : GReg) (t : BitVec 24) (k : Nat → Act) : Act :=
  let x := c.reg ref
  let y := c.reg index
  let i := y.val.toInt
  if x.ty ≠ tyRef ∨ y.ty ≠ tyInt then .fail trapType t
  else if i < 0 ∨ (refExtent x : Int) ≤ i then .trap ⟨trapRefBound, 0#18, BitVec.ofInt 32 (refBase x + i), t⟩
  else k (refBase x + i.toNat)

def actLdx (rd ref index : GReg) (c : CoreSt) : Act :=
  let t := tags3 (some (c.reg ref)) (some (c.reg index)) none
  refAccess c ref index t fun a => .load a rd t

def actStx (rs ref index : GReg) (c : CoreSt) : Act :=
  let t := tags3 (some (c.reg ref)) (some (c.reg index)) (some (c.reg rs))
  refAccess c ref index t fun a => .store a (c.reg rs) t

/-- Instruction addresses a core may go to: 0 to 4 Mi − 1 in user mode, 0 to 2 Mi − 1 in privileged mode (R97). -/
def addrOk (priv : Bool) (a : Int) : Bool := decide (0 ≤ a) && decide (a < if priv then 2 ^ 21 else 2 ^ 22)

/-- A branch, jump, call or return to `a`; a target that is no instruction address traps (R83, R97). -/
def goTo (c : CoreSt) (a : Int) (link : Option TW) (t : BitVec 24) : Act :=
  if addrOk c.priv a then .branch true (BitVec.ofInt 22 a) link else .fail trapIllegal t

/-- A format D branch: an offset in instructions, from the branch plus Config.branchBase (R62). -/
def branchIf (c : CoreSt) (taken : Bool) (off : BitVec 20) (t : BitVec 24) : Act :=
  if taken then goTo c (c.iaddr.toNat + Config.branchBase + off.toInt) none t
  else .branch false (nextAddr c.iaddr) none

/-- BZ and BNZ test the value and ignore the tag (R74), but for a reserved type code (R68).
DESIGN CHOICE (log 28). DEDUCED (log 30). -/
def branchValue (taken : Word → Bool) (rs : GReg) (off : BitVec 20) (c : CoreSt) : Act :=
  let x := c.reg rs
  let t := tags3 none none (some x)
  if x.reserved then .fail trapReserved t else branchIf c (taken x.val) off t

def actBz (rs : GReg) (off : BitVec 20) : CoreSt → Act := branchValue (· == 0#64) rs off
/-- DEDUCED (log 30). -/
def actBnz (rs : GReg) (off : BitVec 20) : CoreSt → Act := branchValue (· != 0#64) rs off

/-- The tag test that a cond field selects (R74): 0x0 to 0x3 quality below the one encoded by cond [1:0], 0x4 Limit, 0x5
Forced; none for the reserved values. DEDUCED (log 30). -/
def tagTest (cond : BitVec 4) (w : TW) : Option Bool :=
  if cond.toNat ≤ 3 then some (decide (w.q < cond.toNat))
  else if cond.toNat = 4 then some w.limit
  else if cond.toNat = 5 then some w.forced
  else none

/-- A tag branch (R74); a reserved cond is illegal. DEDUCED (log 30). -/
def actBq (rs : GReg) (cond : BitVec 4) (off : BitVec 20) (c : CoreSt) : Act :=
  let x := c.reg rs
  let t := tags3 none none (some x)
  match tagTest cond x with
  | none => .fail trapIllegal t
  | some r => if x.reserved then .fail trapReserved t else branchIf c r off t

def actBlim (rs : GReg) (off : BitVec 20) : CoreSt → Act := actBq rs 4#4 off
def actBfrc (rs : GReg) (off : BitVec 20) : CoreSt → Act := actBq rs 5#4 off

/-- An absolute instruction address; bits [23:22] of imm24 must be 0 (R63). -/
def actJ (i : BitVec 24) (c : CoreSt) : Act := goTo c i.toNat none 0#24

/-- The return address goes to g63 with tag GOOD INT64. -/
def actCall (i : BitVec 24) (c : CoreSt) : Act := goTo c i.toNat (some (goodInt (nextAddr c.iaddr).toNat)) 0#24

def actRet (c : CoreSt) : Act :=
  let x := c.reg 63
  if x.reserved then .fail trapReserved 0#24 else goTo c x.val.toNat none 0#24

/-- Sign-extended imm24 with tag GOOD INT64 (R64). -/
def actLimm (rd : GReg) (i : BitVec 24) (_ : CoreSt) : Act := .write rd ⟨i.signExtend 64, goodTag tyInt⟩

/-- rd shifted left by 24 bits with imm24 in bits [23:0]; rd's tag is kept (R64). -/
def actLshi (rd : GReg) (i : BitVec 24) (c : CoreSt) : Act :=
  let z := c.reg rd
  if z.reserved then .fail trapReserved (tags3 none none (some z))
  else .write rd ⟨(z.val <<< 24) ||| i.zeroExtend 64, z.tag⟩

/-- EXPLICIT, with imm18 recorded; not privileged (R64, R83). -/
def actTrap (i : BitVec 18) (_ : CoreSt) : Act := .trap ⟨trapExplicit, i, 0#32, 0#24⟩

/-- System instructions other than TRAP are privileged (R97). -/
def privileged (c : CoreSt) (t : BitVec 24) (a : Act) : Act := if c.priv then a else .fail trapPrivilege t

/-- DEDUCED (log 33). -/
def actWait (c : CoreSt) : Act := privileged c 0#24 .wait
/-- DEDUCED (log 12). -/
def actFence (c : CoreSt) : Act := privileged c 0#24 .fence
def actTnow (rd : GReg) (c : CoreSt) : Act := privileged c 0#24 (.nowTime rd)
def actCsrr (rd : GReg) (addr : BitVec 32) (c : CoreSt) : Act := privileged c 0#24 (.csrRead addr.toNat rd)
/-- The written word's upper half and tag are ignored by the register (R8); a reserved type code traps (R68).
DEDUCED (log 30). -/
def actCsrw (rs : GReg) (addr : BitVec 32) (c : CoreSt) : Act :=
  let t := tags3 none none (some (c.reg rs))
  privileged c t (if (c.reg rs).reserved then .fail trapReserved t else .csrWrite addr.toNat (c.reg rs))

/-- PRIV and DIVPOL from TSTAT, resuming at TEPC (R99); a TEPC beyond the resumed privilege's addresses is illegal
(R83, R97). DEDUCED (log 35). -/
def actEret (c : CoreSt) : Act :=
  privileged c 0#24
    (if addrOk (c.tstat.getLsbD 0) c.tepc.toNat then .resume (c.tepc.truncate 22) else .fail trapIllegal 0#24)

/-- Control register `n` (R98). -/
def CoreSt.ctl (c : CoreSt) (n : Nat) : BitVec 32 :=
  match n with
  | 0 => c.status
  | 1 => c.tvec
  | 2 => c.tepc
  | 3 => c.tcause
  | 4 => c.tval
  | 5 => c.ttag
  | 6 => c.tstat
  | _ => c.scratch

/-- CRW: TCAUSE, TVAL, TTAG and every STATUS field but DIVPOL are read only, and a write of them is ignored (R98). -/
def CoreSt.setCtl (c : CoreSt) (n : Nat) (v : BitVec 32) : CoreSt :=
  match n with
  | 0 => { c with divpol := v.getLsbD 1 }
  | 1 => { c with tvec := v }
  | 2 => { c with tepc := v }
  | 6 => { c with tstat := v }
  | 7 => { c with scratch := v }
  | _ => c

/-- rs1 must be 0, imm18[17] the direction, imm18[2:0] the number, every other bit 0 (R98). -/
def ctlForm (write : Bool) (rs1 : GReg) (i : BitVec 18) : Bool :=
  rs1.val == 0 && i.getLsbD 17 == write && i.extractLsb' 3 14 == 0#14

def actCrr (rd rs1 : GReg) (i : BitVec 18) (c : CoreSt) : Act :=
  if !ctlForm false rs1 i then .fail trapIllegal 0#24
  else privileged c 0#24 (.write rd ⟨(c.ctl (i.toNat % 8)).zeroExtend 64, goodTag tyInt⟩)

/-- A reserved type code traps (R68); the rest of the tag is ignored (R98). DEDUCED (log 30). -/
def actCrw (rs rs1 : GReg) (i : BitVec 18) (c : CoreSt) : Act :=
  let t := tags3 none none (some (c.reg rs))
  if !ctlForm true rs1 i then .fail trapIllegal t
  else privileged c t
    (if (c.reg rs).reserved then .fail trapReserved t else .ctlWrite (i.toNat % 8) ((c.reg rs).val.truncate 32))

end Sys2Proof.Machine
end

