-- ==== Sys2Proof/Machine/IsaTable.lean ====
section
/-! DEFINITION. Every instruction (R64) as one core executes it: the general registers that it reads, and what it asks of
the machine. -/

namespace Sys2Proof

/-- The register of the second source. -/
def Src2.regs (b : Src2) : List GReg :=
  match b with
  | .reg r _ => [r]
  | .imm _ => []

end Sys2Proof

namespace Sys2Proof.Machine

/-- An instruction on one core: the registers read through the check code (R95), and what it asks. -/
structure IsaOp where
  regs : List GReg
  act : CoreSt → Act

/-- The instruction that a command names; a command that is no instruction of R64 asks nothing. -/
def isaOp (i : Instr) : IsaOp :=
  match i with
  | .add _ rd rs1 b => ⟨rs1 :: b.regs, actAdd rd rs1 b⟩
  | .sub _ rd rs1 b => ⟨rs1 :: b.regs, actSub rd rs1 b⟩
  | .mul _ rd rs1 b => ⟨rs1 :: b.regs, actMul rd rs1 b⟩
  | .mulh _ rd rs1 b => ⟨rs1 :: b.regs, actMulh rd rs1 b⟩
  | .div _ rd rs1 b => ⟨rs1 :: b.regs, actDiv rd rs1 b⟩
  | .rem _ rd rs1 b => ⟨rs1 :: b.regs, actRem rd rs1 b⟩
  | .neg _ rd rs1 m => ⟨[rs1], actNeg rd rs1 m⟩
  | .abs _ rd rs1 m => ⟨[rs1], actAbs rd rs1 m⟩
  | .clamp _ rd rs1 rs2 m => ⟨[rs1, rs2], actClamp rd rs1 rs2 m⟩
  | .fadd _ rd rs1 b => ⟨rs1 :: b.regs, actFadd rd rs1 b⟩
  | .fsub _ rd rs1 b => ⟨rs1 :: b.regs, actFsub rd rs1 b⟩
  | .fmul _ rd rs1 b => ⟨rs1 :: b.regs, actFmul rd rs1 b⟩
  | .fdiv _ rd rs1 b => ⟨rs1 :: b.regs, actFdiv rd rs1 b⟩
  | .fma _ rd rs1 rs2 m => ⟨[rd, rs1, rs2], actFma rd rs1 rs2 m⟩
  | .fsqrt _ rd rs1 m => ⟨[rs1], actFsqrt rd rs1 m⟩
  | .fabs _ rd rs1 m => ⟨[rs1], actFabs rd rs1 m⟩
  | .fneg _ rd rs1 m => ⟨[rs1], actFneg rd rs1 m⟩
  | .fclamp _ rd rs1 rs2 m => ⟨if rs2.val = 63 then [rs1, rs2] else [rs1, rs2, rs2 + 1], actFclamp rd rs1 rs2 m⟩
  | .tadd _ rd rs1 b => ⟨rs1 :: b.regs, actTadd rd rs1 b⟩
  | .tsub _ rd rs1 b => ⟨rs1 :: b.regs, actTsub rd rs1 b⟩
  | .trel _ rd => ⟨[], actTrel rd⟩
  | .padd _ rd rs1 rs2 m => ⟨[rs1, rs2], actPadd rd rs1 rs2 m⟩
  | .psub _ rd rs1 rs2 m => ⟨[rs1, rs2], actPsub rd rs1 rs2 m⟩
  | .pmul _ rd rs1 rs2 m => ⟨[rs1, rs2], actPmul rd rs1 rs2 m⟩
  | .and _ rd rs1 b => ⟨rs1 :: b.regs, actAnd rd rs1 b⟩
  | .or _ rd rs1 b => ⟨rs1 :: b.regs, actOr rd rs1 b⟩
  | .xor _ rd rs1 b => ⟨rs1 :: b.regs, actXor rd rs1 b⟩
  | .not _ rd rs1 m => ⟨[rs1], actNot rd rs1 m⟩
  | .shl _ rd rs1 b => ⟨rs1 :: b.regs, actShl rd rs1 b⟩
  | .shr _ rd rs1 b => ⟨rs1 :: b.regs, actShr rd rs1 b⟩
  | .sar _ rd rs1 b => ⟨rs1 :: b.regs, actSar rd rs1 b⟩
  | .rot _ rd rs1 b => ⟨rs1 :: b.regs, actRot rd rs1 b⟩
  | .ext _ rd rs1 b => ⟨rs1 :: b.regs, actExt rd rs1 b⟩
  | .ins _ rd rs1 b => ⟨rd :: rs1 :: b.regs, actIns rd rs1 b⟩
  | .ceq _ rd rs1 b => ⟨rs1 :: b.regs, actCeq rd rs1 b⟩
  | .cne _ rd rs1 b => ⟨rs1 :: b.regs, actCne rd rs1 b⟩
  | .clt _ rd rs1 b => ⟨rs1 :: b.regs, actClt rd rs1 b⟩
  | .cle _ rd rs1 b => ⟨rs1 :: b.regs, actCle rd rs1 b⟩
  | .cun _ rd rs1 b => ⟨rs1 :: b.regs, actCun rd rs1 b⟩
  | .sel _ rd rs1 rs2 m => ⟨[rd, rs1, rs2], actSel rd rs1 rs2 m⟩
  | .min _ rd rs1 b => ⟨rs1 :: b.regs, actMin rd rs1 b⟩
  | .max _ rd rs1 b => ⟨rs1 :: b.regs, actMax rd rs1 b⟩
  | .tget _ rd rs1 => ⟨[rs1], actTget rd rs1⟩
  | .tset _ rd rs1 tag8 mask => ⟨[rs1], actTset rd rs1 tag8 mask⟩
  | .tcpy _ rd rs1 rs2 m => ⟨[rs1, rs2], actTcpy rd rs1 rs2 m⟩
  | .qmin _ rd rs1 rs2 m => ⟨[rs1, rs2], actQmin rd rs1 rs2 m⟩
  | .cvtif _ rd rs1 m => ⟨[rs1], actCvtif rd rs1 m⟩
  | .cvtfi _ rd rs1 m => ⟨[rs1], actCvtfi rd rs1 m⟩
  | .cvtiu _ rd rs1 m => ⟨[rs1], actCvtiu rd rs1 m⟩
  | .cvtui _ rd rs1 m => ⟨[rs1], actCvtui rd rs1 m⟩
  | .retype _ rd rs1 rs2f m => ⟨[rs1], actRetype rd rs1 rs2f m⟩
  | .ppack _ rd rs1 rs2 m => ⟨[rs1, rs2], actPpack rd rs1 rs2 m⟩
  | .phi _ rd rs1 m => ⟨[rs1], actPhi rd rs1 m⟩
  | .plo _ rd rs1 m => ⟨[rs1], actPlo rd rs1 m⟩
  | .ld _ rd base i _ => ⟨[base], actLd rd base i⟩
  | .st _ rs base i => ⟨[rs, base], actSt rs base i⟩
  | .ldx _ rd ref index _ => ⟨[ref, index], actLdx rd ref index⟩
  | .stx _ rs ref index => ⟨[rs, ref, index], actStx rs ref index⟩
  | .bz _ rs off => ⟨[rs], actBz rs off⟩
  | .bnz _ rs off => ⟨[rs], actBnz rs off⟩
  | .bq _ rs cond off => ⟨[rs], actBq rs cond off⟩
  | .blim _ rs off => ⟨[rs], actBlim rs off⟩
  | .bfrc _ rs off => ⟨[rs], actBfrc rs off⟩
  | .j _ i => ⟨[], actJ i⟩
  | .call _ i => ⟨[], actCall i⟩
  | .ret _ => ⟨[63], actRet⟩
  | .limm _ rd i => ⟨[], actLimm rd i⟩
  | .lshi _ rd i => ⟨[rd], actLshi rd i⟩
  | .wait _ => ⟨[], actWait⟩
  | .trap _ i => ⟨[], actTrap i⟩
  | .csrr _ rd addr => ⟨[], actCsrr rd addr⟩
  | .csrw _ rs addr => ⟨[rs], actCsrw rs addr⟩
  | .tnow _ rd => ⟨[], actTnow rd⟩
  | .fence _ => ⟨[], actFence⟩
  | .eret _ => ⟨[], actEret⟩
  | .crr _ rd rs1 i => ⟨[], actCrr rd rs1 i⟩
  | .crw _ rs rs1 i => ⟨[rs], actCrw rs rs1 i⟩
  | _ => ⟨[], fun _ => .fail trapIllegal 0#24⟩

end Sys2Proof.Machine
end

