-- ==== Sys2Proof/Machine/AlpOps.lean ====
section
/-! DEFINITION. Operations of the current loops (R385 to R398): conversion, targets, status, floors and guards by mode,
and the analogue inputs. Currents are in nA. -/

namespace Sys2Proof.Machine

def State.ao (s : State) (n : Nat) : AoSt := SMap.get {} s.alp.ao n
def State.ai (s : State) (n : Nat) : AiSt := SMap.get {} s.alp.ai n

def State.setAo (s : State) (n : Nat) (f : AoSt → AoSt) : State :=
  { s with alp := { s.alp with ao := SMap.put {} s.alp.ao n (f (s.ao n)) } }

def State.setAi (s : State) (n : Nat) (f : AiSt → AiSt) : State :=
  { s with alp := { s.alp with ai := SMap.put {} s.alp.ai n (f (s.ai n)) } }

/-! Characteristics (R386, R388) -/

/-- Table entry T[k] of a channel (0 to 7 AO, 8 to 15 AI). -/
def State.tabFrac (s : State) (c k : Nat) : Frac := ⟨(BitVec.ofNat 32 (s.get (Reg.alpTab c k))).toInt, 2 ^ 24⟩

def State.rangeLo (s : State) (c : Nat) : Frac :=
  Frac.ofF64 (BitVec.ofNat 64 (s.get (Reg.alpTab c 0x23) * 2 ^ 32 + s.get (Reg.alpTab c 0x22)))

def State.rangeHi (s : State) (c : Nat) : Frac :=
  Frac.ofF64 (BitVec.ofNat 64 (s.get (Reg.alpTab c 0x25) * 2 ^ 32 + s.get (Reg.alpTab c 0x24)))

/-- The interpolated table; beyond 0 to 1 the first or last segment is extended. -/
def State.userChar (s : State) (c : Nat) (u : Frac) : Frac :=
  let k := min 31 (max 0 ((u.num * 32) / u.den)).toNat
  let a := s.tabFrac c k
  let b := s.tabFrac c (k + 1)
  a.add ((b.sub a).mul ((u.mul (.ofInt 32)).sub (.ofInt k)))

/-- Square root of a fraction of 0 to 1, to 64 bits below the point. -/
def fracSqrt (x : Frac) : Frac := ⟨isqrtBits (x.num.toNat * 2 ^ 128 / x.den) 66 0, 2 ^ 64⟩

/-- The characteristic by KIND (R388); SQRT is for AI only. -/
def State.characteristic (s : State) (c : Nat) (u : Frac) : Frac :=
  match s.get (Reg.alpTab c 0x21) with
  | 1 => if c < 8 then u else if u.lt ⟨s.get (Reg.alpTab c 0x26), 2 ^ 24⟩ then ⟨0, 1⟩ else fracSqrt u
  | 2 => s.userChar c u
  | _ => u

/-! Outputs -/

def State.aoMin (s : State) (n : Nat) : Int := (s.get (Reg.aoLimMin n) : Int) * 1000
def State.aoMax (s : State) (n : Nat) : Int := (s.get (Reg.aoLimMax n) : Int) * 1000

/-- The commanded current of a word, and whether a limit clamped it (R386). DESIGN CHOICE (log 85). -/
def State.aoConvert (s : State) (n : Nat) (w : TW) : Int × Bool :=
  let lo := s.aoMin n
  let hi := s.aoMax n
  match FNum.ofBits w.val with
  | .nan => (lo + (Config.aoNaN s.free : Int) % (hi - lo + 1), false)
  | .inf sg => (if sg then lo else hi, true)
  | .fin _ _ _ =>
    let u := ((Frac.ofF64 w.val).sub (s.rangeLo n)).div ((s.rangeHi n).sub (s.rangeLo n))
    let c := Frac.add (.ofInt 4000000) ((Frac.ofInt 16000000).mul (s.characteristic n u))
    if c.lt (.ofInt lo) then (lo, true)
    else if (Frac.ofInt hi).lt c then (hi, true)
    else (c.round Config.ioRound, false)

/-- The partner's contribution P (R389). -/
def State.aoP (s : State) (n : Nat) : Int := (s.get (Reg.aoTot n) : Int) - s.get (Reg.aoOwn n)

/-- The floor F: half, ramp of 1.2 ms, or full (R389, R390). -/
def State.aoF (s : State) (n : Nat) : Int :=
  let c : Int := s.get (Reg.aoC n)
  match s.get (Reg.aoFloor n) with
  | 1 => c / 2
  | 2 =>
    let dt := match (s.ao n).rampAt with
      | some t => max 0 (min 1200000 (s.now - t))
      | none => 1200000
    c / 2 + (c - c / 2) * dt / 1200000
  | 3 => c
  | _ => 0

/-- The target of a stage (R389); a suspended guard does not act (R391). -/
def State.aoTarget (s : State) (n : Nat) : Int :=
  let c : Int := s.get (Reg.aoC n)
  if s.get (Reg.aoFloor n) = 0 then 0
  else if s.flag (Reg.aoGuard n) && !s.flag (Reg.aoSusp n) then min c (max (s.aoF n) (c - s.aoP n))
  else s.aoF n

/-- The value that the stage is set to, with the trim of the module's own position (R387). -/
def State.aoTrimmed (s : State) (n : Nat) : Int :=
  let p := s.get Reg.blwPos
  let m4 : Int := s.get (Reg.alpTab n (0x28 + 2 * p))
  let m20 : Int := s.get (Reg.alpTab n (0x29 + 2 * p))
  (Frac.add (.ofInt 4000000) ((Frac.ofInt ((s.aoTarget n - m4) * 16000000)).div (.ofInt (m20 - m4)))).round Config.ioRound

/-- The code of a current: 16 bits over the drivable range of 0 to 22.5 mA (R385). DESIGN CHOICE (log 129). -/
def aoCode (i : Int) : Nat :=
  min 65535 (Frac.mk (max 0 i * 65536) 22500000 |>.round Config.ioRound).toNat

/-- The code that the stage is set to. -/
def State.aoRaw (s : State) (n : Nat) : Nat := aoCode (s.aoTrimmed n)

/-- Status bits of an AO channel (R403). -/
def State.aoBits (s : State) (n : Nat) : Nat :=
  let a := s.ao n
  let f := s.get (Reg.aoFloor n)
  bit a.limit 0 + bit a.clamped 1 + bit a.mismatch 2 + bit a.engaged 3 + bit a.lost 4 + bit a.excess 5 + bit (f == 2) 6
    + bit a.safeC 7 + bit a.badAct 8 + bit (f == 0) 9 + bit (SMap.get {} s.alp.hrt n).notAnswering 10

/-- Show a channel's flags, target and status point after a change. -/
def State.showAo (s : State) (n : Nat) : State :=
  let s1 := (s.set (Reg.aoFlags n) (s.aoBits n)).setAo n fun a => { a with target := s.aoTarget n, raw := s.aoRaw n }
  s1.status (spAo n) (goodBits (s1.aoBits n))

/-- A floor and a guard (R389): a change of the target. -/
def State.setFloor (s : State) (n f : Nat) (guard : Bool) : State :=
  let s1 := ((s.set (Reg.aoFloor n) f).setFlag (Reg.aoGuard n) guard).setFlag (Reg.aoSusp n) false
  (s1.setAo n fun a =>
    { a with changedAt := s.now, rampAt := if f = 2 then some s.now else none,
             returnAt := if f = 2 then none else a.returnAt,
             lost := a.lost && f != 1, engaged := a.engaged && guard, engagedAt := if guard then a.engagedAt else none }).showAo n

/-- A command takes effect: C in effect, and the guard's suspension ends (R386, R391). -/
def State.setC (s : State) (n : Nat) (c : Int) (safe : Bool) : State :=
  let s1 := (s.set (Reg.aoC n) c.toNat).setFlag (Reg.aoSusp n) false
  (s1.setAo n fun a => { a with changedAt := s.now, safeC := safe }).showAo n

/-- The ramp from half to full starts where the floor is half (R245, R390). DEDUCED (log 86). -/
def State.startRamp (s : State) (n : Nat) : State :=
  if s.get (Reg.aoFloor n) = 1 then s.setFloor n 2 true else s

/-- The ramp of every channel: EXIT, a partner that does not drive, takeover evidence (R245). -/
def State.startRamps (s : State) : State :=
  if s.mode = mStandby ∨ s.mode = mPrimary then s.each (List.range 8) fun n t => t.startRamp n else s

/-- The pending command takes effect at the output instant. -/
def State.aoTakePend (s : State) (n : Nat) : State :=
  if s.flag (Reg.aopValid n) then (s.set (Reg.aopValid n) 0).setC n (s.get (Reg.aopC n)) (s.ao n).pendSafe else s

/-- Floors and guards follow the mode (R389, R390, R394); `drive` says that SAFE is driving. A module that enters STANDBY from
SYNC takes the command that came with GO (R245). -/
def State.aoOnMode (s : State) (m0 m1 : Nat) (drive : Bool) : State :=
  s.each (List.range 8) fun n t =>
    if m1 = mStandby ∨ m1 = mPrimary then
      if (m0 = mStandby ∨ m0 = mPrimary) then t
      else if m0 = mSync then (t.setFloor n 1 true).aoTakePend n
      else t.setFloor n 1 true
    else if m1 = mSolo then
      if t.get (Reg.aoFloor n) = 1 then t.setFloor n 2 true
      else if t.get (Reg.aoFloor n) = 2 then t
      else t.setFloor n 3 false
    else if m1 = mSafe ∧ drive then
      ((t.set (Reg.aopValid n) 0).setFloor n 1 true).setC n (t.get (Reg.aoSafe n)) true
    else
      (((t.set (Reg.aopValid n) 0).set (Reg.aoC n) 0).setFloor n 0 false).setAo n fun a => { a with safeC := false }

/-- The point whose words an AO channel takes, if the active image binds one. -/
def State.aoPoint (s : State) (n : Nat) : Option Nat :=
  match s.bindings.find? (fun b => b.kind == bkAo && b.ch == n) with
  | some b => some b.point
  | none => none

/-- AOCMD (R234, R245): the commands as channel, current and tag of the published word. -/
def State.aocmdFrame (s : State) (t : Int) (l : List (Nat × Int × BitVec 8)) : State :=
  let mask := l.foldl (fun m e => m + 2 ^ e.1) 0
  let word (n : Nat) : TW := match l.find? fun e => e.1 == n with
    | some e => ⟨(Frac.mk e.2.1 1000000).toF64 .nearest, e.2.2⟩
    | none => ⟨0#64, 0#8⟩
  if l.isEmpty then s else s.sendFrame ftAocmd 0 false (wTime t :: wBits mask :: (List.range 8).map word)

/-- The commands in effect on the channels that the image binds, for the joining module's first half-current (R245).
DEDUCED (log 112). -/
def State.aoStanding (s : State) (b : Int) : State :=
  s.aocmdFrame b ((List.range 8).filterMap fun n => (s.aoPoint n).map fun p =>
    (n, (s.get (Reg.aoC n) : Int), if (s.word p).ty = tyFloat ∨ (s.ao n).safeC = true then (s.word p).tag else goodTag tyFloat))

/-- Quality at most UNCERTAIN and Limit set (R393). -/
def limitWord (w : TW) : TW := ⟨w.val, mkTag (min qUncertain w.q) w.forced true w.ty⟩

/-- What the guard's thresholds see at a measurement (R391): engagement, excess, and the partner's return.
DEDUCED (log 86). -/
def State.aoGuardWatch (s : State) (n : Nat) : State :=
  let c : Int := s.get (Reg.aoC n)
  let p := s.aoP n
  let eng := s.flag (Reg.aoGuard n) && !s.flag (Reg.aoSusp n) && decide (s.aoF n + 800000 < c - p)
  let since (on : Bool) (old : Option Int) : Option Int :=
    if on then (match old with | some t => some t | none => some s.now) else none
  let exc := s.get (Reg.aoFloor n) != 0 && decide (c / 2 + 160000 < p)
  let s1 := if eng && !(s.ao n).engaged then { s with alp := { s.alp with engagements := s.alp.engagements + 1 } } else s
  s1.setAo n fun a =>
    { a with engaged := eng, engagedAt := since eng a.engagedAt, excessAt := since exc a.excessAt,
             excess := a.excess && exc, returnAt := since (decide (800000 < p)) a.returnAt }

/-- A target that P or a ramp has moved since it was last shown has changed at this measurement (R389, R392). -/
def State.aoMoved (s : State) (n : Nat) : State :=
  if s.aoTarget n = (s.ao n).target then s else s.setAo n fun a => { a with changedAt := s.now }

/-- A command C from a task's word, or from the partner (R386): the words that R163 excludes are handled at the sink; `safe`
says that it is the safe current (R394). -/
def State.aoPend (s : State) (n : Nat) (c : Int) (safe : Bool) : State :=
  ((s.set (Reg.aopC n) c.toNat).set (Reg.aopValid n) 1).setAo n fun a => { a with pendSafe := safe, pendLate := false }

/-- A standby without a command for an output instant suspends its guard unless it is engaged (R391). -/
def State.aoSuspend (s : State) (n : Nat) : State :=
  if s.mode = mStandby ∧ !(s.ao n).engaged then (s.set (Reg.aoSusp n) 1).showAo n else s

/-! Inputs -/

/-- Trim of an AI path for the module's position (R397): `o` is 0x28 for path A, 0x2C for path B. -/
def State.aiTrim (s : State) (n o : Nat) (raw : Int) : Int :=
  let p := s.get Reg.blwPos
  let r4 : Int := s.get (Reg.alpTab (n + 8) (o + 2 * p))
  let r20 : Int := s.get (Reg.alpTab (n + 8) (o + 1 + 2 * p))
  (Frac.add (.ofInt 4000000) ((Frac.ofInt ((raw - r4) * 16000000)).div (.ofInt (r20 - r4)))).round Config.ioRound

/-- The characterised value of a current (R388): lo + y × (hi − lo), the input clamped to 0 to 1. -/
def State.aiValue (s : State) (n : Nat) (i : Int) : Word :=
  let x : Frac := ⟨max 0 (min 16000000 (i - 4000000)), 16000000⟩
  let c := n + 8
  ((s.rangeLo c).add ((s.characteristic c x).mul ((s.rangeHi c).sub (s.rangeLo c)))).toF64 Config.ioRound

/-- The words of an AI value (R396): SEL 0 and SEL 1. -/
def State.aiWords (s : State) (n : Nat) (i : Int) : TW × TW :=
  let a := s.ai n
  let bad (w : TW) : TW := ⟨w.val, mkTag qBad false w.limit tyFloat⟩
  let lim : BitVec 8 := mkTag qUncertain false true tyFloat
  let mA (v : Int) : Word := (Frac.mk v 1000000).toF64 Config.ioRound
  if a.drift || a.faultA || a.faultB then (bad a.word0, bad a.word1)
  else
    let v := s.aiValue n i
    if i < 0 then (⟨v, lim⟩, ⟨0#64, lim⟩)
    else if 24000000 < i then (⟨v, lim⟩, ⟨mA 24000000, lim⟩)
    else if i < 3800000 ∨ 20500000 < i then (⟨v, lim⟩, ⟨mA i, goodTag tyFloat⟩)
    else (⟨v, mkTag qGood false (decide (i < 4000000 ∨ 20000000 < i)) tyFloat⟩, ⟨mA i, goodTag tyFloat⟩)

/-- Status bits of an AI channel (R403). -/
def State.aiBits (s : State) (n : Nat) : Nat :=
  let a := s.ai n
  let i := a.curA.headD 4000000
  bit a.drift 0 + bit a.faultA 1 + bit a.faultB 2 + bit (decide (i < 3800000)) 3 + bit (decide (20500000 < i)) 4
    + bit (decide (24000000 < i)) 5 + bit (SMap.get {} s.alp.hrt (n + 8)).notAnswering 6

def State.showAi (s : State) (n : Nat) : State :=
  (s.set (Reg.aiFlags n) (s.aiBits n)).status (spAi n) (goodBits (s.aiBits n))

/-- Write the words of a channel to the points bound to it (R154, R396). -/
def State.aiPublish (s : State) (n : Nat) (i : Int) : State :=
  let w := s.aiWords n i
  let s1 := s.setAi n fun a => { a with word0 := w.1, word1 := w.2 }
  s1.each (s1.bindings.filter fun b => b.kind == bkAi && b.ch == n && decide (b.sel ≤ 1)) fun b t =>
    t.sourceUpdate b (if b.sel = 0 then w.1 else w.2)

/-- A conversion (R395 to R397): raw codes, trimmed current, points, flags. DESIGN CHOICE (log 85). -/
def State.aiConvert (s : State) (n : Nat) (ra rb : BitVec 24) (fa fb : Bool) : State :=
  let ia := s.aiTrim n 0x28 (Config.aiCode false ra)
  let ib := s.aiTrim n 0x2C (Config.aiCode true rb)
  let cur := if 0 ≤ ia ∧ ia < 2 ^ 25 then ia.toNat else Config.aiCurOut ia
  let s1 := ((s.set (Reg.aiRawA n) ra.toNat).set (Reg.aiRawB n) rb.toNat).set (Reg.aiCur n) cur
  let s2 := s1.setAi n fun a =>
    { a with curA := (ia :: a.curA).take 50, curB := (ib :: a.curB).take 50, faultA := fa, faultB := fb }
  (s2.aiPublish n ia).showAi n

def average (l : List Int) : Frac := ⟨l.foldl (· + ·) 0, max 1 l.length⟩

/-- The comparison of the 50 ms averages (R398): more than 0.2 % of span at 5 in a row latches the drift; after a clear
request the first passing one clears it. -/
def State.aiCompare (s : State) (n : Nat) : State :=
  let a := s.ai n
  if a.curA.isEmpty then s
  else
    let d := ((average a.curA).sub (average a.curB)).round Config.ioRound
    let s1 := s.set (Reg.aiDev n) (satI32 d)
    if 32000 < d.natAbs then
      let s2 := s1.setAi n fun a => { a with fails := a.fails + 1 }
      if 5 ≤ (s2.ai n).fails ∧ !a.drift then
        let s3 := { s2 with lcs := { s2.lcs with driftCount := s2.lcs.driftCount + 1 } }
        ((((s3.detected 9).setAi n fun a => { a with drift := true }).event .aiDrift [n, d]).aiPublish n (a.curA.headD 0)).showAi n
      else s2
    else
      let s2 := (s1.setAi n fun a => { a with fails := 0, clearing := false }).set (Reg.aiClr n) 0
      if a.drift && a.clearing then ((s2.setAi n fun a => { a with drift := false }).event .aiDriftCleared [n]).showAi n else s2

/-- A write of the clear object or of CLR arms the clearing (R398). -/
def State.aiClear (s : State) (n : Nat) : State := (s.setAi n fun a => { a with clearing := true }).set (Reg.aiClr n) 1

end Sys2Proof.Machine
end

