-- ==== Sys2Proof/Machine/HrtOps.lean ====
section
/-! DEFINITION. Operations of the FSK modems (R399 to R402). -/

namespace Sys2Proof.Machine

def State.hrt (s : State) (c : Nat) : HrtSt := SMap.get {} s.alp.hrt c

def State.setHrt (s : State) (c : Nat) (f : HrtSt → HrtSt) : State :=
  { s with alp := { s.alp with hrt := SMap.put {} s.alp.hrt c (f (s.hrt c)) } }

/-- The loop status point that shows an FSK channel (R403). -/
def State.showFsk (s : State) (c : Nat) : State := if c < 8 then s.showAo c else s.showAi (c - 8)

def hrtEnabled (s : State) (c : Nat) : Bool := (s.get Reg.hrtEn).testBit c

/-- XOR of bytes (R401). PRESUMED (log 87). -/
def xorBytes (l : Bytes) : Byte := l.foldl (· ^^^ ·) 0#8

/-- The five bytes of the long address held. -/
def State.longAddr (s : State) (c : Nat) : Bytes :=
  BitVec.ofNat 8 (s.get (Reg.cadrLah c)) :: (leBytes 4 (s.get (Reg.clal c)))

/-- The request of a channel (R400, R401): command 0 in a short frame until the long address is held, then command 3 in
a long frame; bit 7 of the first address byte marks the primary master. PRESUMED (log 87). -/
def State.fskRequest (s : State) (c : Nat) : Bytes :=
  let body : Bytes :=
    if s.flag (Reg.cstIdent c) then
      match s.longAddr c with
      | a :: l => 0x82#8 :: (a ||| 0x80#8) :: (l ++ [3#8, 0#8])
      | [] => []
    else [0x02#8, BitVec.ofNat 8 (0x80 + s.get (Reg.cadrPoll c)), 0#8, 0#8]
  List.replicate 5 0xFF#8 ++ body ++ [xorBytes body]

/-- A due transaction starts, with no carrier present, on the module in control (R399, R400). -/
def State.fskStart (s : State) (c : Nat) : State :=
  if s.inControl && hrtEnabled s c && s.get (Reg.cstState c) == 1 && !s.flag (Reg.cstCarrier c) then
    (s.set (Reg.cstState c) 2).emit (.fsk c (s.fskRequest c))
  else s

/-- The due transactions whose pacing task has an output instant. -/
def State.fskPaced (s : State) (task : Nat) : State :=
  s.each ((List.range 16).filter fun c => s.get (Reg.cpollTask c) == task) fun c t => t.fskStart c

/-- A failed response (R400): two retries, and after three failures an event, the status bit and command 0 again. -/
def State.fskFail (s : State) (c : Nat) : State :=
  let s1 := s.incSat (Reg.cstFails c)
  let k := (s.hrt c).tries + 1
  if k < 3 then
    (s1.setHrt c fun h => { h with tries := k, reqEnd := none }).set (Reg.cstState c) 1
  else
    let s2 := s1.setHrt c fun h => { h with tries := 0, reqEnd := none, notAnswering := true }
    ((((s2.set (Reg.cstState c) 0).set (Reg.cstIdent c) 0).incSat (Reg.cerr c)).event .fskFailed [c]).showFsk c

/-- A transaction succeeds. -/
def State.fskDone (s : State) (c : Nat) : State :=
  let s1 := s.setHrt c fun h => { h with tries := 0, reqEnd := none, notAnswering := false }
  (((s1.set (Reg.cstState c) 0).set (Reg.cstFails c) 0).incSat (Reg.cok c)).showFsk c

/-- A received HART frame's parts: delimiter, address, command, data after the byte count. -/
structure HartFrame where
  delim : Nat
  addr : Bytes
  cmd : Nat
  data : Bytes
  deriving DecidableEq, Repr

/-- Layout and check byte (R401); a response carries two status bytes at the head of its data. PRESUMED (log 87). -/
def parseHart (l : Bytes) : Option HartFrame :=
  match l with
  | [] => none
  | d :: r =>
    let na := if 128 ≤ d.toNat then 5 else 1
    match r.drop na with
    | c :: n :: t =>
      if t.length = n.toNat + 1 ∧ 2 ≤ n.toNat ∧ xorBytes l = 0#8 then
        some ⟨d.toNat, r.take na, c.toNat, t.take n.toNat⟩
      else none
    | _ => none

/-- A binary32, most significant byte first, widened exactly, a NaN with its payload (R402). -/
def widen32 (l : Bytes) : Word :=
  let v := leNat l.reverse
  if v / 2 ^ 23 % 256 = 255 then BitVec.ofNat 64 (v / 2 ^ 31 % 2 * 2 ^ 63 + 0x7FF * 2 ^ 52 + v % 2 ^ 23 * 2 ^ 29)
  else (FNum.ofBits32 v).toF64

/-- Tag by the field device status byte (R402); `k` is the variable. -/
def fskTag (devst k : Nat) : BitVec 8 :=
  if devst.testBit 7 then mkTag qBad false false tyFloat
  else if devst.testBit (if k = 0 then 0 else 1) then mkTag qUncertain false true tyFloat
  else goodTag tyFloat

/-- The points of a valid command 3 response whose response code is 0 (R402): after the status bytes, the loop current,
then unit code and value of PV, SV, TV and QV as far as sent. -/
def State.fskPoints (s : State) (c : Nat) (data : Bytes) : State :=
  let devst := ((data.drop 1).headD 0#8).toNat
  s.each (s.bindings.filter fun b => b.kind == bkFskVar && b.ch == c && decide (b.sel ≤ 3)) fun b t =>
    let v := (data.drop (7 + 5 * b.sel)).take 4
    if v.length = 4 then t.sourceUpdate b ⟨widen32 v, fskTag devst b.sel⟩ else t

/-- Long address from the identity that command 0 returns: expanded device type without its two high bits, device
identifier. PRESUMED (log 87). -/
def fskIdentity (data : Bytes) : Bytes :=
  match data.drop 3 with
  | m :: t :: r => (m &&& 0x3F#8) :: t :: (r.drop 6).take 3
  | _ => []

/-- Carrier at the modem, in mV peak to peak (R399): detected at 120, lost below 80. A response whose start is detected is
being received (R400, R406). -/
def State.fskCarrier (s : State) (c mv : Nat) : State :=
  let on := if 120 ≤ mv then true else if mv < 80 then false else s.flag (Reg.cstCarrier c)
  let s1 := s.setFlag (Reg.cstCarrier c) on
  if on && s.get (Reg.cstState c) == 3 then s1.set (Reg.cstState c) 4 else s1

/-- The frame behind a preamble of at least two bytes 0xFF (R401); without one none has been received. -/
def hartBody (l : Bytes) : Option Bytes :=
  let k := (l.takeWhile (· == 0xFF#8)).length
  if 2 ≤ k then some (l.drop k) else none

/-- A frame is taken for no response: the module goes on waiting for one. -/
def State.fskAwait (s : State) (c : Nat) : State := if s.get (Reg.cstState c) = 4 then s.set (Reg.cstState c) 3 else s

/-- The long address and the status of a sound command 0 response; a standby learns the address by it.
DEDUCED (log 86). -/
def State.fskIdent (s : State) (c : Nat) (data : Bytes) : State :=
  let a := fskIdentity data
  ((s.set (Reg.cadrLah c) ((a.headD 0#8).toNat)).set (Reg.clal c) (leNat (a.drop 1))).set (Reg.cstIdent c) 1

/-- Bytes that the modem has received (R400 to R402); `bad` is a parity or framing error. A sound frame that is neither a
response nor a burst to be taken is no failed response. -/
def State.fskReceive (s : State) (c : Nat) (bytes : Bytes) (bad : Bool) : State :=
  match hartBody bytes with
  | none => s.fskAwait c
  | some l =>
  let st := s.get (Reg.cstState c)
  let mine := s.inControl && (st == 3 || st == 4)
  match (if bad then none else parseHart l) with
  | none => if mine then s.fskFail c else s
  | some f =>
    let rc := (f.data.headD 0#8).toNat
    let dev := ((f.data.drop 1).headD 0#8).toNat
    let ours := s.flag (Reg.cstIdent c) && f.addr.map (fun b => b &&& 0x3F#8) == (s.longAddr c).map (fun b => b &&& 0x3F#8)
      && f.addr.drop 1 == (s.longAddr c).drop 1
    if f.delim = 0x81 ∧ !(decide (f.cmd = 3) && ours) then
      (s.setHrt c fun h => { h with ignored := h.ignored + 1 }).fskAwait c
    else if 128 ≤ rc then (if mine then s.fskFail c else s)
    else if f.delim = 0x06 ∧ f.cmd = 0 then
      if mine then (((s.fskIdent c f.data).set (Reg.cstRc c) rc).set (Reg.cstDevst c) dev).fskDone c
      else if s.mode = mStandby then s.fskIdent c f.data
      else s
    else if (f.delim = 0x86 ∨ f.delim = 0x81) ∧ f.cmd = 3 then
      let s1 := (s.set (Reg.cstRc c) rc).set (Reg.cstDevst c) dev
      let s2 := if rc = 0 then s1.fskPoints c f.data else s1
      if mine then s2.fskDone c else s2
    else s.fskAwait c

/-- The modems follow the mode (R36, R399, R400): a transaction in progress at a role change is abandoned.
DEDUCED (log 86). -/
def State.hrtOnMode (s : State) (m1 : Nat) : State :=
  let on := m1 == mPrimary || m1 == mSolo
  let s := if on || m1 == mStandby then s else s.each (List.range 16) fun c t => t.set (Reg.cstCarrier c) 0
  if on == s.flag Reg.hrtTxen then s
  else
    (s.setFlag Reg.hrtTxen on).each (List.range 16) fun c t =>
      (t.set (Reg.cstState c) 0).setHrt c fun h => { h with reqEnd := none, tries := 0, dueAt := s.now }

end Sys2Proof.Machine
end

