-- ==== Sys2Proof/Machine/RegionOps.lean ====
section
/-! DEFINITION. The regions of the memory protection unit: writing one (R417, R418), and those that the runtime holds
(R414). -/

namespace Sys2Proof.Machine

/-- A region written into both checkers in one step, and a new epoch (R417, R418, R420). -/
def State.mpuCopy (s : State) (r base lim attr mask inflight : Nat) : State :=
  let s1 := s.each [0, 1] fun c t =>
    (((t.set (Reg.rBase c r) base).set (Reg.rLim c r) lim).set (Reg.rAttr c r) attr).set (Reg.rMask c r) mask
  let s2 := ({ s1 with mpu := { s1.mpu with epoch1 := (s1.mpu.epoch1 + 1) % 256 } }.incWrap Reg.mpuEpoch).set Reg.mpuInflt inflight
  if inflight = 0 then s2
  else
    let s3 := s2.set Reg.mpuDrain 1
    { s3 with mpu := { s3.mpu with drainAt := some s.now } }

/-- The old epoch has drained (R418): a rule write that has waited takes effect, with `inflight` accesses of its own old
epoch. -/
def State.mpuDrained (s : State) (inflight : Nat) : State :=
  let s1 := (s.set Reg.mpuDrain 0).set Reg.mpuInflt 0
  let s2 := { s1 with mpu := { s1.mpu with drainAt := none, waiting := none } }
  match s.mpu.waiting with
  | none => s2
  | some (r, base, lim, attr, mask) => s2.mpuCopy r base lim attr mask inflight

/-- A rule write to a locked region is refused (R417). -/
def State.mpuLocked (s : State) (r : Nat) : State :=
  let s1 := (s.set Reg.mpuRefused 1).event .mpuRuleRefused [r]
  { s1 with mpu := { s1.mpu with ruleRefused := s1.mpu.ruleRefused + 1 } }

/-- Rights and qualifier bits of a region (R410, R422). -/
def atUr : Nat := 2 ^ 0
def atUw : Nat := 2 ^ 1
def atUx : Nat := 2 ^ 2
def atPr : Nat := 2 ^ 4
def atPw : Nat := 2 ^ 5
def atPx : Nat := 2 ^ 6
def atEn : Nat := 2 ^ 8
def atLock : Nat := 2 ^ 9
def atSlot (slot : Nat) : Nat := (slot + 1) * 2 ^ 16
def atTask (n : Nat) : Nat := 2 ^ 10 + n * 2 ^ 11

/-- Masters of a region: CP0 to CP11, SP, EWX DMA, and CVU engines by number (R408). -/
def mmCp : Nat := 4095
def mmSp : Nat := 2 ^ 12
def mmEwx : Nat := 2 ^ 13
def mmCvu (n : Nat) : Nat := 2 ^ (16 + n)

/-- A region that the runtime sets, each by a rule write; one that holds it already is left. The supervisor pair waits
on the handshake of an earlier one. DEDUCED (log 88). -/
def State.setRegion (s : State) (r base lim attr mask : Nat) : State :=
  if s.get (Reg.rBase 0 r) = base ∧ s.get (Reg.rLim 0 r) = lim ∧ s.get (Reg.rAttr 0 r) = attr ∧ s.get (Reg.rMask 0 r) = mask
  then s
  else if (s.get (Reg.rAttr 0 r)).testBit 9 then s.mpuLocked r
  else (if s.flag Reg.mpuDrain then s.mpuDrained 0 else s).mpuCopy r base lim attr mask 0

/-- An operation with a DMA window set over it (R414), and cleared at its end. DEDUCED (log 88). -/
def State.inWindow {α : Type} (s : State) (r base lim attr mask : Nat) (f : State → α × State) : α × State :=
  let x := f (s.setRegion r base lim (attr + atEn) mask)
  (x.1, x.2.setRegion r 0 0 0 0)

/-- A task of an image that has a scratch area. -/
def scratchTask (m : Option Image) (n : Nat) : Option TaskDesc :=
  match m with
  | some g => g.tasks.find? fun d => d.task == n && decide (0 < d.scrLen)
  | none => none

/-- Regions 4 to 51: the scratch areas of a slot's image; a task without one has its region off. -/
def State.scratchRegions (s : State) (slot : Nat) (m : Option Image) : State :=
  s.each (List.range 24) fun n t =>
    match scratchTask m n with
    | some d =>
      t.setRegion (4 + 24 * slot + n) d.scr (d.scr + d.scrLen - 1)
        (atUr + atUw + atPr + atPw + atEn + atTask n + atSlot slot) mmCp
    | none => t.setRegion (4 + 24 * slot + n) 0 0 0 0

/-- Numbers of the DMA windows (R414). DEDUCED (log 88). -/
def winCan : Nat := 58
def winSync : Nat := 59
def winCvu : Nat := 60

/-- Regions 0 to 3, locked in BOOT, and 52 to 57. DEDUCED (log 88). -/
def State.fixedRegions (s : State) : State :=
  let s1 := (s.setRegion 0 0x2000000 0x20BFFFF (atPr + atPx + atEn + atLock) (mmSp + mmCvu 0)).setRegion 1 0x8060000 0x8060FFF
    (atPr + atPw + atEn + atLock) mmSp
  let s2 := (s1.setRegion 2 0x8040000 0x8057FFF (atPr + atPw + atEn + atLock) (mmSp + mmEwx + mmCvu 0)).setRegion 3 0x8200000
    0x83FFFFF (atPr + atPw + atEn + atLock) (mmSp + mmEwx + mmCvu 1)
  s2.each [0, 1] fun k t =>
    let d := dataBank k
    let r := retBank k
    let rw := atUr + atUw + atPr + atPw + atEn + atSlot k
    let t1 := t.setRegion (52 + k) d.1 (d.1 + d.2 - 1) rw (mmCp + mmSp + mmEwx + mmCvu 2 + mmCvu 3)
    let t2 := t1.setRegion (54 + k) r.1 (r.1 + r.2 - 1) rw (mmCp + mmSp + mmEwx + mmCvu 0)
    t2.setRegion (56 + k) (slotBase k) (slotBase k + 2097151) (atUr + atUx + atPr + atEn + atSlot k) (mmCp + mmSp + mmCvu 0)

end Sys2Proof.Machine
end

