-- ==== Sys2Proof/Machine/TmbOps.lean ====
section
/-! DEFINITION. The time base (R334 to R346): ticks, rate, steps, state and servos. -/

namespace Sys2Proof.Machine

/-- Seconds and nanoseconds moved by a signed number of ns. -/
def moveTime (sec ns : Nat) (d : Int) : Nat × Nat :=
  let t := (sec : Int) * 1000000000 + ns + d
  (t.toNat / 1000000000 % 2 ^ 48, t.toNat % 1000000000)

/-- Signed RATE (R336). -/
def State.rate (s : State) : Int := (BitVec.ofNat 32 (s.get Reg.tmbRate)).toInt

/-- The hold-up clock value of a time, in 1/32768 s. -/
def holdOf (sec ns : Nat) : Nat := sec * 32768 + ns * 32768 / 1000000000

/-- One tick of the 1 GHz counter (R336): 1 ns + RATE × 2^-40 ns, with carry and borrow from the 40-bit fraction; the
hold-up crystal runs beside it and is reloaded at each change of S (R339). DESIGN CHOICE (log 2). -/
def Tmb.tick (t : Tmb) (rate : Int) : Tmb :=
  let acc : Int := (t.frac * 2 ^ 24 + t.residue : Nat) + rate
  let carry : Int := acc / 2 ^ 40
  let low := (acc % 2 ^ 40).toNat
  let a := moveTime t.sec t.ns (1 + carry)
  let b := moveTime t.copySec t.copyNs (1 + carry)
  let part := t.holdPart + 32768
  let hold := if part < 1000000000 then t.hold else t.hold + 1
  { t with sec := a.1, ns := a.2, copySec := b.1, copyNs := b.2, frac := low / 2 ^ 24, residue := low % 2 ^ 24,
           prev := ((t.sec : Int) + 378691200) * 1000000000 + t.ns, raw := t.raw + 1, run := t.run + (1 + carry).toNat, upTicks := t.upTicks + 1,
           holdPart := if part < 1000000000 then part else part - 1000000000,
           hold := if a.1 = t.sec then hold else holdOf a.1 a.2 }

/-- The time base set to a time; nothing is matched by the move. -/
def Tmb.setTime (t : Tmb) (sec ns : Nat) : Tmb :=
  { t with sec := sec, ns := ns, copySec := sec, copyNs := ns, hold := holdOf sec ns, holdPart := 0,
           prev := ((sec : Int) + 378691200) * 1000000000 + ns }

/-! State and lock (R339) -/

/-- In lock by the table of R339. -/
def State.lockNow (s : State) : Bool :=
  let st := s.get Reg.tmbState
  st == 2 || (st == 4 && s.tmb.pairLocked && (match s.link.hb with | some h => h.inlock | none => false))

/-- The lock flag follows; its changes are shown in status point 0xFF02. -/
def State.refreshLock (s : State) : State := if s.flag Reg.tmbLock == s.lockNow then s else s.setLock s.lockNow

def State.setTimeState (s : State) (st : Nat) : State :=
  if s.get Reg.tmbState = st then s.refreshLock
  else ((s.set Reg.tmbState st).event .timeState [st]).refreshLock

/-- A write of TMB.RATE (R336): outside ±500 ppm it is ignored and counted. -/
def State.rateWrite (s : State) (w : Nat) : State :=
  let v := (BitVec.ofNat 32 w).toInt
  if v < -549755813 ∨ 549755813 < v then s.incSat Reg.tmbRateref else s.set Reg.tmbRate w

/-- A servo changes RATE by at most 50 ppm per second (R342), from its first offset on. DESIGN CHOICE (log 81). -/
def State.steer (s : State) (offset : Int) : State :=
  let lim : Int := match s.ptp.rateAt with | some t => 54975581 * min 1000000000 (s.tmb.run - t) / 1000000000 | none => 0
  let v := max (s.rate - lim) (min (s.rate + lim) (Config.servoRate offset s.rate))
  let w := max (-549755813) (min 549755813 v)
  { s.rateWrite (BitVec.ofInt 32 w).toNat with ptp := { s.ptp with rateAt := some s.tmb.run } }

/-! Steps (R345, R346) -/

/-- Frames with a launch time are discarded and counted (R346, R377). -/
def State.discardLaunches (s : State) : State :=
  let k := (s.net.queue0 ++ s.net.queue1).filter (fun f => f.launch.isSome)
  let s1 := { s with net := { s.net with
    queue0 := s.net.queue0.filter (fun f => f.launch.isNone), queue1 := s.net.queue1.filter (fun f => f.launch.isNone) } }
  (s1.addSat Reg.tmbDisc k.length).each (List.range 16) fun n t =>
    let r := t.canDiscard n
    r.1.addSat Reg.tmbDisc r.2

/-- The boundary of an armed set is chosen anew after a step: the search goes on, its horizon counted in elapsed time and
its earliest instant kept (R346). DEDUCED (log 44). -/
def State.moveSearch (s : State) (d : Int) : State :=
  let s1 := if s.get Reg.weirState = 2 then s.weirTo 1 else s
  { s1 with
    drv := { s1.drv with searchAt := s1.drv.searchAt.map fun t => t + d, window := none, decision := none }
    tarn := { s1.tarn with prepared := false } }

/-- A step at one tick: S and N move, F and the residue stay, the hold-up clock is reloaded; the servos forget the
offsets measured before it, and what a step would falsify of a measurement under way (R342). DESIGN CHOICE (log 81). -/
def State.stepTime (s : State) (d : Int) (case client : Nat) : State :=
  let t := moveTime s.tmb.sec s.tmb.ns d
  let tb := s.tmb.setTime t.1 t.2
  let s0 := if s.tarn.state = 3 then s.moveSearch d else s
  let s1 := { s0 with tmb := { tb with good := 0, bad := 0, fromMaster := 0, lastOffset := none, pairGood := 0, pairBad := 0, pairOff := none },
                      ptp := { s0.ptp with lastSync := [], reqs := [], twoStep := [] } }
  let s2 := ((s1.discardLaunches.set Reg.tmbStepped 1).incSat Reg.tmbSteps).event .stepMade [d, case, client]
  if case = 3 then s2.set Reg.tmbArmed 0 else s2

/-- A join can align the time base (R345): in ISOLATED beside a partner in control, with a pair offset above 1 µs.
DESIGN CHOICE (log 81). -/
def State.alignable (s : State) : Bool :=
  s.mode == mIsolated && (s.partnerMode == mPrimary || s.partnerMode == mSolo) &&
    (match s.tmb.pairOff with | some o => decide (1000 < o.natAbs) | none => false)

/-- TMB.STEPCTL with GO (R345): the hardware checks mode and case. -/
def State.stepGo (s : State) (case client : Nat) : State :=
  let ok := (s.mode == mBoot || s.mode == mIsolated) &&
    ((case == 2 && s.alignable) || (case == 1 && !s.flag Reg.tmbStepped) || (case == 3 && s.flag Reg.tmbArmed))
  if ok then s.stepTime (s.getHalves Reg.tmbStepl Reg.tmbSteph) case client
  else
    let s1 := (s.set Reg.stepRefused 1).event .stepRefused [case]
    { s1 with ptp := { s1.ptp with stepsRefused := s1.ptp.stepsRefused + 1 } }

/-- The runtime's step: the amount into STEPH and STEPL, then GO. -/
def State.runtimeStep (s : State) (d : Int) (case client : Nat) : State :=
  (s.setHalves Reg.tmbStepl Reg.tmbSteph d).stepGo case client

/-! Servos -/

/-- The module steers by its pair servo in SYNC and STANDBY (R341). -/
def State.pairSource (s : State) : Bool := s.mode == mSync || s.mode == mStandby

/-- One offset to the partner (R344): locked after 16 within the lock threshold, unlocked after 4 beyond the unlock
threshold. DEDUCED (log 125). -/
def State.pairOffset (s : State) (off : Int) : State :=
  let t := s.tmb
  let good := if off.natAbs ≤ s.live.aLock then t.pairGood + 1 else 0
  let bad := if s.live.aUnlock < off.natAbs then t.pairBad + 1 else 0
  let locked := if t.pairLocked then decide (bad < 4) else decide (16 ≤ good)
  let s1 := ({ s with tmb := { t with pairGood := good, pairBad := bad, pairLocked := locked, pairOff := some off } }).set Reg.pairofs (satI32 off)
  if !s.pairSource then s1
  else
    let s2 := s1.steer off
    let s3 := if locked then s2 else s2.set Reg.tmbPairfar 1
    let s4 := if t.pairLocked && !locked then s3.event .pairServo [off] else s3
    s4.refreshLock

/-- One offset from the master (R341, R342): qualified from the fifth on from one master. In SYNC and STANDBY it is
measured and reported only. DESIGN CHOICE (log 81). -/
def State.masterOffset (s : State) (master : Nat) (off : Int) (delayKnown : Bool) : State :=
  let t := s.tmb
  let n := if t.master = master then t.fromMaster + 1 else 1
  let qual := decide (5 ≤ n) && delayKnown
  let s1 := ({ s with tmb := { t with master := master, fromMaster := n } }).set Reg.ptpOfs (satI32 off)
  if !qual then s1
  else
    let thr := s.cfgNat 0x3400 0x10 10000
    let first := !s.flag Reg.tmbStepped && t.qualMaster.isNone
    let changed := t.qualMaster.isSome && t.qualMaster != some master
    let s1 := { s1 with tmb := { s1.tmb with qualMaster := some master } }
    let place := s.mode == mBoot || s.mode == mIsolated
    if place && s.flag Reg.tmbArmed then s1.runtimeStep (-off) 3 t.armClient
    else if place && first && decide (thr ≤ off.natAbs) then s1.runtimeStep (-off) 1 0
    else
      let good := if off.natAbs ≤ s.live.aLock then t.good + 1 else 0
      let bad := if s.live.aUnlock < off.natAbs then t.bad + 1 else 0
      let s2 := { s1 with tmb := { s1.tmb with good := good, bad := bad, lastOffset := some off } }
      if s.pairSource then s2
      else
        let s3 := s2.steer off
        let st := s3.get Reg.tmbState
        if st = 2 then
          if 4 ≤ bad ∨ (changed = true ∧ s.live.aUnlock < off.natAbs) then s3.setTimeState 3 else s3
        else if 16 ≤ good then s3.setTimeState 2 else s3

/-- The source follows the mode (R339, R341): PAIR in SYNC and STANDBY; on leaving them for control the shadow offset
decides; otherwise HOLDOVER until the own servo locks. DEDUCED (log 125). -/
def State.tmbOnMode (s : State) (m0 m1 : Nat) : State :=
  let p0 := m0 == mSync || m0 == mStandby
  let p1 := m1 == mSync || m1 == mStandby
  let s1 := if m0 = mIsolated then s.set Reg.tmbArmed 0 else s
  if p1 && !p0 then
    ((({ s1 with tmb := { s1.tmb with lastOffset := none, pairGood := 0, pairBad := 0, pairLocked := false } }).setTimeState 4).set
      Reg.tmbPairfar 1).event .pairServo [0]
  else if p0 && !p1 then
    let within := match s.tmb.lastOffset with
      | some o => decide (o.natAbs ≤ s.live.aUnlock)
      | none => false
    s1.setTimeState (if (m1 = mPrimary ∨ m1 = mSolo) ∧ within = true then 2 else 3)
  else s1

end Sys2Proof.Machine
end

