-- ==== Sys2Proof/Machine/PtpOps.lean ====
section
/-! DEFINITION. PTP (R347 to R352): messages, masters, port states, offsets and path delays. Message and frame layouts,
the best master clock algorithm and the port states are those of IEEE 1588-2019, which R347 names. -/

namespace Sys2Proof.Machine

/-- The number that `n` bytes from an offset spell, most significant first. -/
def beNat (b : Bytes) (o n : Nat) : Nat := leNat ((b.drop o).take n).reverse

/-! Messages -/

/-- messageType: 0 Sync, 1 Delay_Req, 2 Pdelay_Req, 3 Pdelay_Resp, 8 Follow_Up, 9 Delay_Resp, 10 Pdelay_Resp_Follow_Up,
11 Announce, 12 Signaling, 13 Management. -/
def ptpType (m : Bytes) : Nat := beNat m 0 1 % 16

/-- Length of a message of a type without TLVs. -/
def ptpLen (ty : Nat) : Nat :=
  if ty = 11 then 64 else if ty = 2 ∨ ty = 3 ∨ ty = 9 ∨ ty = 10 then 54 else if ty = 0 ∨ ty = 1 ∨ ty = 8 then 44 else 34

/-- correctionField, in 2^-16 ns. -/
def ptpCorr (m : Bytes) : Int := (BitVec.ofNat 64 (beNat m 8 8)).toInt

/-- A correction in whole ns. -/
def corrNs (c : Int) : Int := c / 65536

/-- A timestamp field as a TIME (R335). -/
def ptpTime (m : Bytes) (o : Nat) : Int := ((beNat m o 6 : Int) + 378691200) * 1000000000 + beNat m (o + 6) 4

/-- A TIME as the 10 bytes of a timestamp field. -/
def ptpStamp (t : Int) : Bytes :=
  (leBytes 6 (t / 1000000000 - 378691200).toNat).reverse ++ (leBytes 4 (t % 1000000000).toNat).reverse

def ptpSrc (m : Bytes) : Nat := beNat m 20 10
def ptpSeq (m : Bytes) : Nat := beNat m 30 2
def ptpTwoStep (m : Bytes) : Bool := (beNat m 6 1).testBit 1

/-- A clockIdentity from a MAC address, and the own one, from the address of NET0 (R349); the identity of a port. -/
def clockOf (mac : Nat) : Nat := mac / 2 ^ 24 * 2 ^ 40 + (0xFFFE * 2 ^ 24 + mac % 2 ^ 24)
def clockId : Nat := clockOf (Config.macBase % 2 ^ 48)
def portId (p : Nat) : Nat := clockId * 65536 + p + 1

/-- TLVs after a message's body that R348 does not support: alternate timescales, authentication. PRESUMED (log 80). -/
def badTlvs : Nat → Bytes → Nat
  | 0, _ => 0
  | fuel + 1, b =>
    if b.length < 4 then 0
    else
      let ty := beNat b 0 2
      (if ty = 0x0009 ∨ ty = 0x8009 then 1 else 0) + badTlvs fuel (b.drop (4 + beNat b 2 2))

/-- A message that this clock reads: PTP version 2, own domain, whole. PRESUMED (log 80). -/
def State.ptpReads (s : State) (m : Bytes) : Bool :=
  s.flag Reg.ptpEn && beNat m 0 1 / 16 == 0 && beNat m 1 1 % 16 == 2 && beNat m 4 1 == s.get Reg.ptpDomain
    && decide (ptpLen (ptpType m) ≤ m.length)

def State.ptpDiscard (s : State) (n : Nat) : State := { s with ptp := { s.ptp with discarded := s.ptp.discarded + n } }

/-- Where the PTP message of an Ethernet frame begins, if it carries one (R347): EtherType 0x88F7, or UDP port 319 or 320. -/
def ptpAt (f : Bytes) : Option Nat :=
  let o := if beNat f 12 2 = 0x8100 then 16 else 12
  if beNat f o 2 = 0x88F7 then some (o + 2)
  else if beNat f o 2 = 0x0800 ∧ beNat f (o + 11) 1 = 17 ∧ (beNat f (o + 24) 2 = 319 ∨ beNat f (o + 24) 2 = 320) then some (o + 30)
  else none

/-! Settings -/

/-- 2 to a signed power, of 1 s, in ns. -/
def logNs (k : Int) : Nat := if k < 0 then 1000000000 / 2 ^ k.natAbs else 1000000000 * 2 ^ k.natAbs

def State.logSync (s : State) : Int := (BitVec.ofNat 32 (s.cfgNat 0x3400 1 0xFFFFFFFF)).toInt
def State.logAnnounce (s : State) : Int := (BitVec.ofNat 32 (s.cfgNat 0x3400 2 1)).toInt
def State.logDelay (s : State) : Int := (BitVec.ofNat 32 (s.cfgNat 0x3400 3 0)).toInt
def State.syncNs (s : State) : Nat := logNs s.logSync
def State.announceNs (s : State) : Nat := logNs s.logAnnounce

/-- delayAsymmetry in effect (R351). -/
def State.asym (s : State) (p : Nat) : Int := (BitVec.ofNat 32 (s.get (Reg.ptpAsym p))).toInt

/-- A received timestamp brought to the contacts and beyond them (R350, R351). -/
def State.rxStamp (s : State) (p : Nat) (raw : Int) : Int := raw - s.get (Reg.ptpCorRx p) - s.get (Reg.ptpExtRx p)

/-- Now as the timestamp of a departing frame: departure is at the contacts (R353). -/
def State.txStamp (s : State) (p : Nat) : Int := s.now + s.get (Reg.ptpExtTx p)

/-! Masters and port states (R342, R347, R349) -/

/-- Earlier in the order of the best master clock algorithm. PRESUMED (log 80). -/
def rankLt : List Nat → List Nat → Bool
  | a :: l, b :: m => decide (a < b) || (a == b && rankLt l m)
  | _, _ => false

def bestOf : List Master → Option Master
  | [] => none
  | m :: l =>
    match bestOf l with
    | some b => if rankLt b.rank m.rank then some b else some m
    | none => some m

/-- PRESUMED (log 80). -/
def State.qualified (s : State) : List Master := s.ptp.masters.filter fun m => m.qual
/-- PRESUMED (log 80). -/
def State.bestMaster (s : State) : Option Master := bestOf s.qualified

/-- Own data: clockClass 248 (R349). -/
def State.ownRank (s : State) : List Nat :=
  [s.cfgNat 0x2400 0x0A 128, 248, Config.ptpAccuracy.toNat, Config.ptpVariance.toNat, s.cfgNat 0x2400 0x0B 128, clockId, 0, clockId]

/-- Own clock is the better one, and the role lets it be a master. -/
def State.ownBetter (s : State) : Bool :=
  s.get Reg.ptpRole != 0 && (match s.bestMaster with | some m => rankLt s.ownRank m.rank | none => true)

def gmOf (m : Master) : Nat := m.rank.getD 5 0

/-- stepsRemoved of a master's Announce. -/
def stepsOf (m : Master) : Nat := m.rank.getD 6 0

/-- The best master is better by topology than the best one of another port: the same grandmaster, and not more than a step
nearer (IEEE 1588-2019). PRESUMED (log 80). -/
def topoBetter (a b : Master) : Bool :=
  gmOf a == gmOf b && (stepsOf a == stepsOf b || (stepsOf b == stepsOf a + 1 && decide (b.ident / 65536 < clockId)))

/-- The port is to become master beside a better clock on the other port: a boundary clock's, unless that clock is better
only by topology than the best one heard here. PRESUMED (log 80). -/
def State.relayPort (s : State) (p : Nat) : Bool :=
  s.flag Reg.ptpEn && !s.ownBetter && s.get Reg.ptpRole == 2 &&
    (match s.bestMaster with
     | none => false
     | some b => b.port != p && (match bestOf (s.qualified.filter fun m => m.port == p) with
       | some e => !topoBetter b e
       | none => true))

/-- The qualification time of such a port has passed: as many announce intervals as its steps from the grandmaster, and one.
PRESUMED (log 80). -/
def State.relayReady (s : State) (p : Nat) : Bool :=
  match s.bestMaster, SMap.find s.ptp.preAt p with
  | some b, some t => decide (t + (stepsOf b + 1) * s.announceNs ≤ s.tmb.run)
  | _, _ => false

/-- portState of a port: 1 INITIALIZING, 4 LISTENING, 5 PRE_MASTER, 6 MASTER, 7 PASSIVE, 8 UNCALIBRATED, 9 SLAVE.
PRESUMED (log 80). -/
def State.portState (s : State) (p : Nat) : Nat :=
  if !s.flag Reg.ptpEn then 1
  else if s.ownBetter then (if s.inControl then 6 else 7)
  else
    match s.bestMaster with
    | none => 4
    | some b =>
      if b.port = p then (if s.tmb.master = b.ident ∧ 5 ≤ s.tmb.fromMaster then 9 else 8)
      else if s.get Reg.ptpRole = 0 then 4
      else if !s.relayPort p ∨ !s.inControl then 7
      else if s.relayReady p then 6 else 5

/-- Since when the ports are to become masters beside a better clock. -/
def State.notePre (s : State) : State :=
  let at_ (m : SMap Nat) (p : Nat) : SMap Nat :=
    if s.relayPort p && s.inControl then (if (SMap.find m p).isSome then m else SMap.set m p s.tmb.run) else SMap.erase m p
  { s with ptp := { s.ptp with preAt := at_ (at_ s.ptp.preAt 0) 1 } }

/-- Port states, grandmaster and currentUtcOffset follow (R357). -/
def State.ptpDecide (s0 : State) : State :=
  let s := s0.notePre
  let gm := if s.ownBetter then (if s.inControl then clockId else 0) else match s.bestMaster with | some b => gmOf b | none => 0
  let utc := match s.bestMaster with | some b => if s.ownBetter then (0, false) else (b.utc, b.utcValid) | none => (0, false)
  let old := s.get Reg.ptpGml + s.get Reg.ptpGmh * 2 ^ 32
  let s1 := (s.set (Reg.ptpPort 0) (s.portState 0)).set (Reg.ptpPort 1) (s.portState 1)
  let s2 := (s1.set Reg.ptpGml gm).set Reg.ptpGmh (gm / 2 ^ 32)
  let s3 := (s2.set Reg.ptpUtc utc.1).setFlag Reg.ptpUtcValid utc.2
  if old = gm then s3 else s3.event .ptpMaster [gm]

/-- The ports follow the mode (R349). -/
def State.ptpOnMode (s : State) : State := if s.flag Reg.ptpEn then s.ptpDecide else s

/-- A frame that only a port in MASTER sends: Sync, Delay_Resp, Announce. -/
def ptpByMaster (f : Bytes) : Bool :=
  match ptpAt f with
  | some o => ptpType (f.drop o) == 0 || ptpType (f.drop o) == 9 || ptpType (f.drop o) == 11
  | none => false

/-- An Announce message: two within four announce intervals qualify its sender; one with ptpTimescale FALSE, with 255
steps or more, or from this clock does not (R348). -/
def State.ptpAnnounce (s : State) (p : Nat) (m : Bytes) : State :=
  let src := ptpSrc m
  let same (x : Master) : Bool := x.port == p && x.ident == src
  let rest := s.ptp.masters.filter fun x => !same x
  if src / 65536 = clockId then s
  else if !(beNat m 7 1).testBit 3 ∨ 255 ≤ beNat m 61 2 then ({ s with ptp := { s.ptp with masters := rest } }).ptpDecide
  else
    let q := match s.ptp.masters.find? same with
      | some x => x.qual || decide (s.now ≤ x.at_ + 4 * s.announceNs)
      | none => false
    let x : Master :=
      { port := p, ident := src, source := beNat m 63 1, utc := beNat m 44 2, utcValid := (beNat m 7 1).testBit 2, at_ := s.now,
        qual := q,
        rank := [beNat m 47 1, beNat m 48 1, beNat m 49 1, beNat m 50 2, beNat m 52 1, beNat m 53 8, beNat m 61 2, src] }
    ({ s with ptp := { s.ptp with masters := rest ++ [x] } }).ptpDecide

/-- Announce receipt timeout on a port (R342). -/
def State.ptpTimeout (s : State) (p : Nat) : State :=
  let lim : Int := s.cfgNat 0x3400 4 3 * s.announceNs
  let gone (x : Master) : Bool := x.port == p && s.due (x.at_ + lim)
  if !s.ptp.masters.any gone then s
  else
    let s1 := { s with ptp := { s.ptp with masters := s.ptp.masters.filter fun x => !gone x, timeouts := s.ptp.timeouts + 1 } }
    let s2 := if s1.qualified.isEmpty then { s1 with tmb := { s1.tmb with lastOffset := none } } else s1
    (if s2.qualified.isEmpty ∧ s2.get Reg.tmbState = 2 then s2.setTimeState 3 else s2).ptpDecide

/-! Offsets and delays (R342, R350, R351) -/

/-- The message comes from the master that the port follows. -/
def State.fromParent (s : State) (p : Nat) (m : Bytes) : Bool :=
  !s.ownBetter && (match s.bestMaster with | some b => b.port == p && b.ident == ptpSrc m | none => false)

/-- Key of the path delay: the master, or with peer delay the port's link. -/
def State.delayKey (s : State) (p ident : Nat) : Nat := if s.get Reg.ptpProfile = 1 then 2 ^ 80 + p else ident

def State.setDelay (s : State) (k : Nat) (d : Int) : State :=
  ({ s with ptp := { s.ptp with delays := (k, d) :: s.ptp.delays.filter fun e => e.1 != k } }).set Reg.ptpMpd (satI32 d)

/-- Receive instant minus origin, without the path delay. DESIGN CHOICE (log 81). -/
def State.ptpDiff (s : State) (p ident : Nat) (d : Int) : State :=
  let s1 := { s with ptp := { s.ptp with lastSync := (ident, d) :: s.ptp.lastSync.filter fun e => e.1 != ident } }
  let s2 := match s.ptp.delays.find? fun e => e.1 == s.delayKey p ident with
    | some e => s1.masterOffset ident (d - e.2) true
    | none => s1.masterOffset ident d false
  s2.ptpDecide

def State.setTwoStep (s : State) (p ident seq : Nat) (v : Int) : State :=
  { s with ptp := { s.ptp with twoStep := (p, ident, seq, v) :: s.ptp.twoStep.filter fun e => !(e.1 == p && e.2.1 == ident) } }

def State.takeTwoStep (s : State) (p ident seq : Nat) : Option Int :=
  (s.ptp.twoStep.find? fun e => e.1 == p && e.2.1 == ident && e.2.2.1 == seq).map fun e => e.2.2.2

/-- Sync, one-step or two-step. -/
def State.ptpSync (s : State) (p : Nat) (m : Bytes) (t : Int) : State :=
  let s1 := { s with ptp := { s.ptp with syncs := SMap.set s.ptp.syncs p (SMap.get 0 s.ptp.syncs p + 1) } }
  let t2 := t - corrNs (ptpCorr m) - s.asym p
  if !s.fromParent p m then s1
  else if ptpTwoStep m then s1.setTwoStep p (ptpSrc m) (ptpSeq m) t2
  else s1.ptpDiff p (ptpSrc m) (t2 - ptpTime m 34)

def State.ptpFollowUp (s : State) (p : Nat) (m : Bytes) : State :=
  match s.takeTwoStep p (ptpSrc m) (ptpSeq m) with
  | some t2 => if s.fromParent p m then s.ptpDiff p (ptpSrc m) (t2 - ptpTime m 34 - corrNs (ptpCorr m)) else s
  | none => s

/-- Delay_Resp to an own Delay_Req: the mean of both directions. -/
def State.ptpDelayResp (s : State) (p : Nat) (m : Bytes) : State :=
  let req := s.ptp.reqs.find? fun e => e.1 == p && e.2.1 == ptpSeq m
  let sync := s.ptp.lastSync.find? fun e => e.1 == ptpSrc m
  match req, sync with
  | some r, some y =>
    if beNat m 44 10 ≠ portId p ∨ !s.fromParent p m ∨ s.get Reg.ptpProfile ≠ 0 then s
    else s.setDelay (ptpSrc m) ((y.2 + (ptpTime m 34 - corrNs (ptpCorr m) - r.2.2)) / 2)
  | _, _ => s

/-- Pdelay_Resp to an own Pdelay_Req: half the round trip less the turnaround; delayAsymmetry, which the request carried with
its sign changed, is added to the correction (R351). -/
def State.ptpPdelayResp (s : State) (p : Nat) (m : Bytes) (t : Int) : State :=
  match s.ptp.reqs.find? fun e => e.1 == p && e.2.1 == ptpSeq m with
  | some r =>
    let trip := t - r.2.2 - corrNs (ptpCorr m) - s.asym p
    if beNat m 44 10 ≠ portId p ∨ s.get Reg.ptpProfile ≠ 1 then s
    else if ptpTwoStep m then s.setTwoStep p (2 ^ 80 + p) (ptpSeq m) (trip + ptpTime m 34)
    else s.setDelay (2 ^ 80 + p) (trip / 2)
  | none => s

def State.ptpPdelayFollowUp (s : State) (p : Nat) (m : Bytes) : State :=
  match s.takeTwoStep p (2 ^ 80 + p) (ptpSeq m) with
  | some v => if beNat m 44 10 = portId p then s.setDelay (2 ^ 80 + p) ((v - ptpTime m 34 - corrNs (ptpCorr m)) / 2) else s
  | none => s

/-! Sending -/

/-- A message header (IEEE 1588-2019) with its body. -/
def State.ptpMsg (s : State) (p ty flags : Nat) (corr : Int) (seq : Nat) (ctl : Nat) (log : Int) (body : Bytes) : Bytes :=
  let be (n v : Nat) : Bytes := (leBytes n v).reverse
  leBytes 1 ty ++ [0x12#8] ++ be 2 (34 + body.length) ++ leBytes 1 (s.get Reg.ptpDomain) ++ [0#8] ++ be 2 flags
    ++ be 8 (BitVec.ofInt 64 corr).toNat ++ be 4 0 ++ be 10 (portId p) ++ be 2 seq ++ leBytes 1 ctl
    ++ leBytes 1 (BitVec.ofInt 8 log).toNat ++ body

/-- `n` bytes of a frame replaced from an offset on. -/
def putBytes (f : Bytes) (o : Nat) (b : Bytes) : Bytes := f.take o ++ b ++ f.drop (o + b.length)

/-- What the MAC inserts as a frame departs, and the transmit times that it notes (R350, R352). A Pdelay_Resp waits in its
queue with the receive timestamp in its first body field; it departs with 0 there and the turnaround in correctionField.
DEDUCED (log 82). -/
def State.ptpDepart (s : State) (p : Nat) (f : Bytes) : Bytes × State :=
  match ptpAt f with
  | none => (f, s)
  | some o =>
    let m := f.drop o
    let t := s.txStamp p
    let be8 (c : Int) : Bytes := (leBytes 8 (BitVec.ofInt 64 c).toNat).reverse
    let note (u : State) : State :=
      { u with ptp := { u.ptp with reqs := (p, ptpSeq m, t) :: u.ptp.reqs.filter fun e => e.1 != p } }
    match ptpType m with
    | 0 => (putBytes (putBytes f (o + 34) (ptpStamp t)) (o + 8) (be8 (ptpCorr m + s.tmb.frac)), s)
    | 1 => (f, note s)
    | 2 => (f, note s)
    | 3 =>
      (putBytes (putBytes f (o + 34) (List.replicate 10 0#8)) (o + 8)
        (be8 (ptpCorr m + (t - ptpTime m 34) * 65536 + s.tmb.frac)), s)
    | 9 => (putBytes f (o + 8) (be8 (ptpCorr m + s.tmb.frac)), s)
    | _ => (f, s)

/-- A frame whose insertion R352 can abort. -/
def ptpInserts (f : Bytes) : Bool :=
  match ptpAt f with
  | some o => ptpType (f.drop o) == 0 || ptpType (f.drop o) == 3 || ptpType (f.drop o) == 9
  | none => false

end Sys2Proof.Machine
end

