-- ==== Sys2Proof/Machine/ModeOps.lean ====
section
/-! DEFINITION. Mode transitions (R33 to R39): which are allowed, and everything that a change of mode does at once in
the other blocks. -/

namespace Sys2Proof.Machine

/-! What is pending at the Weir or in an exchange -/

/-- The runtime withdraws a boundary search (R514): ARM 0, STATE 0. -/
def State.weirWithdraw (s : State) : State :=
  if s.flag Reg.weirArm then
    let s1 := (s.set Reg.weirArm 0).weirTo 0
    { s1 with drv := { s1.drv with searchAt := none, window := none, decision := none } }
  else s

def State.setTarn (s : State) (f : Tarn → Tarn) : State := { s with tarn := f s.tarn }

/-- The set is discarded with a last result (R295, R296, R302). -/
def State.tarnDrop (s : State) (result : Nat) : State :=
  let s1 := if s.tarn.state = 3 then s.weirWithdraw else s
  (s1.setTarn fun t =>
    { t with state := 0, entries := [], last := result, checkAt := none, passed := false, written := false,
             prepared := false }).event .setDiscarded [result, s.tarn.client]

/-- The Tarn at a change of mode (R295, R302). -/
def State.tarnOnMode (s : State) (num m0 m1 : Nat) : State :=
  let open_ := s.tarn.state == 1 && (m1 == mSync || m1 == mStandby || m1 == mSafe)
  let any := s.tarn.state != 0 && m1 == mSafe
  let left := decide (2 ≤ s.tarn.state) && m0 == mStandby && !(num == 11 || num == 12 || num == 13)
  if open_ || any || left then s.tarnDrop 4
  else if s.tarn.state == 2 && (num == 12 || num == 13 || num == 16) then s.setTarn fun t => { t with alone := true }
  else s

/-- The program slot that is not active (R171). -/
def State.activeSlot (s : State) : Nat := s.get Reg.xchActive
def State.idleSlot (s : State) : Nat := 1 - s.activeSlot

/-- The five written words of a retentive bank header with its reserved words and check (R193). -/
def headerWords (ident seq len state : Nat) (t : Int) : List TW :=
  let l := [wUint ident, wUint seq, wUint len, wUint state, wTime t] ++ List.replicate 10 (wUint 0)
  l ++ [wUint (crc 2 (valueBytes l))]

/-- Write a bank header now. -/
def State.putHeader (s : State) (slot ident seq len state : Nat) : State :=
  s.setWords (retBank slot).1 (headerWords ident seq len state s.now)

/-- A header word as it was last written. -/
def State.headerWord (s : State) (slot i : Nat) : Nat := (s.word ((retBank slot).1 + i)).val.toNat

/-- A header returns to STATE invalid, its other fields written again as the runtime last wrote them, with no read of the bank.
DEDUCED (log 55). -/
def State.headerInvalid (s : State) (slot : Nat) : State :=
  s.putHeader slot (s.headerWord slot 0) (s.headerWord slot 1) (s.headerWord slot 2) 0

/-- `XCH.STAT.STATE`, and an error in `XCH.STAT.ERR`, which holds the last one. DEDUCED (log 51). -/
def State.setXch (s : State) (st err : Nat) : State :=
  let s1 := s.set Reg.xchState st
  if err = 0 then s1 else s1.set Reg.xchErr err

/-- An exchange or rollback ends without effect on the active slot (R190). -/
def State.endExchange (s : State) (err : Nat) : State :=
  match s.xch.exch with
  | none => s
  | some _ =>
    let s1 := ({ s with xch := { s.xch with exch := none } }).headerInvalid s.idleSlot
    (s1.weirWithdraw.setXch 11 err).event .exchangeEnded [err]

/-- The yearling run is aborted (R184). -/
def State.endTrial (s : State) : State :=
  let st := s.get Reg.xchState
  if st = 4 ∨ st = 5 then
    let s1 := { s with xch := { s.xch with trial := [], take := none, takeAt := none },
                       drv := { s.drv with tasks := SMap.eraseRange s.drv.tasks 32 56 } }
    (s1.set Reg.xchState 10).event .trialEnded [0]
  else s

/-- A slot holds no loaded image (R175). -/
def State.emptySlot (s : State) (slot : Nat) : State :=
  let v := if slot = 0 then Reg.xchAvalid else Reg.xchBvalid
  let s1 := ((s.set v 0).set (Reg.xchId (2 * slot)) 0).set (Reg.xchId (2 * slot + 1)) 0
  ({ s1 with xch := if slot = 0 then { s1.xch with imgA := none } else { s1.xch with imgB := none } }).scratchRegions slot none

/-- Device identity, 16 bytes (R285). -/
def State.deviceId (s : State) : Bytes :=
  leBytes 4 (s.get (Reg.lcsId 0)) ++ leBytes 4 (s.get (Reg.lcsId 1)) ++ leBytes 4 (s.get (Reg.lcsId 2))
    ++ leBytes 4 (s.get (Reg.lcsId 3))

/-- Hardware issue C (R258). -/
def hwIssue : Nat := 0x43

/-- The firmware manifest of the running slot (R258). -/
def State.ownManifest (s : State) : Bytes :=
  let b := (if s.get Reg.bootFwslot = 0 then s.lcs.fw0 else s.lcs.fw1).take 48
  b ++ List.replicate (48 - b.length) 0#8

/-- The identity of the image in a slot. -/
def State.slotIdent (s : State) (slot : Nat) : Nat := s.get (Reg.xchId (2 * slot)) + s.get (Reg.xchId (2 * slot + 1)) * 2 ^ 32

/-- A MANIFEST frame (R234, R259). -/
def State.sendManifest (s : State) : State :=
  let w := hwIssue + s.get Reg.splitMask * 2 ^ 8 + s.get Reg.xchActive * 2 ^ 20 + s.get Reg.xchAvalid * 2 ^ 21
    + s.get Reg.xchBvalid * 2 ^ 22
  s.sendFrame ftManifest 0 false (packWords 0xC4#8 s.ownManifest ++
    [wBits w, wUint (s.slotIdent 0), wUint (s.slotIdent 1)] ++ packWords 0xC4#8 s.deviceId)

/-- A load fails (R175): an error code, and what the record says beside it (R153). -/
def State.loadFailAt (s : State) (err : Nat) (more : List Int) : State :=
  let s1 := ({ s with xch := { s.xch with loadAt := none, ran := false } }).emptySlot s.idleSlot
  ((s1.setXch 12 err).event .loadResult ((err : Int) :: more)).sendManifest

def State.loadFail (s : State) (err : Nat) : State := s.loadFailAt err []

/-- `XCH.SLOT.FREE` (R192): no rollback slot and no transfer, on the standby of the image that its partner hands on. -/
def State.showFree (s : State) : State :=
  let busy := (match s.net.transfer with
    | some t => t.index == 0x2B00 && t.sub == 4
    | none => false) || (s.mode == mStandby && s.link.objs.any fun o => o.kind == 1)
  s.setFlag Reg.xchFree (!s.flag Reg.xchRollbk && !busy)

/-- A transfer in progress is discarded (R330). -/
def State.dropTransfer (s : State) : State :=
  match s.net.transfer with
  | none => s
  | some t =>
    let s1 := { s with net := { s.net with transfer := none } }
    if t.index = 0x2B00 ∧ t.sub = 4 then (s1.set Reg.xchState 0).showFree else s1

/-- A load that this module made for its partner is not known there: its MANIFEST frame waits for its ACK (R175).
DEDUCED (log 52). -/
def State.loadOpen (s : State) : Bool :=
  s.xch.handed && s.get Reg.xchState == 3 && s.link.acks.any fun a => a.ty == ftManifest

/-- Program exchange at a change of mode (R39, R175, R184, R190). -/
def State.xchOnMode (s : State) (num m0 m1 : Nat) : State :=
  let s1 := if (m0 = mStandby ∧ m1 ≠ mStandby) ∨ num = 16 ∨ m0 = mPrimary then s.endTrial else s
  let s2 := if (m0 = mPrimary ∨ m0 = mStandby) then s1.endExchange 0 else s1
  let s3 := if (m0 = mPrimary ∧ s2.xch.loadAt.isSome) ∨ (m0 = mStandby ∧ m1 ≠ mStandby ∧ s2.loadOpen = true) then s2.loadFail 0x0E
    else s2
  if m0 = mPrimary then
    (match s3.net.transfer with
     | some t => if t.index = 0x2B00 ∧ t.sub = 4 then s3.dropTransfer else s3
     | none => s3)
  else s3

/-! The link at a change of mode -/

/-- Abort reason of SYNC by the cause of transition 10 (R261). DEDUCED (log 61). -/
def State.setSyncEnd (s : State) (num : Nat) : State :=
  if num = 9 then s.set Reg.syncPhase 7
  else if num = 10 then s.set Reg.syncPhase 8
  else s.set Reg.syncPhase 0

/-- The final window ends with the role (R254): the stores and writes that it held take effect, in order. -/
def State.windowEnds (s : State) : State :=
  if s.link.goAt.isNone ∨ s.link.sendPhase = 0 then s
  else
    let s1 := { s with link := { s.link with goAt := none, held := [] }, pimg := { s.pimg with queue := [] } }
    (s1.each s.link.held fun e t => t.setPoint e.1 e.2).each s.pimg.queue fun w t => t.applyWrite w

/-- SYNC begins in phase 1 (R252). -/
def State.syncBegin (s : State) : State :=
  let s1 := ((s.set Reg.syncPhase 1).set Reg.syncPasses 0).set Reg.syncAbort 0
  { s1 with link := { s1.link with phase3At := none, goAt := none } }

/-- The partner's part in a self-test is known (R251): its result, or its leaving STANDBY under R250. -/
def State.testActs (s : State) : Bool :=
  s.get Reg.diagPart != 0 || (match s.link.hb with | some h => h.cause == 0x11 || h.cause == 0x15 | none => false)

/-- The DMA window over the process image for EWX DMA in SYNC (R414): set on both modules while SYNC data goes over.
DEDUCED (log 88). -/
def State.syncWindow (s : State) : State :=
  if s.mode = mSync ∨ s.link.sendPhase ≠ 0 then s.setRegion winSync 0 0xFFFF (atPr + atPw + atEn) mmEwx
  else s.setRegion winSync 0 0 0 0

/-- Claims and proposals do not outlast the role that they belong to, nor does a self-test that has its result or whose
outcome the partner has no part in yet (R242, R243, R250, R251). -/
def State.linkOnMode (s : State) (num m0 m1 : Nat) : State :=
  let s0 := if num = 14 then (s.incSat Reg.resyncCount).event .resync [s.get Reg.resyncCount + 1] else s
  let s1 := if m0 = mSync then s0.setSyncEnd num else s0
  let s2 := if m1 = mSync then s1.syncBegin else s1
  let done := num = 15
  let w := s2.windowEnds
  let s3 := State.syncWindow { w with link := { w.link with
    claimOwn := none, swap := none, reversalAt := none,
    swapDone := if done then some s.now else none,
    goAt := none
    sendPhase := if (m1 = mPrimary ∨ m1 = mSolo) ∧ num ≠ 18 then w.link.sendPhase else 0 } }
  if s3.link.test.isNone ∨ (s3.get Reg.diagOwn = 0 ∧ s3.testActs = true ∧ mStandby ≤ m1 ∧ m1 ≤ mSolo) then s3
  else
    let s4 := { s3 with link := { s3.link with test := none } }
    if s4.get Reg.diagState = 3 then s4 else s4.set Reg.diagState 0

/-! Transitions -/

/-- The modes that a transition may leave (R37). -/
def transFrom (num : Nat) : List Nat :=
  match num with
  | 1 => [mStore]
  | 2 => [mBoot, mIsolated, mSync, mStandby, mPrimary, mSolo, mSafe]
  | 3 | 4 | 5 => [mBoot]
  | 6 | 7 | 8 => [mIsolated]
  | 9 | 10 => [mSync]
  | 11 | 12 | 13 | 14 | 20 | 22 => [mStandby]
  | 15 | 16 | 17 | 23 | 24 => [mPrimary]
  | 18 | 19 | 25 => [mSolo]
  | 21 => [mIsolated, mSync, mStandby]
  | 26 => [mSafe]
  | _ => []

/-- The mode that a transition enters (R37). -/
def transTo (num : Nat) : Nat :=
  match num with
  | 1 | 8 | 26 => mBoot
  | 2 => mStore
  | 6 | 14 => mSync
  | 7 | 12 | 13 | 16 => mSolo
  | 9 | 15 => mStandby
  | 11 | 18 => mPrimary
  | 5 | 21 | 22 | 23 | 24 | 25 => mSafe
  | _ => mIsolated

/-- SAFE is entered driving (R34, R37). -/
def transDrives (num : Nat) : Bool := num == 22 || num == 24 || num == 25

/-- Transitions that the hardware makes and records itself (R51, R444): of 21 and 25 those whose cause is neither a command
nor the intent switch. DEDUCED (log 11). -/
def transHard (num cause : Nat) : Bool :=
  num == 2 || num == 5 || num == 13 || num == 23 || ((num == 21 || num == 25) && cause != 0x1B && cause != 0x13)

/-- The toggle is driven (R35). -/
def toggles (m : Nat) (drive : Bool) : Bool := (decide (mIsolated ≤ m) && decide (m ≤ mSolo)) || (m == mSafe && drive)

/-- The mode registers after a transition (R50). -/
def State.showMode (s : State) (num cause : Nat) : State :=
  let m0 := s.mode
  let m1 := transTo num
  let s1 := ((s.set Reg.modePrev m0).set Reg.modeCur m1).set Reg.modeCause cause
  let s2 := ((s1.setFlag Reg.modeInctrl (m1 == mPrimary || m1 == mSolo)).setFlag Reg.modeDrive (transDrives num)).incWrap
    Reg.cntTrans
  let s3 := if m1 = mSafe then (s2.incSat Reg.cntSafe).incWrap Reg.safeCount else s2
  ((s3.setFlag Reg.evOwntog (toggles m1 (transDrives num))).set Reg.reqBusy 0).status spMode (goodUint m1)

/-- What mode control remembers of an entry into ISOLATED, and when the count of failed joins returns to 0 (R43, R44). -/
def State.noteEntry (s : State) (num cause m1 : Nat) : State :=
  let again := cause = 0x0B ∨ cause = 0x10
  if m1 = mIsolated then
    let k := if again then s.md.retryCount + 1 else s.md.retryCount
    let s1 := { s with md := { s.md with
      pend := none, modeAt := s.now, isoNum := num, isoCause := cause, isoAt := s.now, retryCount := k,
      autoSusp := s.md.autoSusp || decide (cause = 0x12 ∨ cause = 0x13) || decide (again ∧ 3 ≤ k),
      retryAt := if again then some (s.now + 10000000000) else none, refused := none } }
    if again ∧ k = 3 then s1.event .autoJoinSuspended [k] else s1
  else
    { s with md := { s.md with
      pend := none, modeAt := s.now, retryAt := none
      retryCount := if m1 = mStandby ∨ m1 = mSolo ∨ m1 = mBoot then 0 else s.md.retryCount
      lastCause := if m1 = mSafe then cause else s.md.lastCause
      lastAt := if m1 = mSafe then s.now else s.md.lastAt
      lastClass := if m1 = mSafe ∧ !s.md.latched then 0 else s.md.lastClass } }

/-- A trigger that a higher one of the same instant displaces is discarded with an event (R39). -/
def State.discardPend (s : State) : State :=
  match s.md.pend with
  | none => s
  | some p => (({ s with md := { s.md with pend := none } }).set Reg.reqBusy 0).event .triggerDiscarded [p.num]

/-- A pending transition that another one overtakes is discarded. -/
def State.overtake (s : State) (num : Nat) : State :=
  match s.md.pend with
  | some p => if p.num = num then s else s.discardPend
  | none => s

/-- A mode transition (R37) with everything that it does at once. One that the table lacks for the present mode changes
nothing: the requests that name one are refused where they are made. -/
def State.transit (s : State) (num cause : Nat) : State :=
  if s.mode ∉ transFrom num then s
  else
    let m0 := s.mode
    let m1 := transTo num
    let drive := transDrives num
    let asked := !transHard num cause && decide (4 < num) && s.md.pend.map (·.num) != some num
    let o := if asked then (s.overtake num).set Reg.reqLasttgt m1 else s.overtake num
    let s0 := if m0 = mIsolated then o.set Reg.avsFixv 0 else o
    let s1 := (s0.showMode num cause).noteEntry num cause m1
    let ev : List Int := [num, cause, m0, m1]
    let s2 := if transHard num cause then s1.hwEvent .transition ev else s1.event .transition ev
    let leaves := decide (mStandby ≤ m0) && decide (m0 ≤ mSolo) && !(decide (mStandby ≤ m1) && decide (m1 ≤ mSolo))
    let s3 := if leaves then s2.sendExit m0 m1 cause num drive else s2
    let s4 := (((((s3.drvOnMode m1 num).canOnMode (if s3.md.romOnly then mBoot else m1)).aoOnMode m0 m1 drive).hrtOnMode m1).tmbOnMode m0 m1).ptpOnMode
    let s5 := ((s4.tarnOnMode num m0 m1).xchOnMode num m0 m1).linkOnMode num m0 m1
    if m1 = mSafe then { s5 with net := { s5.net with queue0 := [], queue1 := [] } }
    else if m1 = mPrimary ∨ m1 = mSolo then s5
    else
      let keep (l : List NetFrame) : List NetFrame := l.filter fun f => (m1 == mStandby || f.queue != 2) && !ptpByMaster f.bytes
      { s5 with net := { s5.net with queue0 := keep s5.net.queue0, queue1 := keep s5.net.queue1 } }

/-- A transition that waits for an instant (R37); HEARTBEAT frames report it. DEDUCED (log 124). -/
def State.pendTrans (s : State) (num cause : Nat) (t : Int) : State :=
  let s1 := if transHard num cause then s else s.set Reg.reqLasttgt (transTo num)
  ({ s1 with md := { s1.md with pend := some ⟨num, cause, t⟩ } }).set Reg.reqBusy 1

/-- A transition that waits for the next cycle boundary of the fastest task. -/
def State.atBoundary (s : State) (num cause : Nat) : State := s.pendTrans num cause (s.boundaryAfter s.now)

/-- Rank of a trigger in the order of R39, among those that wait for a boundary. DEDUCED (log 105). -/
def transRank (num cause : Nat) : Nat :=
  if num = 12 ∨ num = 13 then 4 else if cause = 0x13 then 6 else if num = 14 then 7 else 8

/-- An autonomous trigger that waits for an instant (R39): the lower of two triggers is discarded. DEDUCED (log 105). -/
def State.autoPend (s : State) (num cause : Nat) (t : Int) : State :=
  match s.md.pend with
  | none => s.pendTrans num cause t
  | some p =>
    if transRank num cause < transRank p.num p.cause then s.discardPend.pendTrans num cause t
    else if p.num = num then s
    else s.event .triggerDiscarded [num]

/-- A takeover, or the partner's leaving control, that waits for its boundary outranks what would leave STANDBY at once
without the link or for an intent (R39): the lower trigger is discarded. DEDUCED (log 105). -/
def State.yields (s : State) (num cause : Nat) : State :=
  match s.md.pend with
  | some p => if transRank p.num p.cause = 4 then s.event .triggerDiscarded [num] else s.transit num cause
  | none => s.transit num cause

/-! A failed BOOT -/

def State.showHealth (s : State) : State := s.statusHealth (s.lcs.flashBad != 0)

/-- Status points at the end of BOOT (R157): each is written once, after step 6 has cleared them.
DESIGN CHOICE (log 19). -/
def State.statusAll (s : State) : State :=
  let s1 := (s.status spFeeds (goodBits (s.get Reg.feedA + 2 * s.get Reg.feedB))).status spLock (goodBits (s.get Reg.tmbLock))
  let s2 := ((s1.statusForces.status spConfig (goodBits 0)).showHealth).statusPartner
  let s3 := s2.each (List.range 16) fun n t => t.status (spCan n) (goodBits 0)
  s3.each (List.range 8) fun n t => (t.showAo n).showAi n

/-- BOOT has failed in a step (R36, R47 to R49): nothing but the boot ROM runs after a failure up to step 5; after a later one
the lanes that hold no block lock train, PTP runs, the status points are written, and the runtime sets its regions (R414).
DEDUCED (log 18). -/
def State.bootFailed (s : State) (step : Nat) : State :=
  let s1 := ((s.set Reg.bootStep (step - 1)).set Reg.bootFail 1).event .bootStepFailed [step]
  if step ≤ 5 then { s1 with md := { s1.md with romOnly := true }, link := { s1.link with training := [] } }
  else
    let lanes := [0, 1].filter fun l => !s1.flag (Reg.laneTrained l)
    ((({ s1 with link := { s1.link with training := lanes } }).set Reg.ptpEn 1).statusAll).fixedRegions

/-! Latching faults -/

/-- The transition into SAFE that a latching fault takes by mode (R37, R218). -/
def latchTrans (m : Nat) : Nat :=
  if m = mBoot then 5
  else if m = mIsolated ∨ m = mSync ∨ m = mStandby then 21
  else if m = mPrimary then 23
  else if m = mSolo then 25
  else 0

/-- A latching fault (R38): `row` is its row of R266. It stops releases and every control pair; in SAFE it changes no
mode and no output (R270). DEDUCED (log 26). -/
def State.latch (s : State) (cause row : Nat) : State :=
  if !s.functional then s
  else if s.mode = mSafe then (s.detected row).event .latchingFault [cause, row]
  else
    let c := if s.mode = mBoot then 0x04 else cause
    let s0 := if s.mode = mBoot then s.bootFailed (s.get Reg.bootStep) else s.discardPend
    let s1 := { s0 with md := { s0.md with latched := true, stopped := true, lastCause := c, lastAt := s.now, lastClass := row } }
    (s1.event .latchingFault [cause, row]).transit (latchTrans s.mode) c

/-- A time-base fault (R340). DEDUCED (log 82). -/
def State.timeFault (s : State) : State := ((s.set Reg.tmbFault 1).hwEvent .timeBaseFault []).latch 0x17 10

/-- The skip limit of a safety-related task in control (R131): a pair trip. -/
def State.skipTrip (s : State) : State :=
  if s.inControl then
    let s1 := { s.discardPend with md := { s.discardPend.md with
      latched := true, stopped := true, lastCause := 0x16, lastAt := s.now, lastClass := 0 } }
    s1.transit (if s.mode = mPrimary then 24 else 25) 0x16
  else s

/-- The skip limit of a safety-related task has been reached (R131). -/
def State.skipLimitReached (s : State) : Bool :=
  (List.range 24).any fun n => s.enabled n && s.flag (Reg.tcfgSafety n) && decide (s.get (Reg.tcfgSkiplim n) ≤ s.get (Reg.tstConsec n))

/-- A standby that has taken control with a safety-related task at its limit trips (R131). -/
def State.skipCheck (s : State) : State := if s.inControl ∧ s.skipLimitReached = true then s.skipTrip else s

/-- Extraction intent is recorded; in ISOLATED auto-join is suspended (R256, R492). DEDUCED (log 24). -/
def State.noteIntent (s : State) : State :=
  let s1 := (s.set Reg.intentSeen 1).event .intentTaken []
  { s1 with md := { s1.md with autoSusp := s1.md.autoSusp || s1.mode == mIsolated } }

end Sys2Proof.Machine
end

