-- ==== Sys2Proof/Machine/ProtOps.lean ====
section
/-! DEFINITION. Protection: lockstep faults (R217 to R219), the check code (R105 to R107, R513) and the memory
protection unit (R408 to R421). -/

namespace Sys2Proof.Machine

/-! Lockstep -/

/-- What the capture registers of LKS take at a fault (R229). -/
structure LockCap where
  kind : Nat
  unit : Nat
  task : Nat
  priv : Bool
  iaddr : Nat
  addr : Nat
  lanes : BitVec 72
  /-- Both differing words or seals, for the event. -/
  words : Nat × Nat
  deriving DecidableEq, Repr

/-- Row of R266 of a lockstep fault. -/
def lockRowOf (kind unit : Nat) : Nat :=
  if kind = 7 then (if unit = 12 then 3 else 2)
  else if 8 ≤ kind ∧ kind ≠ 11 then 4
  else if kind = 11 then 5
  else 1

/-- A lockstep fault: the first since reset is captured, a later one sets MORE; then the latching fault 0x14 (R217,
R218). -/
def State.lockFault (s : State) (f : LockCap) : State :=
  let s1 := if s.flag Reg.fstValid then s.set Reg.fstMore 1
    else
      let a := (((s.set Reg.fstValid 1).set Reg.fstKind f.kind).set Reg.fstUnit f.unit).set Reg.fstTask f.task
      let b := ((a.setFlag Reg.fstPriv f.priv).set Reg.ftoken f.iaddr).set Reg.faddr f.addr
      let n := f.lanes.toNat
      ((b.set Reg.fxor0 (n % 2 ^ 32)).set Reg.fxor1 (n / 2 ^ 32 % 2 ^ 32)).set Reg.fxor2 (n / 2 ^ 64)
  (s1.hwEvent .lockstepFault [f.kind, f.unit, f.task, f.iaddr, f.addr, f.words.1, f.words.2]).latch 0x14 (lockRowOf f.kind f.unit)

/-- A fault of a unit at a token of core 0: its kind, instruction address and privilege, the access's address, and the two
words that differ. `FADDR` is 0 for a kind that is no access (R229). -/
def State.tokenFault (s : State) (u kind : Nat) (iaddr : BitVec 22) (priv : Bool) (addr : Nat) (a b : BitVec 72) : State :=
  s.lockFault ⟨kind, u, if u = 12 then 0 else (s.core u false).task.toNat, priv, iaddr.toNat, if kind ≤ 3 then addr else 0,
    a ^^^ b, (a.toNat, b.toNat)⟩

/-- A fault of a unit at its last token on core 0, and the two words that differ. For a fault without a token (STALL, INJECT) and
for a split pair FSTAT and FTOKEN show core 0's task, privilege and last instruction address.
DESIGN CHOICE (log 131). -/
def State.unitFault (s : State) (u kind : Nat) (a b : BitVec 72) : State :=
  s.tokenFault u kind (s.pair u).lastIaddr (s.pair u).lastPriv 0 a b

/-! The comparator (R207 to R209) -/

/-- A token with lanes of its first word flipped. -/
def Token.flip (k : Token) (f : BitVec 72) : Token :=
  { k with words := match k.words with | w :: l => (w ^^^ f) :: l | [] => [] }

/-- A compared token as core 1 presents it: the disturbance of its path, if one is due (R207). -/
def State.present1 (s : State) (u : Nat) (k : Token) : Token × State :=
  match (s.pair u).skew with
  | some (0, f) => if k.kind = 0 then (k, s) else (k.flip f, s.setPair u fun p => { p with skew := none })
  | some (n + 1, f) => if k.kind = 0 then (k, s) else (k, s.setPair u fun p => { p with skew := some (n, f) })
  | none => (k, s)

/-- Tokens that both cores present, core 0's and core 1's, in order: the first two that differ, if any. -/
def State.compare (s : State) (u : Nat) : List (Token × Token) → Option (Token × Token) × State
  | [] => (none, s)
  | (x, y) :: l =>
    match s.present1 u y with
    | (z, t) => if x = z then State.compare t u l else (some (x, z), t)

/-- The first words in which two tokens differ; a core that presents no word shows 0. DEDUCED (log 15). -/
def firstDiff : List (BitVec 72) → List (BitVec 72) → BitVec 72 × BitVec 72
  | [], [] => (0#72, 0#72)
  | a :: _, [] => (a, 0#72)
  | [], b :: _ => (0#72, b)
  | a :: l, b :: m => if a = b then firstDiff l m else (a, b)

/-- Kind of a core mismatch (R217): TRAP where a core traps and the other does not or traps otherwise.
DEDUCED (log 15). -/
def mismatchKind (a b : Token) : Nat := if a.kind = 5 ∨ b.kind = 5 then 5 else max a.kind b.kind

/-- The fault of two tokens that differ, at an instruction of core 0 (R209). -/
def State.mismatch (s : State) (u : Nat) (iaddr : BitVec 22) (priv : Bool) (d : Token × Token) : State :=
  let w := firstDiff d.1.words d.2.words
  s.tokenFault u (mismatchKind d.1 d.2) iaddr priv d.1.addr w.1 w.2

/-- Tokens of the runtime stub, which both cores of a locked unit present (R203, R207, R208). True: they are accepted.
DEDUCED (log 126). -/
def State.accept (s : State) (u : Nat) (l : List Token) : Bool × State :=
  if (decide (u < 12) && (s.get Reg.splitMask).testBit u) then (true, s)
  else
    match s.compare u (l.map fun k => (k, k)) with
    | (none, t) => (true, t.setPair u fun p => { p with lastAt := s.tmb.raw })
    | (some d, t) => (false, t.mismatch u (s.pair u).lastIaddr true d)

/-- What is handed out one by one, each after its token has been accepted; the rest is withheld at a difference.
DEDUCED (log 126). -/
def State.handOut (s : State) {α : Type} (u : Nat) (toks : α → List Token) (f : α → State → State) : List α → Bool × State
  | [] => (true, s)
  | x :: l =>
    match s.accept u (toks x) with
    | (false, t) => (false, t)
    | (true, t) => State.handOut (f x t) u toks f l

/-- What follows on a step that may have been withheld. -/
def thenDo (r : Bool × State) (f : State → Bool × State) : Bool × State := if r.1 then f r.2 else r

/-- The tokens of an output to a block: destination and word (R207), one for each of its words. DEDUCED (log 126). -/
def outTokens (dest : Nat) (l : List (BitVec 72)) : List Token :=
  l.zipIdx.map fun e => ⟨6, [BitVec.ofNat 72 (dest + e.2), e.1], 0⟩

/-- Bytes as 64-bit words of lanes, least significant byte first. -/
def byteLanes (l : Bytes) : List (BitVec 72) :=
  (List.range (ceilDiv l.length 8)).map fun i => BitVec.ofNat 72 (leNat ((l.drop (8 * i)).take 8))

/-! The injection test (R221) -/

/-- The capture registers of LKS cleared (R221). -/
def State.clearCapture (s : State) : State :=
  s.each [Reg.fstValid, Reg.fstKind, Reg.fstUnit, Reg.fstTask, Reg.fstPriv, Reg.fstMore, Reg.ftoken, Reg.faddr, Reg.fxor0,
    Reg.fxor1, Reg.fxor2] fun f t => t.set f 0

/-- The interval since the oldest passing injection test is exceeded (R279). DESIGN CHOICE (log 57). -/
def State.proofOverdue (s : State) : Bool :=
  let days : Int := s.cfgNat 0x5000 0x10 365
  (List.range 13).any fun u => s.due (SMap.get 0 s.md.injAt u + days * 86400000000000 + 1)

/-- The proof-test flag and bit 0 of status point 0xFF06; the event once. DESIGN CHOICE (log 57). -/
def State.refreshProof (s : State) : State :=
  let b := s.proofOverdue
  if b = s.md.proofDue then s
  else
    let s1 := ({ s with md := { s.md with proofDue := b } }).showHealth
    if b then s1.event .proofTestDue [] else s1

/-- Something was missed. -/
def missed (m : InjMiss) : Bool := m.lane.isSome || m.rail || m.fifo.isSome

/-- `LKS.INJSTAT.RESULT`: the parts of R221 in their order. DESIGN CHOICE (log 57). -/
def missResult (m : InjMiss) : Nat := if m.lane.isSome || m.rail then 2 else if m.fifo.isSome then 3 else 1

/-- A hold-up clock value as a time in ns (R339). -/
def holdNs (v : Nat) : Int :=
  ((v / 32768 + 378691200 : Nat) : Int) * 1000000000 + (v % 32768 * 1000000000 / 32768 : Nat)

/-- The instant of a test (R279): in BOOT, whose time base is set after the tests, the hold-up clock's.
DESIGN CHOICE (log 20). -/
def State.testTime (s : State) : Int := if s.mode = mBoot ∧ !s.pwr.holdLost then holdNs s.tmb.hold else s.now

/-- The mark of a unit's test: a pass is noted, a miss shown in BOOTSTAT (R221, R279). -/
def State.markTest (s : State) (u : Nat) (miss : Bool) : State :=
  if !miss then { s with md := { s.md with injAt := SMap.set s.md.injAt u s.testTime } }
  else if u = 12 then s.set Reg.bootSpinj 1
  else s.set Reg.bootPairinj (s.get Reg.bootPairinj ||| 2 ^ u)

/-- INJSTAT after tests: the first miss, or the pass. -/
def State.showTest (s : State) (m : InjMiss) : State :=
  let s1 := (s.set Reg.injBusy 0).set Reg.injResult (missResult m)
  (s1.set Reg.injLane (match m.lane with | some n => n.val | none => 0x7F)).set Reg.injEntry
    (match m.fifo with | some e => e.val | none => 0)

/-- The injection tests of units end (R221): each miss is a lockstep fault of kind 0xC. DESIGN CHOICE (log 57). -/
def State.injections (s : State) (l : List (Nat × InjMiss)) : State :=
  let s1 := s.clearCapture.each l fun e t => (t.flushPair e.1).markTest e.1 (missed e.2)
  let s2 := s1.showTest (((l.map fun e => e.2).find? missed).getD {})
  let s3 := if s2.mode = mBoot then s2 else s2.refreshProof
  s3.each (l.filter fun e => missed e.2) fun e t => t.unitFault e.1 0xC 0#72 0#72

def lanesOf (w : TW) : BitVec 72 := w.tag ++ w.val
def twOfLanes (b : BitVec 72) : TW := ⟨b.truncate 64, b.extractLsb' 64 8⟩

/-! Check code -/

/-- `PWR.ECCINFO.AREA` (R112). -/
def areaCode : Area → Nat
  | .data => 0
  | .slotA => 1
  | .slotB => 2
  | .storeCode => 3
  | .storeData => 3
  | .retentive => 4
  | .csr => 0
  | .none => 0

/-- Who meets a syndrome: `PWR.ECCINFO.AGENT` (R112), and the master that the event names: the number of R408, or a number
from 32 up for an engine that is no MPU master. DESIGN CHOICE (log 9). -/
structure Agent where
  code : Nat
  master : Nat
  deriving DecidableEq, Repr

def agLoad (u : Nat) : Agent := ⟨0, u⟩
def agFetch (u : Nat) : Agent := ⟨1, u⟩
def agDma (m : Nat) : Agent := ⟨2, m⟩
def agScrub : Agent := ⟨3, 34⟩
def agMscrub : Agent := ⟨4, 34⟩
def agReg (u : Nat) : Agent := ⟨5, u⟩

/-- Masters and engines besides the pairs. -/
def mEwx : Nat := 13
def mCan : Nat := 15
def mDbg : Nat := 20
def mSnap : Nat := 32
def mXch : Nat := 33
def mEvr : Nat := 35

/-- DESIGN CHOICE (log 9). -/
def State.flips (s : State) (a : Nat) : BitVec 80 := SMap.get 0#80 s.upsets a

def popCount (v : Nat) : Nat → Nat
  | 0 => 0
  | n + 1 => v / 2 ^ n % 2 + popCount v n

def oddWeight (b : BitVec 8) : Bool := popCount b.toNat 8 % 2 == 1

/-- The demands of R106 on the columns: of stored bits odd, of address bits even and nonzero, all 112 distinct. -/
def columnsOk (f : Nat → BitVec 8) : Bool :=
  (List.range 80).all (fun i => oddWeight (f i)) &&
    (List.range 32).all (fun i => !oddWeight (f (80 + i)) && f (80 + i) != 0#8) &&
    (List.range 112).all fun i => (List.range i).all fun j => f i != f j

/-- Columns that meet the demands: the number of the bit with a parity bit. -/
def plainColumn (i : Nat) : BitVec 8 :=
  if i < 80 then BitVec.ofNat 8 (i + 128 * ((popCount i 7 + 1) % 2))
  else BitVec.ofNat 8 (i - 79 + 128 * (popCount (i - 79) 7 % 2))

/-- The columns of the check matrix (R106). DESIGN CHOICE (log 9). -/
def eccCol (i : Nat) : BitVec 8 := if columnsOk Config.eccColumn then Config.eccColumn i else plainColumn i

/-- The syndrome of flipped stored bits read at an address that differs by `x` from the one they were written at (R105). -/
def syndrome (f : BitVec 80) (x : BitVec 32) : BitVec 8 :=
  ((List.range 112).filter fun i => if i < 80 then f.getLsbD i else x.getLsbD (i - 80)).foldl (fun y i => y ^^^ eccCol i) 0#8

/-- Classification of a syndrome (R106): KIND, 0 for no error, and the stored bit that is corrected. -/
def classify (y : BitVec 8) : Nat × Option Nat :=
  if y = 0#8 then (0, none)
  else if oddWeight y then
    match (List.range 80).find? fun i => eccCol i == y with
    | some i => (1, some i)
    | none => (2, none)
  else if (List.range 32).any fun i => eccCol (80 + i) == y then (3, none)
  else (2, none)

/-- KIND of a word with flipped bits. DESIGN CHOICE (log 9). -/
def eccKind (f : BitVec 80) : Nat := if f = 0#80 then 0 else (classify (syndrome f 0#32)).1

/-- The word that 80 flipped bits leave, once bit `i` has been corrected. -/
def flipWord (w : TW) (f : BitVec 80) (i : Option Nat) : TW :=
  let g := match i with | some n => f ^^^ (1#80 <<< n) | none => f
  twOfLanes (lanesOf w ^^^ g.truncate 72)

/-- Counts and capture of a non-zero syndrome at an address or register number, and its event with master and area (R107,
R112). -/
def State.eccNote (s : State) (g : Agent) (area a kind : Nat) (y : BitVec 8) : State :=
  let s1 := if kind = 1 then s.incSat Reg.eccCe else s.incSat Reg.eccUe
  let s2 := ((s1.set Reg.eccAddr a).set Reg.eccKind kind).set Reg.eccAgent g.code
  let s3 := (s2.set Reg.eccSynd y.toNat).set Reg.eccArea area
  s3.hwEvent .nonzeroSyndrome [g.code, g.master, area, a, kind, y.toNat]

/-- Whether STATUS.SLOT names a slot on any pair (R107). -/
def State.slotInUse (s : State) (slot : Nat) : Bool :=
  s.activeSlot == slot || s.cores.any (fun e => (if e.2.slot then 1 else 0) == slot)

/-- A slot is marked invalid (R107); a yearling run of its image is aborted (R184). -/
def State.slotInvalid (s : State) (slot : Nat) : State :=
  let s1 := (s.set (if slot = 0 then Reg.xchAvalid else Reg.xchBvalid) 0).event .slotInvalidated [slot]
  ({ s1 with xch := if slot = 0 then { s1.xch with imgA := none } else { s1.xch with imgB := none } }).endTrial

/-- The consequence of an uncorrectable result by area (R107, R448, R513). -/
def State.eccFail (s : State) (g : Agent) (a kind : Nat) (y : BitVec 8) : State :=
  let s1 := s.eccNote g (areaCode (areaOf a)) a kind y
  let slot (n : Nat) : State := if s1.slotInUse n then s1.latch 0x17 6 else (s1.detected 6).slotInvalid n
  match areaOf a with
  | .slotA => slot 0
  | .slotB => slot 1
  | .retentive =>
    let s2 := ((s1.detected 6).set Reg.eccRwue 1).showHealth
    let s3 := if 0x8200000 ≤ a then s2.set Reg.evrFault 1 else s2
    s3.event .rwUncorrectable [a]
  | .csr => s1
  | .none => s1
  | _ => s1.latch 0x17 6

/-- A read meant for `a` that reaches the word at `at_`, through the check code (R106, R107): the word, or nothing where it
is uncorrectable; a corrected word is written back. DESIGN CHOICE (log 9). -/
def State.eccReadAt (s : State) (g : Agent) (a at_ : Nat) : Option TW × State :=
  let f := s.flips at_
  let x := BitVec.ofNat 32 a ^^^ BitVec.ofNat 32 at_
  if f = 0#80 ∧ x = 0#32 then (some (s.word at_), s)
  else
    let y := syndrome f x
    match classify y with
    | (0, _) => (some (flipWord (s.word at_) f none), s)
    | (1, i) =>
      let w := flipWord (s.word at_) f i
      let s1 := s.eccNote g (areaCode (areaOf a)) a 1 y
      let s2 := if areaOf a = .retentive then s1 else { s1 with pwr := { s1.pwr with scrubCe := s1.pwr.scrubCe + 1 } }
      (some w, s2.setWord a w)
    | (k, _) => (none, s.eccFail g a k y)

/-- A read of a word through the check code. -/
def State.eccRead (s : State) (g : Agent) (a : Nat) : Option TW × State := s.eccReadAt g a a

/-- Reads of a run of words; nothing where one of them is uncorrectable. -/
def State.eccReads (s : State) (agent : Agent) : Nat → Nat → Option (List TW) × State
  | _, 0 => (some [], s)
  | a, n + 1 =>
    match s.eccRead agent a with
    | (none, t) => (none, t)
    | (some w, t) =>
      match State.eccReads t agent (a + 1) n with
      | (some l, u) => (some (w :: l), u)
      | (none, u) => (none, u)

/-- The port rewrites a point's word by `f` (R155, R156, R159, R393): the word as the last write that is held leaves it, else
as the port reads it through the check code; one that is uncorrectable is not rewritten (R107, R267). -/
def State.portRework (s : State) (kind p : Nat) (f : TW → TW) : State :=
  match (s.pimg.queue.filter fun x => x.point == p).getLast? with
  | some x => s.portWrite kind p (f x.word)
  | none =>
    match s.eccRead (agDma mSnap) p with
    | (some w, t) => t.portWrite kind p (f w)
    | (none, t) => t

/-- An upset flips stored bits of a word. DEDUCED (log 39). -/
def State.flip (s : State) (a : Nat) (f : BitVec 80) : State :=
  { s with upsets := SMap.put 0#80 s.upsets a (s.flips a ^^^ f) }

/-! Memory protection -/

/-- Kinds of access (R409). -/
inductive AccKind where
  | read | write | exec
  deriving DecidableEq, Repr

def AccKind.code : AccKind → Nat
  | .read => 0
  | .write => 1
  | .exec => 2

/-- An access as the MPU sees it (R408 to R410). -/
structure Access where
  master : Nat
  kind : AccKind
  priv : Bool
  addr : Nat
  task : Nat
  slot : Bool
  core : Bool
  deriving DecidableEq, Repr

/-- A decision: permitted, deciding region (0x7F none), cause (R416). -/
structure Decision where
  ok : Bool
  region : Nat
  cause : Nat
  deriving DecidableEq, Repr

/-- Region `r` of a checker lies over an address (R411). -/
def State.regionHit (s : State) (copy r a : Nat) : Bool :=
  (s.get (Reg.rAttr copy r)).testBit 8 && decide (s.get (Reg.rBase copy r) ≤ a) && decide (a ≤ s.get (Reg.rLim copy r))

/-- The lowest-numbered enabled region that names the master (R411). -/
def State.deciding (s : State) (copy : Nat) (x : Access) : Option Nat :=
  (List.range 64).find? fun r => s.regionHit copy r x.addr && (s.get (Reg.rMask copy r)).testBit x.master

/-- The deciding region's qualifiers and rights (R410, R411). -/
def regionAllows (attr : Nat) (x : Access) : Bool :=
  let slotq := attr / 2 ^ 16 % 4
  let task := !attr.testBit 10 || attr / 2 ^ 11 % 32 == x.task
  let sl := slotq == 0 || (slotq == 1 && !x.slot) || (slotq == 2 && x.slot)
  (decide (12 ≤ x.master) || (task && sl)) && attr.testBit (x.kind.code + if x.priv then 4 else 0)

/-- CSR addresses that a core pair writes under the default map (R412). DEDUCED (log 36, 89). -/
def pairCsr (p a : Nat) : Bool :=
  (List.range 16).any (fun n => a == (Reg.txpost n).addr)
    || (let g := Reg.cvuGroup (if p < 6 then 2 else 3) 0
        decide (g ≤ a) && decide (a < g + 16))
    || a == (Reg.sleepMode p).addr

/-- The default map (R412). DEDUCED (log 89). -/
def defaultMap (sp : Bool) (p : Nat) (k : AccKind) (a : Nat) : Bool :=
  match areaOf a, k with
  | .data, .read => true
  | .data, .write => true
  | .slotA, .read => true
  | .slotB, .read => true
  | .storeCode, .read => sp
  | .storeCode, .exec => true
  | .storeData, .read => sp
  | .storeData, .write => sp
  | .retentive, .read => sp
  | .retentive, .write => sp
  | .csr, .read => true
  | .csr, .write => sp || pairCsr p a
  | _, _ => false

/-- The life-cycle states in which a lock does not stop DBG (R421): BLANK, DEV and RETURN. DEDUCED (log 89). -/
def State.dbgOpen (s : State) : Bool :=
  let l := s.get Reg.lcsState
  l == 0 || l == 1 || l == 3

/-- With no deciding region (R412, R416). -/
def State.noRegion (s : State) (x : Access) : Decision :=
  if x.master ≤ 12 then
    if !x.priv then ⟨false, 0x7F, 2⟩
    else if defaultMap (x.master == 12) x.master x.kind x.addr then ⟨true, 0x7F, 0⟩ else ⟨false, 0x7F, 4⟩
  else if x.master = 20 ∧ s.dbgOpen then
    if defaultMap true 12 x.kind x.addr then ⟨true, 0x7F, 0⟩ else ⟨false, 0x7F, 4⟩
  else ⟨false, 0x7F, 3⟩

/-- BOOT step 5 has ended: the code and constants part is written no more (R413). -/
def State.codeFixed (s : State) : Bool := s.mode != mBoot || decide (6 ≤ s.get Reg.bootStep)

/-- One checker's decision (R411 to R413, R421). -/
def State.decideBy (s : State) (copy : Nat) (x : Access) : Decision :=
  if x.master = 20 ∧ !s.dbgOpen ∧
      (List.range 64).any (fun r => s.regionHit copy r x.addr && (s.get (Reg.rAttr copy r)).testBit 9) then
    ⟨false, 0x7F, 5⟩
  else if x.master = 20 ∧ s.get Reg.lcsState = 4 then ⟨false, 0x7F, 3⟩
  else if x.kind = .write ∧ areaOf x.addr = .storeCode ∧ s.codeFixed then ⟨false, 0x7F, 6⟩
  else if areaOf x.addr = .none then
    ⟨false, 0x7F, if x.master ≤ 12 then (if x.priv then 4 else 2) else if x.master = 20 ∧ s.dbgOpen then 4 else 3⟩
  else
    match s.deciding copy x with
    | some r => if regionAllows (s.get (Reg.rAttr copy r)) x then ⟨true, r, 0⟩ else ⟨false, r, 1⟩
    | none => s.noRegion x

/-- A refusal (R416): the count, the first capture, the event. -/
def State.mpuRefuse (s : State) (x : Access) (d : Decision) : State :=
  let s1 := s.incSat Reg.vioCnt
  let s2 := if s1.flag Reg.vioValid then s1
    else
      let a := (((s1.set Reg.vioAddr x.addr).set Reg.vioValid 1).set Reg.vioKind x.kind.code).setFlag Reg.vioPriv x.priv
      let b := ((a.set Reg.vioMaster x.master).set Reg.vioRegion d.region).set Reg.vioCause d.cause
      (b.setFlag Reg.vioCore x.core).set Reg.vioEpoch (s.get Reg.mpuEpoch)
  let s3 := if d.cause = 5 then { s2 with mpu := { s2.mpu with dbgLocked := s2.mpu.dbgLocked + 1 } } else s2
  s3.hwEvent .mpuRefusal [x.addr, x.kind.code, x.master, if x.priv then 1 else 0, d.region, d.cause, s.get Reg.mpuEpoch]

/-- An MPU fault (R420). -/
def State.mpuFaultLatch (s : State) : State := ((s.set Reg.mpuFault 1).hwEvent .mpuFault []).latch 0x17 11

/-- The check of an access by both checkers (R411, R415, R420); the caller draws the consequence for its master.
DEDUCED (log 89). -/
def State.mpuCheck (s : State) (x : Access) : Bool × State :=
  let d0 := s.decideBy 0 x
  let d1 := s.decideBy 1 x
  if d0 ≠ d1 ∨ s.get Reg.mpuEpoch ≠ s.mpu.epoch1 then (false, ((s.mpuRefuse x ⟨false, d0.region, if d0.ok then d1.cause else d0.cause⟩).mpuFaultLatch))
  else if d0.ok then (true, s)
  else (false, s.mpuRefuse x d0)

/-- Accesses of a DMA master to a run of words (R408, R409): none is made after the first that is refused. -/
def State.dmaCheck (s : State) (m : Nat) (k : AccKind) (a : Nat) : Nat → Bool × State
  | 0 => (true, s)
  | n + 1 =>
    match s.mpuCheck ⟨m, k, true, a, 0, false, false⟩ with
    | (true, t) => State.dmaCheck t m k (a + 1) n
    | (false, t) => (false, t)

end Sys2Proof.Machine
end

