-- ==== Sys2Proof/Machine/Od.lean ====
section
/-! DEFINITION. The object dictionary (R283 to R288): every row of the object tables, with type, access, minimum write
role, range and default, and what a read returns. -/

namespace Sys2Proof.Machine

/-- Data types (R286); a byte string carries its shortest and longest length. -/
inductive OdTy where
  | bool | u8 | u16 | u32 | u64 | i32 | i64 | f64 | time | str | tagword
  | octets (lo hi : Nat)
  deriving DecidableEq, Repr

/-- Access codes (R288). -/
inductive OdAcc where
  | ro | rb | rx | st | lv | wo
  deriving DecidableEq, Repr

/-- Session roles (R289). -/
def rView : Nat := 0
def rOperate : Nat := 1
def rEngineer : Nat := 2
def rExpert : Nat := 3

/-- Bytes of a type of fixed length. -/
def OdTy.size : OdTy → Nat
  | .bool => 1
  | .u8 => 1
  | .u16 => 2
  | .u32 => 4
  | .i32 => 4
  | .tagword => 9
  | .str => 0
  | .octets _ _ => 0
  | _ => 8

/-- A row of an object table: indices `index + k × step` for `k < count`, subindices `lo` to `hi`.
DESIGN CHOICE (log 66). -/
structure OdRow where
  index : Nat
  count : Nat
  step : Nat
  lo : Nat
  hi : Nat
  ty : OdTy
  acc : OdAcc
  role : Nat
  min : Int
  max : Int
  /-- The default, or what a read-only object reads as; arguments: state, channel or task `k`, subindex. -/
  value : State → Nat → Nat → Bytes

def tyMin : OdTy → Int
  | .i32 => -(2 ^ 31)
  | .i64 => -(2 ^ 63)
  | .time => -(2 ^ 63)
  | _ => 0

def tyMax : OdTy → Int
  | .bool => 1
  | .i32 => 2 ^ 31 - 1
  | .i64 => 2 ^ 63 - 1
  | .time => 2 ^ 63 - 1
  | t => 2 ^ (8 * t.size) - 1

/-- A read-only object. -/
def ro (i lo hi : Nat) (ty : OdTy) (v : State → Nat → Nat → Bytes) : OdRow :=
  ⟨i, 1, 1, lo, hi, ty, .ro, 9, tyMin ty, tyMax ty, v⟩

/-- A read-only object that reads a register field. -/
def rof (i k : Nat) (ty : OdTy) (f : Fld) : OdRow := ro i k k ty fun s _ _ => leBytes ty.size (s.get f)

def ron (i k : Nat) (ty : OdTy) (v : State → Nat) : OdRow := ro i k k ty fun s _ _ => leBytes ty.size (v s)

/-- A staged object (R288) with its default as a number, in two's complement. -/
def st (i lo hi : Nat) (ty : OdTy) (role : Nat) (mn mx d : Int) : OdRow :=
  ⟨i, 1, 1, lo, hi, ty, .st, role, mn, mx, fun _ _ _ => leBytes ty.size (BitVec.ofInt (8 * ty.size) d).toNat⟩

/-- A staged object with a default of bytes. -/
def stb (i lo hi : Nat) (ty : OdTy) (role : Nat) (d : Nat → Bytes) : OdRow :=
  ⟨i, 1, 1, lo, hi, ty, .st, role, tyMin ty, tyMax ty, fun _ _ k => d k⟩

def wo (i k : Nat) (ty : OdTy) (role : Nat) (mn mx : Int) : OdRow :=
  ⟨i, 1, 1, k, k, ty, .wo, role, mn, mx, fun _ _ _ => []⟩

/-- The same row for each task, channel or port. -/
def OdRow.each (r : OdRow) (count step : Nat) : OdRow := { r with count := count, step := step }

/-- A current in nA as a binary64 in mA. -/
def mAmp (v : Int) : Bytes := leBytes 8 ((Frac.mk v 1000000).toF64 .nearest).toNat

def f64Bytes (bits : Nat) : Bytes := leBytes 8 bits
def f64Hundred : Nat := 0x4059000000000000
def f64Four : Nat := 0x4010000000000000
def f64Twenty : Nat := 0x4034000000000000

def ascii (l : List Nat) : Bytes := l.map (BitVec.ofNat 8)
def vendorName : Bytes := ascii [68, 118, 111, 114, 104, 97, 109]
def orderingCode : Bytes :=
  ascii [68, 86, 65, 45, 67, 77, 55, 50, 52, 48, 45] ++ ascii [if Config.variantC then 67 else 65]

/-- The oldest last passing injection test (R279). -/
def State.oldestTest (s : State) : Int :=
  (List.range 13).foldl (fun m u => min m (SMap.get 0 s.md.injAt u)) (SMap.get 0 s.md.injAt 0)

/-- A yearling report entry (R183). -/
def reportEntry (e : RepEntry) : Bytes :=
  leBytes 2 e.point ++ leBytes 1 e.classes ++ [0#8] ++ leBytes 4 e.cycles ++ leBytes 8 (BitVec.ofInt 64 e.first).toNat
    ++ wordBytes e.active ++ wordBytes e.trial

/-- A report entry from its bytes (R184). -/
def parseReport (b : Bytes) : RepEntry :=
  let w (o : Nat) : TW := ⟨BitVec.ofNat 64 (leNat ((b.drop o).take 8)), (b.getD (o + 8) 0#8)⟩
  { point := leNat (b.take 2), classes := leNat ((b.drop 2).take 1), cycles := leNat ((b.drop 4).take 4),
    first := (BitVec.ofNat 64 (leNat ((b.drop 8).take 8))).toInt, active := w 16, trial := w 25, last := 0 }

/-- A Tarn entry (R294). -/
def tarnEntryBytes (e : TarnEntry) : Bytes :=
  leBytes 2 e.index ++ leBytes 1 e.sub ++ [0#8] ++ leBytes 2 e.value.length ++ [0#8, 0#8] ++ leBytes 8 e.client
    ++ leBytes 8 (BitVec.ofInt 64 e.at_).toNat ++ e.value

/-- DEDUCED (log 69). -/
def histBytes (h : HistEntry) : Bytes :=
  leBytes 4 h.gen ++ leBytes 8 (BitVec.ofInt 64 h.b).toNat ++ leBytes 8 h.client ++ leBytes 2 h.entries

def failBytes (f : Nat × Nat × Nat × Nat) : Bytes :=
  leBytes 2 f.1 ++ leBytes 2 f.2.1 ++ leBytes 1 f.2.2.1 ++ [0#8] ++ leBytes 2 f.2.2.2

def nthOr {α : Type} (l : List α) (n : Nat) (d : Bytes) (f : α → Bytes) : Bytes :=
  match l[n]? with
  | some a => f a
  | none => d

/-- Release of a valid firmware slot, else 0. -/
def State.fwRelease (s : State) (slot : Nat) : Nat :=
  if s.lcs.fwValid.testBit slot then fileField (if slot = 0 then s.lcs.fw0 else s.lcs.fw1) 0 2 else 0

def State.regionBytes (s : State) (r : Nat) : Bytes :=
  leBytes 4 (s.get (Reg.rBase 0 r)) ++ leBytes 4 (s.get (Reg.rLim 0 r)) ++ leBytes 4 (s.get (Reg.rAttr 0 r))
    ++ leBytes 4 (s.get (Reg.rMask 0 r))

/-- `PWR.BOOTSTAT` as a word. -/
def State.bootWord (s : State) : Nat :=
  s.get Reg.bootStep + s.get Reg.bootFail * 16 + s.get Reg.bootFwslot * 32 + s.get Reg.bootFwfallback * 64
    + s.get Reg.bootImgslot * 128 + s.get Reg.bootMfref * 512 + s.get Reg.bootSpinj * 1024 + s.get Reg.bootPairinj * 4096

def timeBytes (t : Int) : Bytes := leBytes 8 (BitVec.ofInt 64 t).toNat

/-- Identity, communication and life cycle (R285, R333, R481). -/
def odRows1 : List OdRow := [
  ro 0x1000 1 1 .str fun _ _ _ => vendorName,
  ro 0x1000 2 2 .str fun _ _ _ => orderingCode,
  ron 0x1000 3 .u8 fun _ => 0x43,
  ro 0x1000 4 4 .str fun _ _ _ =>
    (List.range 12).map fun i => BitVec.ofNat 8 (0x20 + (Config.serialChar i).toNat % 95),
  ro 0x1000 5 5 (.octets 16 16) fun s _ _ => s.deviceId,
  rof 0x1000 6 .u16 Reg.ownfwRel,
  rof 0x1000 7 .u8 Reg.bootFwslot,
  rof 0x1000 8 .u16 Reg.ownfwClass,
  ron 0x1100 1 .u8 fun s => s.net.sessions.length,
  st 0x1100 2 2 .u16 rEngineer 10 3600 60,
  stb 0x1110 0 0x1F (.octets 9 9) rExpert fun _ => List.replicate 9 0#8,
  st 0x1120 1 1 .u8 rEngineer 0 255 255,
  st 0x1120 2 2 .u32 rEngineer 0 (2 ^ 32 - 1) 0x640,
  st 0x1120 3 3 .u32 rEngineer 0 (2 ^ 32 - 1) 0x6C0,
  st 0x1120 4 4 .u8 rEngineer 0 1 0,
  rof 0x1200 1 .u8 Reg.lcsState,
  rof 0x1200 2 .u8 Reg.lcsUsed,
  wo 0x1200 3 (.octets 12 108) rExpert 0 0,
  ron 0x1200 4 .u64 fun s => s.lcs.nonce,
  rof 0x1200 5 .u8 Reg.kslotUsed,
  wo 0x1200 6 (.octets 97 97) rExpert 0 0,
  wo 0x1200 7 (.octets 1 4096) rExpert 0 0,
  { ro 0x1200 8 8 (.octets 1 4096) fun s _ _ => s.lcs.cert with acc := .rx, role := rExpert },
  rof 0x1200 9 .u8 Reg.tamperCount ]

/-- Modes, power and speed (R52, R113, R481, R506). -/
def odRows2 : List OdRow := [
  rof 0x2000 1 .u8 Reg.modeCur,
  ron 0x2000 2 .u8 fun s => s.partnerMode,
  rof 0x2000 3 .u8 Reg.modeCause,
  wo 0x2000 4 .u8 rOperate 1 7,
  wo 0x2000 5 (.octets 5 5) rExpert 0 0,
  rof 0x2000 6 .bool Reg.modeDrive,
  st 0x2000 7 7 .u8 rEngineer 0 2 0,
  st 0x2000 8 8 .u32 rEngineer 100 60000 5000,
  st 0x2000 9 9 .u8 rEngineer 0 2 1,
  rof 0x2000 0x0A .u32 Reg.safeCount,
  ron 0x2000 0x0B .u32 State.bootWord,
  ro 0x2000 0x10 0x12 .u16 fun s _ k => leBytes 2 (s.get (Reg.spdSpeed (k - 0x10))),
  rof 0x2000 0x13 .u16 (Reg.spdSpeed 3),
  rof 0x2000 0x14 .u32 Reg.eccCe,
  rof 0x2000 0x15 .u8 Reg.eccUe,
  rof 0x2000 0x16 .u8 Reg.scrubLvl,
  rof 0x2000 0x17 .bool Reg.eccRwue,
  ron 0x2000 0x20 .u8 fun s => s.get Reg.feedA + 2 * s.get Reg.feedB,
  rof 0x2000 0x21 .u16 Reg.cellMv,
  ron 0x2000 0x22 .u16 fun s => s.get Reg.wakeSrc + 256 * s.get Reg.wakeUnit,
  ro 0x2000 0x23 0x23 .time fun s _ _ => timeBytes (s.getHalves Reg.wakeAtl Reg.wakeAth),
  rof 0x2000 0x24 .u16 Reg.feedVa,
  rof 0x2000 0x25 .u16 Reg.feedVb,
  ro 0x2000 0x26 0x26 .i32 fun s _ _ => leBytes 4 (BitVec.ofInt 32 (BitVec.ofNat 8 (s.temp 0)).toInt).toNat,
  rof 0x2000 0x27 .bool Reg.intentSw,
  ro 0x2000 0x28 0x28 (.octets 16 16) fun s _ _ => (List.range 4).flatMap fun k => leBytes 4 (s.get (Reg.mbox k)),
  st 0x3000 0x10 0x10 .u16 rExpert 0 65535 672,
  st 0x3000 0x11 0x11 .u8 rExpert 0 255 32,
  st 0x3000 0x12 0x12 .u8 rExpert 0 255 4,
  st 0x3000 0x13 0x13 .u8 rExpert 0 255 64,
  st 0x3000 0x14 0x14 .u8 rExpert 0 3 3,
  st 0x3000 0x20 0x20 .bool rExpert 0 1 1 ]

/-- Scheduler and process image (R149, R169). -/
def odRows3 : List OdRow := [
  rof 0x2100 1 .bool Reg.drvActive,
  rof 0x2100 2 .u16 Reg.ovrSkip,
  rof 0x2100 3 .u16 Reg.ovrLate,
  st 0x2100 4 4 .bool rEngineer 0 1 1,
  (st 0x2110 1 1 .bool rEngineer 0 1 0).each 24 1,
  (st 0x2110 2 2 .u32 rEngineer 250 60000000 10000).each 24 1,
  (st 0x2110 3 3 .u32 rEngineer 0 (2 ^ 32 - 1) 5000).each 24 1,
  (st 0x2110 4 4 .u8 rEngineer 0 255 0).each 24 1,
  (st 0x2110 5 5 .bool rEngineer 0 1 0).each 24 1,
  (st 0x2110 6 6 .u8 rEngineer 0 255 3).each 24 1,
  (st 0x2110 7 7 .u8 rEngineer 0 2 0).each 24 1,
  (st 0x2110 8 8 .u32 rEngineer 0 (2 ^ 32 - 1) 10000).each 24 1,
  (ro 0x2110 0x10 0x10 .u8 fun s n _ => leBytes 1 (s.tstate n)).each 24 1,
  (ro 0x2110 0x11 0x11 .u8 fun s n _ => leBytes 1 (s.get (Reg.tstConsec n))).each 24 1,
  (ro 0x2110 0x12 0x12 .u32 fun s n _ => leBytes 4 (s.get (Reg.tskip n))).each 24 1,
  (ro 0x2110 0x13 0x13 .u32 fun s n _ => leBytes 4 (s.get (Reg.tlate n))).each 24 1,
  (ro 0x2110 0x14 0x14 .u32 fun s n _ => leBytes 4 (s.get (Reg.tmax n))).each 24 1,
  (ro 0x2110 0x15 0x15 .u32 fun s n _ => leBytes 4 (s.get (Reg.tlast n))).each 24 1,
  st 0x3100 1 1 .u8 rExpert 0 255 40,
  st 0x3100 2 2 .u16 rExpert 0 65535 200,
  st 0x3100 3 3 .u16 rExpert 0 65535 12000,
  (st 0x3110 1 1 .u32 rExpert 0 (2 ^ 32 - 1) 0).each 24 1,
  (ro 0x3110 2 2 .u32 fun s n _ => leBytes 4 (s.get (Reg.tbud n))).each 24 1,
  (ro 0x3110 3 3 .u8 fun s n _ => leBytes 1 (s.get (Reg.tcfgDivpol n))).each 24 1,
  (st 0x3110 4 4 .u8 rExpert 0 15 0).each 24 1,
  (st 0x3110 5 5 .u8 rExpert 0 127 0).each 24 1,
  (ro 0x3110 6 6 .u8 fun s n _ => leBytes 1 (s.get (Reg.tstMerge n))).each 24 1,
  ron 0x2140 1 .u8 fun s => s.pimg.forces.length,
  wo 0x2140 2 .u16 rEngineer 0 65535,
  wo 0x2140 3 .bool rEngineer 1 1,
  ron 0x2140 4 .u32 fun s => s.pimg.ignored,
  ron 0x2140 5 .u32 fun s => s.pimg.expiries,
  ron 0x2140 6 .u32 fun s => s.pimg.late,
  ron 0x2140 7 .u32 fun s => s.pimg.waits,
  ron 0x2140 8 .u32 fun s => s.pimg.unencodable,
  ron 0x2140 9 .u8 fun s => s.pimg.refusal,
  ro 0x2141 1 0xFF .u16 fun s _ k => nthOr s.pimg.forces (k - 1) [0xFF#8, 0xFF#8] fun e => leBytes 2 e.1,
  { (ro 0x6000 0 0xFF .tagword fun s n k => wordBytes (s.word (n * 256 + k))) with
    acc := .rb, role := rEngineer, count := 256 } ]

/-- Lockstep, pair and safety (R230, R263, R282). -/
def odRows4 : List OdRow := [
  rof 0x2200 1 .u16 Reg.splitMask,
  ron 0x2200 2 .u8 fun s => if s.flag Reg.fstValid then s.get Reg.fstKind else 0,
  rof 0x2200 3 .u8 Reg.fstUnit,
  rof 0x2200 4 .u32 Reg.ftoken,
  rof 0x2200 5 .bool Reg.splitPend,
  st 0x3200 1 1 .u16 rExpert 0 65535 0,
  wo 0x3200 2 .u8 rExpert 0 11,
  rof 0x3200 3 .u8 Reg.injResult,
  ro 0x3200 4 4 (.octets 9 9) fun s _ _ =>
    leBytes 4 (s.get Reg.fxor0) ++ leBytes 4 (s.get Reg.fxor1) ++ leBytes 1 (s.get Reg.fxor2),
  rof 0x2300 1 .u8 Reg.blwPos,
  ron 0x2300 2 .u8 fun s => bit (s.laneUp 0) 0 + bit (s.laneUp 1) 1,
  rof 0x2300 3 .bool Reg.evToggle,
  rof 0x2300 4 .u16 Reg.sealCmp,
  rof 0x2300 5 .u8 Reg.sealDis,
  rof 0x2300 6 .u8 Reg.sealMiss,
  rof 0x2300 7 .u8 Reg.joinref,
  rof 0x2300 8 .u16 Reg.pfwRel,
  rof 0x2300 9 .u16 Reg.pfwClass,
  rof 0x2300 0x0A .u16 Reg.ownfwClass,
  st 0x2300 0x0B 0x0B .bool rEngineer 0 1 0,
  rof 0x2300 0x0C .u8 Reg.syncPhase,
  rof 0x2300 0x0D .u8 Reg.resyncCount,
  rof 0x2300 0x0E .bool Reg.evRlfault,
  st 0x3300 1 1 .u16 rExpert 1 600 10,
  wo 0x3300 2 .u8 rExpert 0 3,
  rof 0x3300 3 .u32 (Reg.ewxCrc 0),
  rof 0x3300 4 .u32 (Reg.ewxCrc 1),
  ron 0x3300 5 .u32 fun s => s.get (Reg.ewxLat 0) + 65536 * s.get (Reg.ewxLat 1),
  ron 0x3300 6 .u32 fun s => s.get Reg.syncDs + s.get Reg.syncDr,
  ron 0x5000 1 .u8 fun s => s.md.lastCause,
  ro 0x5000 2 2 .time fun s _ _ => timeBytes s.md.lastAt,
  ron 0x5000 3 .u8 fun s => s.md.lastClass,
  ron 0x5000 4 .u32 fun s => s.lcs.driftCount,
  ron 0x5000 5 .u8 fun s => s.lcs.flashBad,
  ro 0x5000 6 6 .time fun s _ _ => timeBytes s.lcs.rollDone,
  st 0x5000 0x10 0x10 .u16 rEngineer 30 3650 365,
  ro 0x5000 0x11 0x11 .time fun s _ _ => timeBytes s.oldestTest,
  ron 0x5000 0x12 .bool fun s => if s.md.proofDue then 1 else 0 ]

/-- Time (R358). -/
def odRows5 : List OdRow := [
  rof 0x2400 1 .u8 Reg.tmbState,
  rof 0x2400 2 .bool Reg.tmbLock,
  ro 0x2400 3 3 .time fun s _ _ => timeBytes s.now,
  rof 0x2400 4 .i32 Reg.ptpOfs,
  rof 0x2400 5 .i32 Reg.tmbRate,
  st 0x2400 6 6 .u8 rEngineer 0 2 0,
  st 0x2400 7 7 .u8 rEngineer 0 1 0,
  st 0x2400 8 8 .u8 rEngineer 0 127 0,
  st 0x2400 9 9 .u8 rEngineer 0 1 0,
  st 0x2400 0x0A 0x0B .u8 rEngineer 0 255 128,
  rof 0x2400 0x0C .u8 Reg.tmbSteps,
  rof 0x2400 0x0D .i32 Reg.pairofs,
  st 0x3400 1 1 .i32 rExpert (-7) 1 (-1),
  st 0x3400 2 2 .i32 rExpert 0 4 1,
  st 0x3400 3 3 .i32 rExpert (-7) 5 0,
  st 0x3400 4 4 .u8 rExpert 2 10 3,
  st 0x3400 5 8 .i32 rExpert (-100000) 100000 0,
  st 0x3400 9 0x0C .u32 rExpert 0 10000 0,
  wo 0x3400 0x0D .u8 rExpert 1 1,
  { (ron 0x3400 0x0E .u32 fun s => s.live.wLock) with acc := .lv, role := rExpert, min := 10, max := 10000 },
  { (ron 0x3400 0x0F .u32 fun s => s.live.wUnlock) with acc := .lv, role := rExpert, min := 20, max := 100000 },
  st 0x3400 0x10 0x10 .u32 rExpert 1000 1000000000 10000,
  st 0x3400 0x11 0x11 .u8 rExpert 0 7 7,
  rof 0x5400 1 .u32 Reg.monFails,
  ro 0x5400 2 3 .u32 fun s _ k => leBytes 4 (SMap.get 0 s.ptp.syncs (k - 2)),
  ron 0x5400 4 .u32 fun s => s.ptp.timeouts,
  ron 0x5400 5 .u32 fun s => s.ptp.discarded,
  ron 0x5400 6 .u32 fun s => s.launchRefused,
  rof 0x5400 7 .u32 Reg.tmbDisc,
  ron 0x5400 8 .u32 fun s => s.ptp.stepsRefused ]

/-- Network (R333). -/
def odRows6 : List OdRow := [
  st 0x2500 1 1 .u32 rEngineer 0 (2 ^ 32 - 1) 0,
  st 0x2500 0x10 0x11 .u32 rEngineer 0 (2 ^ 32 - 1) 0,
  st 0x2500 0x12 0x12 .u8 rEngineer 0 32 24,
  st 0x2500 0x13 0x15 .u32 rEngineer 0 (2 ^ 32 - 1) 0,
  st 0x2500 0x16 0x16 .u8 rEngineer 0 32 24,
  st 0x2500 0x17 0x17 .u32 rEngineer 0 (2 ^ 32 - 1) 0,
  st 0x2500 0x18 0x18 .u32 rEngineer 0 (2 ^ 32 - 1) 0xC0A84828,
  st 0x2500 0x19 0x19 .u32 rEngineer 0 (2 ^ 32 - 1) 0xC0A84829,
  st 0x2500 0x1A 0x1A .u8 rEngineer 0 32 24,
  st 0x2500 0x1B 0x1B .u32 rEngineer 0 (2 ^ 32 - 1) 0,
  st 0x2500 0x20 0x21 .u16 rEngineer 0 4094 0,
  st 0x2500 0x22 0x22 .u8 rEngineer 0 7 6,
  st 0x2500 0x23 0x23 .u8 rEngineer 0 7 4,
  (stb 0x2540 0 0x1F (.octets 16 16) rEngineer fun _ => List.replicate 16 0#8).each 8 1,
  (stb 0x2560 0 0x1F (.octets 24 24) rEngineer fun _ =>
    List.replicate 7 0#8 ++ 3#8 :: List.replicate 16 0#8).each 8 1,
  stb 0x2580 0 0x1F (.octets 8 8) rEngineer fun _ => List.replicate 8 0#8,
  ro 0x5500 1 3 .u32 fun s _ k => leBytes 4 (SMap.get 0 s.net.macDisc (k - 1)),
  ron 0x5500 4 .u32 fun s => s.net.peerDisc,
  ron 0x5500 5 .u32 fun s => s.net.peerElem,
  ron 0x5500 6 .u32 fun s => s.net.relays,
  ron 0x5500 7 .u32 fun s => s.net.vopDropped,
  ron 0x5500 8 .u32 fun s => s.net.hsRefused ]

/-- CAN (R384); channel `n` adds n × 10h. -/
def odRows7 : List OdRow := [
  st 0x2600 1 1 .u16 rEngineer 0 65535 0,
  (st 0x8000 1 1 .u8 rEngineer 0 3 2).each 16 16,
  (st 0x8000 2 2 .u8 rEngineer 0 5 2).each 16 16,
  (ro 0x8000 3 3 .u8 fun s n _ => leBytes 1 (s.get (Reg.canState n))).each 16 16,
  (ro 0x8000 4 4 .u8 fun s n _ => leBytes 1 (s.get (Reg.canTec n))).each 16 16,
  (ro 0x8000 5 5 .u8 fun s n _ => leBytes 1 (s.get (Reg.canRec n))).each 16 16,
  (ro 0x8000 6 6 .u8 fun s n _ => leBytes 1 (s.get (Reg.canClass n))).each 16 16,
  (wo 0x8000 7 .bool rEngineer 1 1).each 16 16,
  (st 0x8001 1 1 .u16 rExpert 1 256 2).each 16 16,
  (st 0x8001 2 2 .u16 rExpert 2 256 31).each 16 16,
  (st 0x8001 3 4 .u16 rExpert 1 128 8).each 16 16,
  (st 0x8001 5 5 .u8 rExpert 1 32 1).each 16 16,
  (st 0x8001 6 6 .u8 rExpert 1 32 15).each 16 16,
  (st 0x8001 7 8 .u8 rExpert 1 16 4).each 16 16,
  (st 0x8001 9 9 .bool rExpert 0 1 1).each 16 16,
  (st 0x8001 0x0A 0x0A .u8 rExpert 0 127 16).each 16 16,
  (st 0x8001 0x0B 0x0B .u32 rExpert 0 600000 0).each 16 16,
  (ro 0x8002 1 0x0B .u32 fun s n k => leBytes 4 (s.get (Reg.canCnt n (k - 1)))).each 16 16,
  (stb 0x8004 0 0xFF (.octets 8 8) rExpert fun _ => List.replicate 8 0#8).each 16 16,
  (stb 0x8006 0 0x7F (.octets 12 12) rExpert fun _ => List.replicate 12 0#8).each 16 16 ]

/-- Loop inputs and outputs (R407). -/
def odRows8 : List OdRow := [
  ro 0x2700 1 1 .f64 fun s _ _ => leBytes 8 ((Frac.mk (s.get Reg.fsupVolt) 100).toF64 .nearest).toNat,
  (st 0x2710 1 1 .bool rEngineer 0 1 0).each 16 1,
  (st 0x2710 2 2 .u8 rEngineer 0 63 0).each 16 1,
  (st 0x2710 3 3 .u32 rEngineer 1000 3600000 2000).each 16 1,
  (st 0x2710 4 4 .u8 rEngineer 0 15 0).each 16 1,
  (ro 0x2710 5 5 .u8 fun s c _ => leBytes 1 (s.get (Reg.cstState c))).each 16 1,
  (ro 0x2710 6 6 .u8 fun s c _ => leBytes 1 (s.get (Reg.cstDevst c))).each 16 1,
  (stb 0x8100 1 2 .f64 rEngineer fun k => f64Bytes (if k = 1 then 0 else f64Hundred)).each 8 16,
  (st 0x8100 3 3 .u8 rEngineer 0 2 0).each 8 16,
  (stb 0x8100 4 5 .f64 rEngineer fun k => f64Bytes (if k = 4 then 0x400E666666666666 else 0x4034800000000000)).each 8 16,
  (stb 0x8100 6 6 .f64 rEngineer fun _ => f64Bytes 0).each 8 16,
  (ro 0x8100 7 9 .f64 fun s n k =>
    mAmp (s.get (if k = 7 then Reg.aoC n else if k = 8 then Reg.aoOwn n else Reg.aoTot n))).each 8 16,
  (ro 0x8100 0x0A 0x0A .f64 fun s n _ => leBytes 8 ((Frac.mk (s.get (Reg.aoHead n)) 1000).toF64 .nearest).toNat).each 8 16,
  (ro 0x8100 0x0B 0x0B .u16 fun s n _ => leBytes 2 (s.get (Reg.aoFlags n))).each 8 16,
  (stb 0x8101 1 2 (.octets 16 16) rExpert fun _ => f64Bytes f64Four ++ f64Bytes f64Twenty).each 8 16,
  (stb 0x8102 0 0x20 .f64 rExpert fun k => leBytes 8 ((Frac.mk k 32).toF64 .nearest).toNat).each 8 16,
  (stb 0x8200 1 2 .f64 rEngineer fun k => f64Bytes (if k = 1 then 0 else f64Hundred)).each 8 16,
  (st 0x8200 3 3 .u8 rEngineer 0 2 0).each 8 16,
  (stb 0x8200 4 4 .f64 rEngineer fun _ => f64Bytes 0x3F847AE147AE147B).each 8 16,
  (ro 0x8200 5 6 .f64 fun s n k =>
    leBytes 8 (if k = 5 then (s.ai n).word1 else (s.ai n).word0).val.toNat).each 8 16,
  (ro 0x8200 7 7 .f64 fun s n _ => mAmp (BitVec.ofNat 32 (s.get (Reg.aiDev n))).toInt).each 8 16,
  (ro 0x8200 8 8 .u16 fun s n _ => leBytes 2 (s.get (Reg.aiFlags n))).each 8 16,
  (wo 0x8200 9 .bool rEngineer 1 1).each 8 16,
  (stb 0x8201 1 2 (.octets 32 32) rExpert fun _ =>
    f64Bytes f64Four ++ f64Bytes f64Twenty ++ f64Bytes f64Four ++ f64Bytes f64Twenty).each 8 16,
  (stb 0x8202 0 0x20 .f64 rExpert fun k => leBytes 8 ((Frac.mk k 32).toF64 .nearest).toNat).each 8 16,
  ron 0x5700 1 .u32 fun s => s.alp.mismatches,
  ron 0x5700 2 .u32 fun s => s.alp.compliance,
  ron 0x5700 3 .u32 fun s => s.alp.engagements,
  ron 0x5700 4 .u32 fun s => (List.range 16).foldl (fun n c => n + s.get (Reg.cerr c)) 0 ]

/-- Memory protection, check values, recorder (R423, R435, R453). -/
def odRows9 : List OdRow := [
  rof 0x2800 1 .u32 Reg.vioCnt,
  ron 0x2800 2 .u32 fun s => if s.flag Reg.vioValid then s.get Reg.vioAddr else 0,
  rof 0x2800 3 .u8 Reg.vioMaster,
  rof 0x2800 4 .u8 Reg.vioCause,
  rof 0x2800 5 .u8 Reg.vioRegion,
  wo 0x2800 6 .bool rEngineer 1 1,
  ro 0x3800 0 0x3F (.octets 16 16) fun s _ k => s.regionBytes k,
  ron 0x5800 1 .u32 fun s => s.mpu.ruleRefused,
  ron 0x5800 2 .u32 fun s => s.mpu.dbgLocked,
  rof 0x2900 1 .u8 Reg.cvuFault,
  ro 0x2900 2 2 .time fun s _ _ => timeBytes s.cvu.testAt,
  ro 0x5900 1 4 .u32 fun s _ k => leBytes 4 (SMap.get 0 s.cvu.errors (k - 1)),
  rof 0x2A00 1 .u32 Reg.evrHead,
  rof 0x2A00 2 .u32 Reg.evrTail,
  rof 0x2A00 3 .u32 Reg.evrOptime,
  rof 0x2A00 4 .u32 Reg.evrPcycle,
  rof 0x2A00 5 .u32 Reg.evrNumber,
  rof 0x2A00 6 .bool Reg.evrFault,
  (ro 0x2A10 0 0xFF (.octets 0 1024) fun _ c k => Config.eventList c k).each 16 1,
  st 0x3A00 1 1 .u16 rExpert 0 65535 0,
  ron 0x5A00 1 .u32 fun s => s.evr.written,
  ron 0x5A00 2 .u32 fun s => s.evr.repeats,
  ron 0x5A00 3 .u32 fun s => s.evr.refused,
  ron 0x5A00 4 .u32 fun s => s.evr.mirrored,
  ron 0x5A00 5 .u32 fun s => s.evr.gaps,
  ron 0x5A00 6 .u32 fun s => s.evr.overwritten,
  ron 0x5A00 7 .u32 fun s => s.evr.suppressed,
  ron 0x5A00 8 .u32 fun s => s.evr.updDropped ]

/-- Program exchange, firmware, hardware interfaces (R201, R481, R506). -/
def odRowsA : List OdRow := [
  rof 0x2B00 1 .u8 Reg.xchActive,
  ron 0x2B00 2 .u64 fun s => s.get (Reg.xchId 0) + 2 ^ 32 * s.get (Reg.xchId 1),
  ron 0x2B00 3 .u64 fun s => s.get (Reg.xchId 2) + 2 ^ 32 * s.get (Reg.xchId 3),
  wo 0x2B00 4 (.octets 1 0x2000000) rEngineer 0 0,
  wo 0x2B00 5 (.octets 16 16) rEngineer 0 0,
  rof 0x2B00 6 .u8 Reg.xchState,
  rof 0x2B00 7 .u8 Reg.xchErr,
  st 0x2B00 8 8 .u16 rEngineer 1 65535 1000,
  rof 0x2B00 9 .u16 Reg.repSeq,
  rof 0x2B00 0x0A .u32 Reg.xchDiff,
  rof 0x2B00 0x0B .u8 Reg.rstKind,
  rof 0x2B00 0x0C .u8 Reg.rstWref,
  (ro 0x2B10 0 0xFF (.octets 0 34) fun s n k => nthOr s.xch.report (n * 256 + k) [] reportEntry).each 16 1,
  rof 0x3B00 1 .u32 Reg.xchDirtys,
  rof 0x3B00 2 .u32 Reg.xchDirtyr,
  rof 0x3B00 3 .u8 Reg.xchDirtycan,
  wo 0x2C00 1 (.octets 1 0x800000) rExpert 0 0,
  wo 0x2C00 2 .u8 rExpert 0 1,
  ro 0x2C00 3 4 .u16 fun s _ k => leBytes 2 (s.fwRelease (k - 3)),
  wo 0x2C00 5 .bool rExpert 1 1,
  rof 0x2C00 6 .u8 Reg.fwminMajor,
  rof 0x5F00 1 .u32 Reg.aloss,
  rof 0x5F00 2 .u32 Reg.bloss,
  rof 0x5F00 3 .u32 Reg.mnbNaks,
  ro 0x5F00 4 4 .i32 fun s _ _ => leBytes 4 (BitVec.ofInt 32 (BitVec.ofNat 8 (s.temp 1)).toInt).toNat ]

/-- Staging (R310). -/
def odRowsB : List OdRow := [
  ron 0x4000 1 .u8 fun s => s.tarn.state,
  ron 0x4000 2 .u16 fun s => s.tarn.entries.length,
  ron 0x4000 3 .u32 fun s => s.tarn.seq,
  wo 0x4000 4 (.octets 16 16) rEngineer 0 0,
  ron 0x4000 5 .u8 fun s => s.tarn.last,
  ron 0x4000 6 .u8 fun s => min 255 s.tarn.failCount,
  ron 0x4000 7 .u32 fun s => s.tarn.gen,
  ro 0x4000 8 8 .time fun s _ _ => timeBytes s.tarn.lastB,
  ro 0x4000 9 9 (.octets 8 8) fun s _ _ => leBytes 8 s.tarn.lastClient,
  ron 0x4000 0x0A .u16 fun s => s.tarn.foreign,
  ron 0x4000 0x0B .u8 fun s => s.tarn.history.length,
  ro 0x4010 1 0x20 (.octets 8 8) fun s _ k => nthOr s.tarn.fails (k - 1) (List.replicate 8 0#8) failBytes,
  wo 0x4020 1 (.octets 1 1024) rExpert 0 0,
  ron 0x4020 2 .u16 fun s => if s.live.inconsistent then 1 else 0,
  ron 0x4020 3 .u16 fun s => if s.live.inconsistent then 0x0401 else 0xFFFF,
  ro 0x4030 1 0x40 (.octets 22 22) fun s _ k => nthOr s.tarn.history (k - 1) (List.replicate 22 0#8) histBytes,
  (ro 0x4080 0 0xFF (.octets 0 1024) fun s n k => nthOr s.tarn.entries (n * 256 + k) [] tarnEntryBytes).each 8 1 ]

/-- DESIGN CHOICE (log 66, 70). -/
def odTable : List OdRow :=
  odRows1 ++ (odRows2 ++ (odRows3 ++ (odRows4 ++ (odRows5 ++ (odRows6 ++ (odRows7 ++ (odRows8 ++ (odRows9 ++ (odRowsA ++ odRowsB)))))))))

/-- Whether a row names an object, and its channel, task or window number `k`. -/
def OdRow.hit (r : OdRow) (i k : Nat) : Bool :=
  decide (r.index ≤ i) && (i - r.index) % r.step == 0 && decide ((i - r.index) / r.step < r.count)
    && decide (r.lo ≤ k) && decide (k ≤ r.hi)

/-- The object of an index and subindex (R283). -/
def odFind (i k : Nat) : Option OdRow := odTable.find? fun r => r.hit i k

def OdRow.unit (r : OdRow) (i : Nat) : Nat := (i - r.index) / r.step

/-- A subindex of R149 that does not apply to the kind of task. -/
def odForeign (i k : Nat) : Bool :=
  if 0x2110 ≤ i ∧ i < 0x2128 then (if i < 0x2120 then k == 7 || k == 8 else k == 2 || k == 3)
  else if 0x3110 ≤ i ∧ i < 0x3128 then (if i < 0x3120 then k == 4 || k == 5 else k == 1)
  else false

/-- Key of a value of the committed configuration. -/
def odKey (i k : Nat) : Nat := i * 256 + k

/-- The committed value of a staged object in a configuration: listed, or the default. -/
def odStaged (s : State) (cfg : SMap Bytes) (r : OdRow) (i k : Nat) : Bytes :=
  match SMap.find cfg (odKey i k) with
  | some b => b
  | none => r.value s (r.unit i) k

/-! Basic CAN choices (R362) -/

/-- BRP, SEG1, SEG2, SJW of a nominal choice. -/
def nominalChoice (c : Nat) : List Nat := [8 / 2 ^ c, 31, 8, 8]

/-- BRP, SEG1, SEG2, SJW, TDC enable, TDC offset of a data choice 1 to 5; choice 1 has no offset. -/
def dataChoice (c : Nat) : List Nat :=
  match c with
  | 1 => [1, 31, 8, 8, 0]
  | 2 => [1, 15, 4, 4, 1, 16]
  | 3 => [1, 7, 2, 2, 1, 8]
  | 4 => [1, 5, 2, 2, 1, 6]
  | _ => [1, 3, 1, 1, 1, 4]

/-- The expert fields of a channel in a configuration, subindices `lo` to `hi` of 8001h. -/
def canExpert (s : State) (cfg : SMap Bytes) (n lo hi : Nat) : List Nat :=
  (List.range (hi + 1 - lo)).map fun j =>
    match odFind (0x8001 + 16 * n) (lo + j) with
    | some r => leNat (odStaged s cfg r (0x8001 + 16 * n) (lo + j))
    | none => 0

/-- A basic rate object reads as the choice that the expert fields match, else as EXPERT_SET (R291). -/
def canChoice (s : State) (cfg : SMap Bytes) (n k : Nat) : Nat :=
  if k = 1 then
    match (List.range 4).find? (fun c => canExpert s cfg n 1 4 == nominalChoice c) with
    | some c => c
    | none => 0xFF
  else
    let zero := match SMap.find cfg (odKey (0x8000 + 16 * n) 2) with
      | some b => leNat b == 0
      | none => false
    if zero then 0
    else
      match [1, 2, 3, 4, 5].find? (fun c => (canExpert s cfg n 5 10).take (dataChoice c).length == dataChoice c) with
      | some c => c
      | none => 0xFF

def isCanChoice (i k : Nat) : Bool :=
  decide (0x8000 ≤ i) && decide (i < 0x8100) && i % 16 == 0 && (k == 1 || k == 2)

/-- A read of an object (R283, R288, R294): its bytes, or the refusal code. -/
def State.odRead (s : State) (i k : Nat) : Except Nat Bytes :=
  match odFind i k with
  | none => .error 1
  | some r =>
    if r.acc = .wo then .error 3
    else if odForeign i k then .ok (List.replicate r.ty.size 0#8)
    else if r.acc = .st then
      if isCanChoice i k then .ok (leBytes 1 (canChoice s s.cfg ((i - 0x8000) / 16) k))
      else .ok (odStaged s s.cfg r i k)
    else .ok (r.value s (r.unit i) k)

/-! Writing: encodings and ranges (R286, R287) -/

/-- Valid UTF-8 without a zero byte. -/
def utf8Ok : Nat → Bytes → Bool
  | 0, l => l.isEmpty
  | _, [] => true
  | fuel + 1, b :: l =>
    let v := b.toNat
    let cont (n : Nat) : Bool := decide (n ≤ l.length) && (l.take n).all fun c => decide (128 ≤ c.toNat) && decide (c.toNat < 192)
    let c1 := (l.headD 0#8).toNat
    if v = 0 then false
    else if v < 128 then utf8Ok fuel l
    else if 0xC2 ≤ v ∧ v < 0xE0 then cont 1 && utf8Ok fuel (l.drop 1)
    else if 0xE0 ≤ v ∧ v < 0xF0 then
      cont 2 && (v != 0xE0 || decide (0xA0 ≤ c1)) && (v != 0xED || decide (c1 < 0xA0)) && utf8Ok fuel (l.drop 2)
    else if 0xF0 ≤ v ∧ v < 0xF5 then
      cont 3 && (v != 0xF0 || decide (0x90 ≤ c1)) && (v != 0xF4 || decide (c1 < 0x90)) && utf8Ok fuel (l.drop 3)
    else false

/-- The bytes are an accepted encoding of the type (R287). -/
def OdTy.encodes (t : OdTy) (b : Bytes) : Bool :=
  match t with
  | .str => decide (1 ≤ b.length) && decide (b.length ≤ 255) && utf8Ok (b.length + 1) b
  | .octets lo hi => decide (max 1 lo ≤ b.length) && decide (b.length ≤ hi)
  | .bool => b.length == 1 && decide (leNat b ≤ 1)
  | .f64 => b.length == 8 && (match FNum.ofBits (BitVec.ofNat 64 (leNat b)) with | .fin _ _ _ => true | _ => false)
  | .tagword => b.length == 9 && decide ((b.getD 8 0#8).toNat % 16 < 8)
  | t => b.length == t.size

/-- The number that bytes of an integer type give. -/
def OdTy.num (t : OdTy) (b : Bytes) : Int :=
  match t with
  | .i32 => (BitVec.ofNat 32 (leNat b)).toInt
  | .i64 => (BitVec.ofNat 64 (leNat b)).toInt
  | .time => (BitVec.ofNat 64 (leNat b)).toInt
  | _ => leNat b

/-- The value lies in the object's range; the bound 0.1 of a binary64 object is the binary64 value of 0.1 (R407). -/
def OdRow.inRange (r : OdRow) (k : Nat) (b : Bytes) : Bool :=
  match r.ty with
  | .str => true
  | .tagword => true
  | .f64 => !(r.index == 0x8200 && k == 4) ||
      (let f := Frac.ofF64 (BitVec.ofNat 64 (leNat b))
       !f.lt ⟨0, 1⟩ && !(Frac.ofF64 0x3FB999999999999A#64).lt f)
  | .octets _ _ =>
    if r.index = 0x8004 then decide (leNat (b.take 1) ≤ 2)
    else if r.index = 0x2540 then decide (1 ≤ leNat ((b.drop 2).take 2)) && decide (leNat ((b.drop 2).take 2) ≤ 512)
    else if r.index = 0x2560 then decide (1 ≤ leNat ((b.drop 7).take 1)) && decide (leNat ((b.drop 7).take 1) ≤ 15)
    else if r.index = 0x1200 ∧ k = 3 then b.length == 12 || b.length == 108
    else true
  | t =>
    let v := t.num b
    decide (r.min ≤ v) && decide (v ≤ r.max)
      && !(r.index == 0x2110 && k == 2 && v % 125 != 0)
      && !(r.index == 0x8100 && k == 3 && v == 1)
      && !(r.index == 0x1120 && k == 1 && decide (15 < v) && v != 255)
      && !(r.index == 0x3100 && k == 1 && decide (v < 30))

/-- The refusal of a write for its bytes (R287): TYPE, RANGE or none. DEDUCED (log 65). -/
def OdRow.refuses (r : OdRow) (k : Nat) (b : Bytes) : Option Nat :=
  if !r.ty.encodes b then some 6
  else if !r.inRange k b then some 7
  else none

end Sys2Proof.Machine
end

