-- ==== Sys2Proof/Machine/CfgOps.lean ====
section
/-! DEFINITION. The committed configuration (R291 to R305): the limits and consistency rules that a set must meet, its
application to the registers, and the copies in the retentive window. -/

namespace Sys2Proof.Machine

/-- The committed or default value of a staged object. DESIGN CHOICE (log 66). -/
def State.od (s : State) (i k : Nat) : Bytes :=
  match odFind i k with
  | some r => odStaged s s.cfg r i k
  | none => []

def State.odNat (s : State) (i k : Nat) : Nat := leNat (s.od i k)

def State.odFrac (s : State) (i k : Nat) : Frac := Frac.ofF64 (BitVec.ofNat 64 (s.odNat i k))

/-! Images and tasks -/

def State.imgOf (s : State) (slot : Nat) : Option Image := if slot = 0 then s.xch.imgA else s.xch.imgB

/-- A slot holds a loaded, valid image (R200). -/
def State.slotValid (s : State) (slot : Nat) : Bool :=
  s.flag (if slot = 0 then Reg.xchAvalid else Reg.xchBvalid) && (s.imgOf slot).isSome

def State.activeImg (s : State) : Option Image := if s.slotValid s.activeSlot then s.imgOf s.activeSlot else none

def Image.taskOf (m : Image) (n : Nat) : Option TaskDesc := m.tasks.find? fun t => t.task == n

/-- A task's entry as the limits and the admission test see it (R115, R116, R122). -/
structure TaskPar where
  num : Nat
  pair : Nat
  safety : Bool
  skip : Nat
  period : Nat
  phase : Nat
  offset : Nat
  budget : Nat
  points : Nat
  mint : Nat
  deriving DecidableEq, Repr

/-- Tasks that the configuration enables and the image defines (R115). -/
def State.taskPars (s : State) (m : Option Image) : List TaskPar :=
  (List.range 24).filterMap fun n =>
    let i := 0x2110 + n
    match m with
    | none => none
    | some g =>
      match g.taskOf n with
      | none => none
      | some d =>
        if s.odNat i 1 = 0 then none
        else some ⟨n, s.odNat i 4, s.odNat i 5 != 0, s.odNat i 6, s.odNat i 2 / 125, s.odNat (0x3110 + n) 1, s.odNat i 3,
          d.budget, d.snap.length, s.odNat i 8⟩

/-- The limits of R116; `split` is a split mask. -/
def TaskPar.limits (t : TaskPar) (split : Nat) : Bool :=
  decide (t.pair ≤ 11) && decide (1 ≤ t.skip) && decide (1 ≤ t.budget) && decide (t.budget < 2 ^ 32) && !(t.safety && split.testBit t.pair) &&
    (if t.num < 16 then
      decide (2 ≤ t.period) && decide (t.period ≤ 480000) && decide (t.phase < t.period) && decide (5 ≤ t.offset)
        && decide (t.offset + 25 ≤ t.period * 125)
     else decide (250 ≤ t.mint) && decide (t.mint ≤ 60000000))

/-- The execution place of a task under a split mask (R225). -/
def TaskPar.place (t : TaskPar) (split : Nat) : Nat := coreKey t.pair (split.testBit t.pair && t.num % 2 == 1)

/-- Numbers from 32 on are trial tasks (R180). -/
def TaskPar.trial (t : TaskPar) : Bool := decide (32 ≤ t.num)
def TaskPar.cyclic (t : TaskPar) : Bool := decide (t.num % 32 < 16)

/-- Priority of cyclic tasks on one place (R121); a trial task is below every other one (R180). -/
def TaskPar.above (a b : TaskPar) : Bool :=
  if a.trial != b.trial then b.trial
  else decide (a.period < b.period) || (a.period == b.period && decide (a.num < b.num))

/-- Times of the admission test in units of 10^-4 ns: budget, and the fixed terms of R122. -/
def TaskPar.cost (t : TaskPar) : Nat := t.budget * 15625
def us (n : Nat) : Nat := n * 10000000
def overhead : Nat := 75000000

/-- Snapshot and distribution time D of R122 for a task among `l`. -/
def admD (l : List TaskPar) (t : TaskPar) : Nat :=
  let n := (l.filter fun j => j.cyclic && (let g := Nat.gcd t.period j.period
    t.phase % g == j.phase % g)).foldl (fun a j => a + j.points) 0
  us (ceilDiv n 512) + n * 41000 + 16000000

/-- One evaluation of r in R122 from its last value. -/
def admStep (l : List TaskPar) (split : Nat) (t : TaskPar) (r : Nat) : Nat :=
  let here := l.filter fun j => j.place split == t.place split && j.num != t.num
  let cyc := here.filter fun j => j.cyclic && j.above t
  let urg := here.filter fun j => !j.cyclic && (t.trial || !j.trial)
  admD l t + t.cost + us 1
    + cyc.foldl (fun a j => a + ceilDiv r (us (j.period * 125)) * (j.cost + us 1 + overhead)) 0
    + urg.foldl (fun a u => a + ceilDiv r (us u.mint) * (u.cost + overhead)) 0

/-- The iteration of R122; the fuel exceeds the number of activations that fit in the longest period. -/
def admLoop (l : List TaskPar) (split : Nat) (t : TaskPar) : Nat → Nat → Bool
  | 0, _ => false
  | fuel + 1, r =>
    let r1 := admStep l split t r
    if us t.offset < r1 then false else if r1 = r then true else admLoop l split t fuel r1

/-- The test of an urgent task (R122). -/
def admUrgent (l : List TaskPar) (split : Nat) (u : TaskPar) : Bool :=
  let other := l.filter fun v => v.place split == u.place split && v.num != u.num && !v.cyclic && (u.trial || !v.trial)
  decide (35000000 + u.cost + 2000000 + other.foldl (fun a v => a + ceilDiv (us u.mint) (us v.mint) * (v.cost + overhead)) 0
    ≤ us u.mint)

/-- The admission test of a set of tasks (R122). -/
def admitted (l : List TaskPar) (split : Nat) : Bool :=
  l.all fun t => if t.cyclic then admLoop l split t 8000000 (admD l t + t.cost + us 1) else admUrgent l split t

/-! A set's effect on the configuration -/

/-- One staged value in a configuration; a basic CAN rate sets the expert fields (R291, R362). A data choice of 0, which sets
none, is kept as the value of 8000h.02, which then reads as 0 whatever the expert fields match, until an entry of one of
them overwrites it. DESIGN CHOICE (log 140). -/
def putCfg (cfg : SMap Bytes) (i k : Nat) (b : Bytes) : SMap Bytes :=
  let fields (c : SMap Bytes) (lo : Nat) (l : List Nat) : SMap Bytes :=
    (l.zipIdx).foldl (fun c e => SMap.set c (odKey (i + 1) (lo + e.2)) (leBytes (if lo + e.2 ≤ 4 then 2 else 1) e.1)) c
  if isCanChoice i k then
    let c := leNat b
    let cfg1 := SMap.set cfg (odKey i k) b
    if k = 1 then fields cfg1 1 (nominalChoice c) else if c = 0 then cfg1 else fields cfg1 5 (dataChoice c)
  else if 0x8000 ≤ i ∧ i < 0x8100 ∧ i % 16 = 1 ∧ 5 ≤ k ∧ k ≤ 10 then
    SMap.set (SMap.set cfg (odKey (i - 1) 2) [0xFF#8]) (odKey i k) b
  else SMap.set cfg (odKey i k) b

def applyEntries (cfg : SMap Bytes) (l : List TarnEntry) : SMap Bytes := l.foldl (fun c e => putCfg c e.index e.sub e.value) cfg

/-- The configuration with the Tarn's set applied. -/
def State.candidate (s : State) : SMap Bytes := applyEntries s.cfg s.tarn.entries

/-! Consistency rules (R298, R227, R382, R404, R443) -/

/-- An entry's number in the Tarn, 0xFFFF for none. -/
def State.entryNo (s : State) (i k : Nat) : Nat :=
  match s.tarn.entries.findIdx? fun e => e.index == i && e.sub == k with
  | some n => n
  | none => 0xFFFF

/-- A failing rule that concerns an object. -/
def State.failAt (s : State) (rule i k : Nat) : Nat × Nat × Nat × Nat := (rule, i, k, s.entryNo i k)

/-- Minimum role of a set (R296). -/
def State.setRole (s : State) (cfg : SMap Bytes) : Nat :=
  s.tarn.entries.foldl (fun m e =>
    let r := match odFind e.index e.sub with | some r => r.role | none => 0
    let task := if 0x2110 ≤ e.index ∧ e.index < 0x2128 then some (e.index - 0x2110)
      else if 0x3110 ≤ e.index ∧ e.index < 0x3128 then some (e.index - 0x3110) else none
    let safe := match task with
      | some n => s.odNat (0x2110 + n) 5 != 0 || ({ s with cfg := cfg } : State).odNat (0x2110 + n) 5 != 0
      | none => false
    max m (max r (if safe then rExpert else 0))) rEngineer

/-- The expert subindices that a basic rate choice sets (R291, R362): a data choice of 0 sets none, one with the
compensation off sets no offset. -/
def choiceSets (k c : Nat) : List Nat :=
  if k = 1 then [1, 2, 3, 4] else if c = 0 then [] else (List.range (dataChoice c).length).map (5 + ·)

/-- Basic and expert entries that set one field (R291). -/
def overlaps (l : List TarnEntry) : List (Nat × Nat) :=
  (l.filter fun e => isCanChoice e.index e.sub).filterMap fun e =>
    if l.any (fun x => x.index == e.index + 1 && (choiceSets e.sub (leNat e.value)).contains x.sub) then some (e.index, e.sub)
    else none

/-- Registers that an entry's application writes, by a number for each (R300): of a message object two, of a filter element
three, of the network objects none. DESIGN CHOICE (log 141). -/
def entryRegs (i k : Nat) : List Nat :=
  let g := i * 256
  if i = 0x2100 then [g]
  else if 0x2110 ≤ i ∧ i < 0x2128 then (if k = 2 then [g + 2] else if k = 3 then [g + 3] else if k = 7 then [g + 7]
    else if k = 8 then [g + 8] else [g])
  else if 0x3110 ≤ i ∧ i < 0x3128 then (if k = 1 then [g] else [(0x2110 + (i - 0x3110)) * 256 + 7])
  else if i = 0x3100 then (if k = 3 then [g + 3] else [0x2100 * 256])
  else if i = 0x3000 then (if k ≤ 0x11 then [g] else if k = 0x20 then [g + 2] else [g + 1])
  else if i = 0x2300 ∨ i = 0x3300 then [0x2300 * 256]
  else if i = 0x2400 then (if k ≤ 9 then [g] else [])
  else if i = 0x3400 then (if 5 ≤ k ∧ k ≤ 8 then [g + 5 + (k - 5) / 2] else if 9 ≤ k ∧ k ≤ 12 then [g + 9 + (k - 9) / 2]
    else if k = 0x11 then [0x2400 * 256] else [])
  else if i = 0x2B00 ∨ i = 0x3200 then [g]
  else if 0x2710 ≤ i ∧ i < 0x2720 then (if k = 1 then [0x2700 * 256] else if k = 2 then [g + 2] else [g + 3])
  else if 0x8000 ≤ i ∧ i < 0x8100 then
    let b := i / 16 * 16 * 256
    (match i % 16 with
     | 0 => if k = 1 then [b + 1] else [b + 2, b + 3]
     | 1 => if k ≤ 4 then [b + 1] else if k ≤ 9 then [b + 2] else if k = 10 then [b + 3] else []
     | 4 => [g * 16 + k * 2, g * 16 + k * 2 + 1]
     | _ => [g * 16 + k * 3, g * 16 + k * 3 + 1, g * 16 + k * 3 + 2])
  else if 0x8100 ≤ i ∧ i < 0x8300 then
    (match i % 16 with
     | 0 => if k ≤ 2 then [g + 2 * k, g + 2 * k + 1] else if i < 0x8200 ∧ (k = 4 ∨ k = 5) then [g + 20] else [g + 30 + k]
     | 1 => if i < 0x8200 then [g + 2 * k, g + 2 * k + 1] else [g + 4 * k, g + 4 * k + 1, g + 4 * k + 2, g + 4 * k + 3]
     | _ => [g + k])
  else []

/-- Rule 0x0601: limits of R361 and R363 for a channel. -/
def State.timingOk (s : State) (n : Nat) : Bool :=
  let e := canExpert s s.cfg n 1 10
  let v (k : Nat) : Nat := e.getD k 0
  let nq := (1 + v 1 + v 2) * v 0
  let dq := (1 + v 5 + v 6) * v 4
  decide (v 3 ≤ v 2) && decide (v 7 ≤ v 6) && decide (2 ≤ v 1) && decide (2 ≤ v 2) && decide (v 4 ≤ v 0)
    && decide (40 ≤ nq) && decide (5 ≤ dq) && decide (dq ≤ nq)

/-- A filter element's words from its object: FCTL, FID1, FID2. -/
def State.filterWord (s : State) (n e j : Nat) : Nat := leNat (((s.od (0x8006 + 16 * n) e).drop (4 * j)).take 4)

/-- Direction of a message object in the configuration. -/
def State.objDir (s : State) (n o : Nat) : Nat := leNat ((s.od (0x8004 + 16 * n) o).take 1)

/-- Rule 0x0602 for an element. -/
def State.filterOk (s : State) (n e : Nat) : Bool :=
  let f := s.filterWord n e 0
  let kind := f % 8
  decide (kind ≤ 4) && (kind == 0 || f.testBit 5 || s.objDir n (f / 256 % 256) == 1)

/-- Rule 0x0603: the objects and element that R331 reserves for VOP-C, which the module itself configures, are left unset in
the set. DEDUCED (log 71). -/
def State.vopcOk (s : State) : Bool :=
  let n := s.odNat 0x1120 1
  decide (15 < n) || (s.objDir n 254 == 0 && s.objDir n 255 == 0 && s.filterWord n 127 0 == 0)

/-- Rule 0x0604. -/
def State.urgentOk (s : State) : Bool :=
  let src (k : Nat) : Option (Nat × Nat) :=
    if s.odNat (0x2110 + k) 7 = 1 then some (s.odNat (0x3110 + k) 4, s.odNat (0x3110 + k) 5) else none
  (urgentTasks.all fun k => match src k with
    | some (c, e) => (s.filterWord c e 0).testBit 4
    | none => true) &&
  (s.cfg.all fun x =>
    let i := x.1 / 256
    !(decide (0x8000 ≤ i) && decide (i < 0x8100) && i % 16 == 6) || !(leNat (x.2.take 4)).testBit 4 ||
      urgentTasks.any fun k => src k == some ((i - 0x8006) / 16, x.1 % 256))

/-- Every CAN binding of an image names an object with its direction (R376): those that send, or with `both` those that
receive as well. -/
def State.bindDirOk (s : State) (both : Bool) (m : Option Image) : Bool :=
  match m with
  | none => true
  | some g => (g.signals.map Binding.ofWord).all fun b =>
      (!both || b.kind != bkCanRx || s.objDir b.ch b.sel == 1) && (b.kind != bkCanTx || s.objDir b.ch b.sel == 2)

/-- Rules 0x0701 to 0x0704 for a channel. -/
def State.trimOk (s : State) (i k : Nat) : Bool :=
  let b := s.od i k
  (List.range (b.length / 8)).all fun j =>
    let v := Frac.ofF64 (BitVec.ofNat 64 (leNat ((b.drop (8 * j)).take 8)))
    let nom : Frac := if j % 2 = 0 then .ofInt 4 else .ofInt 20
    !(v.lt (nom.sub ⟨1, 5⟩)) && !((nom.add ⟨1, 5⟩).lt v)

def State.tableOk (s : State) (i : Nat) (ao : Bool) : Bool :=
  (List.range 33).all fun k =>
    let v := s.odFrac i k
    (k == 0 || !(v.lt (s.odFrac i (k - 1)))) && (!ao || (!(v.lt ⟨-1, 4⟩) && !((Frac.mk 37 32).lt v)))

def State.rangeOk (s : State) (i : Nat) : Bool :=
  (s.odFrac i 1).lt (s.odFrac i 2) || (s.odFrac i 2).lt (s.odFrac i 1)

def State.limitsOk (s : State) (i : Nat) : Bool :=
  let top : Frac := ⟨45, 2⟩
  !((s.odFrac i 4).lt ⟨0, 1⟩) && (s.odFrac i 4).lt (s.odFrac i 5) && !(top.lt (s.odFrac i 5))
    && !((s.odFrac i 6).lt ⟨0, 1⟩) && !(top.lt (s.odFrac i 6))

/-- The rules over a configuration (`s.cfg` is the candidate), in rule order; `m` is the image that the task rules use, and
0x0605 looks at every image of `l` (R298, R382). DEDUCED (log 71). -/
def State.cfgRules (s : State) (old : State) (m : Option Image) (l : List (Option Image)) : List (Nat × Nat × Nat × Nat) :=
  let pars := s.taskPars m
  let inEff := s.get Reg.splitMask
  let new := s.odNat 0x3200 1
  let chans := List.range 16
  let whole (rule : Nat) (ok : Bool) : List (Nat × Nat × Nat × Nat) := if ok then [] else [(rule, 0, 0, 0xFFFF)]
  let at_ (rule i k : Nat) (ok : Bool) : List (Nat × Nat × Nat × Nat) := if ok then [] else [old.failAt rule i k]
  at_ 0x0001 0x3000 0x10 (decide (656 ≤ s.odNat 0x3000 0x10) && decide (s.odNat 0x3000 0x11 ≤ 64))
  ++ (pars.flatMap fun t => at_ 0x0101 (0x2110 + t.num) 1 (t.limits inEff && t.limits new))
  ++ whole 0x0102 (admitted pars inEff && admitted pars new)
  ++ at_ 0x0103 0x3100 1 (decide (30 ≤ s.odNat 0x3100 1))
  ++ whole 0x0104 (pars.all fun t => decide (t.num < 16) || s.odNat (0x2110 + t.num) 7 != 1 ||
      pars.all fun u => decide (u.num ≤ t.num) || s.odNat (0x2110 + u.num) 7 != 1 ||
        s.odNat (0x3110 + u.num) 4 != s.odNat (0x3110 + t.num) 4 || s.odNat (0x3110 + u.num) 5 != s.odNat (0x3110 + t.num) 5)
  ++ at_ 0x0201 0x3200 1 (new == old.odNat 0x3200 1 || (decide (new < 4096) &&
      pars.all (fun t => !t.safety || !(inEff.testBit t.pair || new.testBit t.pair)) &&
      admitted pars inEff && admitted pars new))
  ++ (chans.flatMap fun n => at_ 0x0601 (0x8001 + 16 * n) 1 (s.timingOk n))
  ++ (s.cfg.flatMap fun x =>
      let i := x.1 / 256
      if 0x8000 ≤ i ∧ i < 0x8100 ∧ i % 16 = 6 then at_ 0x0602 i (x.1 % 256) (s.filterOk ((i - 0x8006) / 16) (x.1 % 256)) else [])
  ++ whole 0x0603 s.vopcOk
  ++ whole 0x0604 s.urgentOk
  ++ whole 0x0605 (l.all (s.bindDirOk true))
  ++ ((List.range 8).flatMap fun n => at_ 0x0701 (0x8101 + 16 * n) 1 (s.trimOk (0x8101 + 16 * n) 1 && s.trimOk (0x8101 + 16 * n) 2)
      ++ at_ 0x0701 (0x8201 + 16 * n) 1 (s.trimOk (0x8201 + 16 * n) 1 && s.trimOk (0x8201 + 16 * n) 2))
  ++ ((List.range 8).flatMap fun n => at_ 0x0702 (0x8102 + 16 * n) 0 (s.tableOk (0x8102 + 16 * n) true)
      ++ at_ 0x0702 (0x8202 + 16 * n) 0 (s.tableOk (0x8202 + 16 * n) false)
      ++ at_ 0x0702 (0x8100 + 16 * n) 3 (s.odNat (0x8100 + 16 * n) 3 != 1))
  ++ ((List.range 8).flatMap fun n => at_ 0x0703 (0x8100 + 16 * n) 1 (s.rangeOk (0x8100 + 16 * n))
      ++ at_ 0x0703 (0x8200 + 16 * n) 1 (s.rangeOk (0x8200 + 16 * n)))
  ++ ((List.range 8).flatMap fun n => at_ 0x0704 (0x8100 + 16 * n) 4 (s.limitsOk (0x8100 + 16 * n)))
  ++ (chans.flatMap fun c => at_ 0x0705 (0x2710 + c) 4 (s.odNat (0x2710 + c) 1 == 0 ||
      (pars.any (fun t => t.num == s.odNat (0x2710 + c) 4 && decide (t.num < 16)) && decide (1000 ≤ s.odNat (0x2710 + c) 3))))
  ++ at_ 0x0A01 0x3A00 1 ((s.odNat 0x3A00 1) &&& 7 == 0 && !(s.odNat 0x3A00 1).testBit 13)

/-- Whether an exchange is pending (R39): pre-copy or window. -/
def State.exchPending (s : State) : Bool := s.xch.exch.isSome

/-- A commit set is pending before its Weir (R39). -/
def State.setPending (s : State) : Bool := decide (2 ≤ s.tarn.state)

/-- An entry of a set names a staged object and holds an encoding and value that it accepts (R287). -/
def entryOk (e : TarnEntry) : Bool :=
  match odFind e.index e.sub with
  | some r => r.acc == .st && (r.refuses e.sub e.value).isNone
  | none => false

/-- Every failing rule of the set in the Tarn, in rule order (R297, R298); `seqOk` is the comparison of 0xFF03 and
`partner` the partner's part of 0xFF07. 0xFF04 does not concern a set that was in CHECKING at a takeover (R302). A rule that
concerns the whole set is listed with index and subindex 0, and one that fails at several objects once for each.
DESIGN CHOICE (log 139). -/
def State.failingRules (s : State) (seqOk : Bool) (partner : Bool) : List (Nat × Nat × Nat × Nat) :=
  let t := s.tarn
  let cfg := s.candidate
  let active := s.imgOf s.activeSlot
  let img := if t.companion then s.imgOf s.idleSlot else active
  let whole (rule : Nat) (ok : Bool) : List (Nat × Nat × Nat × Nat) := if ok then [] else [(rule, 0, 0, 0xFFFF)]
  ({ s with cfg := cfg } : State).cfgRules s img (if t.companion then [active, img] else [active])
  ++ ((t.entries.zipIdx).flatMap fun e => if entryOk e.1 then [] else [(0xFF01, e.1.index, e.1.sub, e.2)])
  ++ whole 0xFF02 (decide (s.setRole cfg ≤ t.role))
  ++ whole 0xFF03 seqOk
  ++ whole 0xFF04 (t.alone || s.md.pend.isNone && (t.companion || !s.exchPending)
      && (!t.companion || (s.slotValid s.idleSlot && (s.xch.ran || s.exchPending)))
      && (s.mode != mPrimary || s.partnerMode == mStandby))
  ++ ((overlaps t.entries).map fun e => s.failAt 0xFF05 e.1 e.2)
  ++ whole 0xFF06 (decide ((t.entries.flatMap fun e => entryRegs e.index e.sub).eraseDups.length ≤ 640))
  ++ whole 0xFF07 partner
  ++ whole 0xFF08 (decide ((Config.cfgBody cfg).length ≤ 32752))

/-- A set that fails returns to OPEN (R297). DEDUCED (log 68). -/
def State.setFails (s : State) (l : List (Nat × Nat × Nat × Nat)) : State :=
  let foreign := (s.tarn.entries.filter fun e => e.client != s.tarn.client).length
  (s.setTarn fun t =>
    { t with state := 1, last := 2, failCount := l.length, fails := l.take 32, foreign := foreign, checkAt := none }).event
    .commitResult [2, l.length, s.tarn.client]

/-! Application (R301): the register writes of each object -/

/-- Fixed-point and nA values of a loop object. -/
def State.odScaled (s : State) (i k : Nat) (m : Int) : Int := ((s.odFrac i k).mul (.ofInt m)).round Config.ioRound

def word32 (v : Int) : Nat := (BitVec.ofInt 32 v).toNat

/-- A trim value of an OCTETS object in nA. -/
def State.trimNa (s : State) (i k j : Nat) : Nat :=
  let v := Frac.ofF64 (BitVec.ofNat 64 (leNat (((s.od i k).drop (8 * j)).take 8)))
  word32 ((v.mul (.ofInt 1000000)).round Config.ioRound)

/-- An urgent task that runs on under the old configuration and image (R146). -/
def State.runsOn (s : State) (n : Nat) : Bool := (s.task n).old.isSome

/-- The image part of a task entry (R115), and the enable that both sources decide. -/
def State.applyTaskImage (s : State) (n : Nat) : State :=
  let desc := match s.activeImg with | some m => m.taskOf n | none => none
  let en := desc.isSome && s.odNat (0x2110 + n) 1 != 0
  let s1 := match desc with
    | none => s
    | some d =>
      ([(Reg.tentry n, d.entry), (Reg.tbud n, d.budget), (Reg.tsnap n, d.snapAt), (Reg.tsnapc n, d.snap.length), (Reg.tscr n, d.scr),
        (Reg.tscrl n, d.scrLen), (Reg.tcfgDivpol n, if d.divpol then 1 else 0)]).foldl (fun (t : State) (e : Fld × Nat) => t.setEntry n e.1 e.2) s
  let s2 := s1.setEntry n (Reg.tcfgEn n) (if en then 1 else 0)
  if s.runsOn n then s2
  else if !en then s2.set (Reg.tstState n) tsDisabled
  else if s2.tstate n = tsDisabled then s2.set (Reg.tstState n) tsIdle else s2

/-- At a Weir, an exchange instant, a load and a start, an event for each task that the configuration enables and the image
lacks (R115). -/
def State.noteUndefined (s : State) (m : Option Image) : State :=
  let lacks (n : Nat) : Bool := match m with | some g => (g.taskOf n).isNone | none => true
  s.each ((List.range 24).filter fun n => s.odNat (0x2110 + n) 1 != 0 && lacks n) fun n t => t.event .stepRecorded [n]

def State.applyTask (s : State) (n k : Nat) : State :=
  let i := 0x2110 + n
  match k with
  | 1 => s.applyTaskImage n
  | 2 => s.setEntry n (Reg.tperN n) (s.odNat i 2 / 125)
  | 3 => s.setEntry n (Reg.toutOfs n) (s.odNat i 3)
  | 4 => s.setEntry n (Reg.tcfgPair n) (s.odNat i 4)
  | 5 => s.setEntry n (Reg.tcfgSafety n) (s.odNat i 5)
  | 6 => s.setEntry n (Reg.tcfgSkiplim n) (s.odNat i 6)
  | 7 => s.setEntry n (Reg.utrigSrc n) (s.odNat i 7)
  | 8 => s.setEntry n (Reg.umiatUs n) (s.odNat i 8)
  | _ => s

/-- Timing registers of a channel from the expert fields (R363, R364). -/
def State.applyTiming (s : State) (n : Nat) : State :=
  let e := canExpert s s.cfg n 1 10
  let v (k : Nat) : Nat := e.getD k 0
  let s1 := ((s.set (Reg.nbtBrp n) (v 0 - 1)).set (Reg.nbtSeg1 n) (v 1 - 1)).set (Reg.nbtSeg2 n) (v 2 - 1)
  let s2 := ((s1.set (Reg.nbtSjw n) (v 3 - 1)).set (Reg.dbtBrp n) (v 4 - 1)).set (Reg.dbtSeg1 n) (v 5 - 1)
  let s3 := ((s2.set (Reg.dbtSeg2 n) (v 6 - 1)).set (Reg.dbtSjw n) (v 7 - 1)).set (Reg.dbtTdc n) (v 8)
  (s3.set (Reg.tdcoOffset n) (v 9)).setChan n fun c => { c with newTiming := true }

/-- A message object's configuration (R365). -/
def State.applyObjCfg (s : State) (n o : Nat) : State :=
  let b := s.od (0x8004 + 16 * n) o
  let f := leNat ((b.drop 1).take 1)
  s.setObj n o fun x =>
    { x with dir := leNat (b.take 1), ide := f.testBit 0, fdf := f.testBit 1, brs := f.testBit 2,
             dlc := leNat ((b.drop 2).take 1) % 16, id := leNat ((b.drop 4).take 4) % 2 ^ 29 }

def State.applyFilter (s : State) (n e : Nat) : State :=
  let f := s.filterWord n e 0
  let s1 := ((s.set (Reg.fctlKind n e) f).setFlag (Reg.fctlIde n e) (f.testBit 3)).setFlag (Reg.fctlUrgent n e) (f.testBit 4)
  let s2 := (s1.setFlag (Reg.fctlReject n e) (f.testBit 5)).set (Reg.fctlObj n e) (f / 256)
  (s2.set (Reg.fid1 n e) (s.filterWord n e 1)).set (Reg.fid2 n e) (s.filterWord n e 2)

/-- A binary64 into two words of the table memory. -/
def State.setRange (s : State) (c o v : Nat) : State := (s.set (Reg.alpTab c o) v).set (Reg.alpTab c (o + 1)) (v / 2 ^ 32)

def State.applyAo (s : State) (n o k : Nat) : State :=
  let i := 0x8100 + 16 * n + o
  match o with
  | 0 =>
    match k with
    | 1 => s.setRange n 0x22 (s.odNat i 1)
    | 2 => s.setRange n 0x24 (s.odNat i 2)
    | 3 => s.set (Reg.alpTab n 0x21) (s.odNat i 3)
    | 4 => s.set (Reg.aoLimMin n) (s.odScaled i 4 1000).toNat
    | 5 => s.set (Reg.aoLimMax n) (s.odScaled i 5 1000).toNat
    | 6 => s.set (Reg.aoSafe n) (s.odScaled i 6 1000000).toNat
    | _ => s
  | 1 => (s.set (Reg.alpTab n (0x28 + 2 * (k - 1))) (s.trimNa i k 0)).set (Reg.alpTab n (0x29 + 2 * (k - 1))) (s.trimNa i k 1)
  | _ => s.set (Reg.alpTab n k) (word32 (s.odScaled i k (2 ^ 24)))

def State.applyAi (s : State) (n o k : Nat) : State :=
  let i := 0x8200 + 16 * n + o
  let c := n + 8
  match o with
  | 0 =>
    match k with
    | 1 => s.setRange c 0x22 (s.odNat i 1)
    | 2 => s.setRange c 0x24 (s.odNat i 2)
    | 3 => s.set (Reg.alpTab c 0x21) (s.odNat i 3)
    | 4 => s.set (Reg.alpTab c 0x26) (word32 (s.odScaled i 4 (2 ^ 24)))
    | _ => s
  | 1 =>
    let p := 2 * (k - 1)
    let s1 := (s.set (Reg.alpTab c (0x28 + p)) (s.trimNa i k 0)).set (Reg.alpTab c (0x29 + p)) (s.trimNa i k 1)
    (s1.set (Reg.alpTab c (0x2C + p)) (s.trimNa i k 2)).set (Reg.alpTab c (0x2D + p)) (s.trimNa i k 3)
  | _ => s.set (Reg.alpTab c k) (word32 (s.odScaled i k (2 ^ 24)))

/-- The channel that carries VOP-C, in the configuration in effect. -/
def State.isVopc (s : State) (n : Nat) : Bool := s.odNat 0x1120 1 == n

/-- The objects and the filter element that VOP-C uses (R331): object 254 takes the frames with the request identifier,
object 255 sends those with the response identifier. DEDUCED (log 71). -/
def State.vopcObjects (s : State) (n : Nat) : State :=
  let obj (dir v : Nat) (x : CanObj) : CanObj :=
    { x with dir := dir, ide := v.testBit 31, fdf := true, brs := true, dlc := 15, id := v % 2 ^ 29 }
  let req := s.odNat 0x1120 2
  let s1 := (s.setObj n 254 (obj 1 req)).setObj n 255 (obj 2 (s.odNat 0x1120 3))
  let s2 := ((s1.set (Reg.fctlKind n 127) 1).setFlag (Reg.fctlIde n 127) (req.testBit 31)).set (Reg.fctlUrgent n 127) 0
  ((s2.set (Reg.fctlReject n 127) 0).set (Reg.fctlObj n 127) 254).set (Reg.fid1 n 127) (req % 2 ^ 29)

/-- VOP-C goes to its channel, and leaves the one that carried it. -/
def State.applyVopc (s : State) : State :=
  s.each (List.range 16) fun n t =>
    if t.isVopc n then (t.setFlag (Reg.canVopc n) true).vopcObjects n
    else if t.flag (Reg.canVopc n) then
      (((t.setFlag (Reg.canVopc n) false).applyObjCfg n 254).applyObjCfg n 255).applyFilter n 127
    else t

/-- The register writes of one object, from the configuration in effect. DESIGN CHOICE (log 70). -/
def State.applyObj (s : State) (i k : Nat) : State :=
  let v := s.odNat i k
  if i = 0x1120 then (if k ≤ 3 then s.applyVopc else s)
  else if i = 0x2100 then s.set Reg.dozeEn v
  else if 0x2110 ≤ i ∧ i < 0x2128 then s.applyTask (i - 0x2110) k
  else if 0x3110 ≤ i ∧ i < 0x3128 then
    let n := i - 0x3110
    s.setEntry n (if k = 1 then Reg.tphase n else if k = 4 then Reg.utrigCh n else Reg.utrigFilt n) v
  else if i = 0x3100 then
    (if k = 1 then s.set Reg.dozeLead v else if k = 2 then s.set Reg.dozeMinidle v else s.set Reg.weirHorizon v)
  else if i = 0x3000 then
    (match k with
     | 0x10 => s.set Reg.avsTarget v
     | 0x11 => s.set Reg.avsHyst v
     | 0x12 => s.set Reg.scrubThup v
     | 0x13 => s.set Reg.scrubHolddn v
     | 0x14 => s.set Reg.scrubMaxlvl v
     | 0x20 => s.set Reg.wakeenMnb v
     | _ => s)
  else if i = 0x2300 then s.set Reg.prefpri v
  else if i = 0x3300 then s.set Reg.convlim v
  else if i = 0x3200 then s.setFlag Reg.splitPend (v != s.get Reg.splitMask)
  else if i = 0x2400 then
    (match k with
     | 6 => (s.set Reg.ptpRole v).ptpDecide
     | 7 => (s.set Reg.ptpProfile v).ptpDecide
     | 8 => (s.set Reg.ptpDomain v).ptpDecide
     | 9 => (s.set Reg.ptpMap v).ptpDecide
     | _ => s)
  else if i = 0x3400 then
    let p := s.get Reg.blwPos
    (match k with
     | 5 => if p = 0 then s.set (Reg.ptpAsym 0) v else s
     | 6 => if p = 1 then s.set (Reg.ptpAsym 0) v else s
     | 7 => if p = 0 then s.set (Reg.ptpAsym 1) v else s
     | 8 => if p = 1 then s.set (Reg.ptpAsym 1) v else s
     | 9 => s.set (Reg.ptpExtTx 0) v
     | 0x0A => s.set (Reg.ptpExtRx 0) v
     | 0x0B => s.set (Reg.ptpExtTx 1) v
     | 0x0C => s.set (Reg.ptpExtRx 1) v
     | 0x11 => s.set Reg.ptpPcp v
     | _ => s)
  else if i = 0x2B00 then s.set Reg.trialCycles v
  else if 0x2710 ≤ i ∧ i < 0x2720 then
    let c := i - 0x2710
    (match k with
     | 1 => s.set Reg.hrtEn (s.get Reg.hrtEn - bit ((s.get Reg.hrtEn).testBit c) c + bit (v != 0) c)
     | 2 => (s.set (Reg.cadrPoll c) v).set (Reg.cstIdent c) 0
     | 3 => s.set (Reg.cpollMs c) v
     | 4 => s.set (Reg.cpollTask c) v
     | _ => s)
  else if 0x8000 ≤ i ∧ i < 0x8100 then
    let n := (i - 0x8000) / 16
    (match i % 16 with
     | 0 => s.applyTiming n
     | 1 => if k ≤ 0x0A then s.applyTiming n else s
     | 4 => if s.isVopc n && decide (254 ≤ k) then s else s.applyObjCfg n k
     | 6 => if s.isVopc n && k == 127 then s else s.applyFilter n k
     | _ => s)
  else if 0x8100 ≤ i ∧ i < 0x8180 then s.applyAo ((i - 0x8100) / 16) (i % 16) k
  else if 0x8200 ≤ i ∧ i < 0x8280 then s.applyAi ((i - 0x8200) / 16) (i % 16) k
  else s

/-- Every register that a configuration sets, as BOOT and SYNC set them. -/
def State.applyAll (s : State) : State :=
  let s1 := s.each (s.cfg.map fun e => e.1) fun key t => t.applyObj (key / 256) (key % 256)
  s1.each (List.range 24) fun n t => t.applyTaskImage n

/-! Copies in the retentive window (R304, R305) -/

def cfgDir : Nat := 0x8040000
def bootRec : Nat := 0x8040001
/-- DEDUCED (log 67). -/
def cfgCopy (c : Nat) : Nat := if c = 0 then 0x8048000 else 0x8050000

/-- A copy's header and body. -/
def cfgCopyWords (gen : Nat) (t : Int) (client entries : Nat) (body : List TW) : List TW :=
  let h := [wUint gen, wUint body.length, wTime t, wBits client, wUint entries] ++ List.replicate 10 (wUint 0)
  h ++ wUint (crc 2 (valueBytes (h ++ body))) :: body

/-- The configuration as a list of keys and values. -/
def State.writeCopy (s : State) (c gen : Nat) (t : Int) (client entries : Nat) (cfg : SMap Bytes) : State :=
  let s1 := s.setWords (cfgCopy c) (cfgCopyWords gen t client entries (Config.cfgBody cfg))
  if c = 0 then { s1 with cfg0 := cfg } else { s1 with cfg1 := cfg }

/-- The copy in use and its generation. -/
def State.curCopy (s : State) : Nat := s.tarn.copy
def State.generation (s : State) : Nat := s.tarn.gen

/-- A copy comes into use (R301, R305). -/
def State.useCopy (s : State) (c gen : Nat) (valid : Bool) : State :=
  s.setTarn fun t => { t with copy := c, gen := gen, valid := valid }

/-- A word that the runtime reads through the check code, as its value; none where it is uncorrectable (R107, R267). -/
def State.readValue (s : State) (a : Nat) : Option Nat × State :=
  match s.eccRead (agLoad 12) a with
  | (some w, t) => (some w.val.toNat, t)
  | (none, t) => (none, t)

/-- The instant of application in the header of a copy, with its check (R304), once it is known. DEDUCED (log 67). -/
def State.stampCopy (s : State) (c gen : Nat) (t : Int) (client entries : Nat) : State :=
  s.setWords (cfgCopy c) ((cfgCopyWords gen t client entries (Config.cfgBody s.cfg)).take 16)

/-- The directory word (R301, R305): current copy, companion slot code, generation. -/
def State.writeDir (s : State) (c slotCode gen : Nat) : State :=
  s.setWord cfgDir (wBits (c + slotCode * 2 + gen % 2 ^ 32 * 2 ^ 32))

/-- A copy is marked invalid: its header check no longer holds. -/
def State.spoilCopy (s : State) (c : Nat) : State :=
  match s.readValue (cfgCopy c + 15) with
  | (some v, t) => t.setWord (cfgCopy c + 15) (wUint (BitVec.ofNat 64 v ^^^ 1#64).toNat)
  | (none, t) => t

/-- The committed configuration is valid (R41). -/
def State.cfgValid (s : State) : Bool := s.tarn.valid

end Sys2Proof.Machine
end

