-- ==== Sys2Proof/Machine/CvuCmds.lean ====
section
/-! DEFINITION. The check-value engines (R424 to R434). -/

namespace Sys2Proof.Machine

/-- What one word feeds (R426); `m` bytes of the value in WMODE 1, and the address where it is folded. -/
def scanBytes (values afold : Bool) (m a : Nat) (w : TW) : Bytes :=
  (if values then (leBytes 8 w.val.toNat).take m else wordBytes w) ++ (if afold then leBytes 4 a else [])

/-- A read by an engine as MPU master 16 + n (R408). -/
def State.cvuRead (s : State) (n a : Nat) : Nat × Option TW × State :=
  let c := s.mpuCheck ⟨16 + n, .read, true, a, 0, false, false⟩
  if !c.1 then (1, none, c.2)
  else
    match c.2.eccRead (agDma (16 + n)) a with
    | (none, t) => (2, none, t)
    | (some w, t) => (0, some w, t)

/-- What a scan leaves: error code, words fed, unfinalised register. -/
structure ScanRes where
  err : Nat
  pos : Nat
  acc : Nat
  deriving DecidableEq, Repr

/-- The words of a scan, upward from `a`, `left` of them (R426, R428). DEDUCED (log 90). -/
def State.scanRun (s : State) (n : Nat) (alg : CrcAlg) (values afold : Bool) (final : Nat) :
    Nat → Nat → Nat → Nat → ScanRes × State
  | 0, _, pos, acc => (⟨0, pos, acc⟩, s)
  | left + 1, a, pos, acc =>
    match s.cvuRead n a with
    | (_, some w, t) =>
      let m := if left = 0 ∧ final ≠ 0 then final else 8
      State.scanRun t n alg values afold final left (a + 1) (pos + 1) (crcRun alg acc (scanBytes values afold m a w))
    | (e, none, t) => (⟨e, pos, acc⟩, t)

/-- A scan ends with an error (R428): VALID 0, and the count of `OD 5900h`. -/
def State.scanError (s : State) (n err : Nat) : State :=
  let s1 := ((s.set (Reg.cvuBusy n) 0).set (Reg.cvuValid n) 0).set (Reg.cvuErr n) err
  let k := min (2 ^ 32 - 1) (SMap.get 0 s1.cvu.errors n + 1)
  ({ s1 with cvu := { s1.cvu with errors := SMap.set s1.cvu.errors n k } }).event .cvuError [n, err]

/-- The range lies inside one area of R103, outside the CSR window. -/
def scanRangeOk (a n : Nat) : Bool :=
  areaOf a == areaOf (a + n - 1) && areaOf a != .none && areaOf a != .csr

/-- GO (R428): the scan starts, or is refused with ERR 3, or with ERR 4 where the engine is faulty. -/
def State.scanGo (s : State) (n : Nat) : State :=
  let len := s.get (Reg.cvuLen n)
  let s1 := ((s.set (Reg.cvuValid n) 0).set (Reg.cvuErr n) 0).set (Reg.cvuPos n) 0
  if (s.get Reg.cvuFault).testBit n then s1.scanError n 4
  else if len = 0 ∨ !scanRangeOk (s.get (Reg.cvuStart n)) len ∨ (s.get (Reg.cvuFinal n) ≠ 0 ∧ !s.flag (Reg.cvuWmode n)) then
    s1.scanError n 3
  else s1.set (Reg.cvuBusy n) 1

/-- A write of CVU.CTLn (R429, R434). -/
def State.scanCtl (s : State) (n w : Nat) : State :=
  if s.flag (Reg.cvuBusy n) then s.incSat (Reg.cvuIgnw n)
  else
    let s1 := ((s.set (Reg.cvuPoly n) w).set (Reg.cvuWmode n) (w / 2 ^ 4)).set (Reg.cvuFinal n) (w / 2 ^ 8)
    let s2 := ((s1.set (Reg.cvuAfold n) (w / 2 ^ 12)).set (Reg.cvuSfold n) (w / 2 ^ 13)).set (Reg.cvuCont n) (w / 2 ^ 14)
    if w.testBit 31 then s2.scanGo n else s2

/-- The end of a scan (R426 to R429): every word read once, the result set, or the error that stopped it. -/
def State.scanFinish (s : State) (n : Nat) : State :=
  if !s.flag (Reg.cvuBusy n) then s
  else if (s.get Reg.cvuFault).testBit n then s.scanError n 4
  else
    let alg := crcAlg (s.get (Reg.cvuPoly n))
    let a0 := if s.flag (Reg.cvuCont n) then SMap.get alg.init s.cvu.acc n else alg.init
    let a1 := if s.flag (Reg.cvuSfold n) then crcRun alg a0 (leBytes 4 (s.get (Reg.cvuSeq n))) else a0
    let r := s.scanRun n alg (s.flag (Reg.cvuWmode n)) (s.flag (Reg.cvuAfold n)) (s.get (Reg.cvuFinal n))
      (s.get (Reg.cvuLen n)) (s.get (Reg.cvuStart n)) 0 a1
    let s1 := r.2.set (Reg.cvuPos n) r.1.pos
    if r.1.err ≠ 0 then s1.scanError n r.1.err
    else
      let v := crcFinal alg r.1.acc
      let s2 := ((s1.set (Reg.cvuBusy n) 0).set (Reg.cvuValid n) 1).set (Reg.cvuErr n) 0
      let s3 := (s2.set (Reg.cvuResl n) (v % 2 ^ 32)).set (Reg.cvuResh n) (v / 2 ^ 32)
      { s3 with cvu := { s3.cvu with acc := SMap.set s3.cvu.acc n r.1.acc } }

/-- A whole scan started by a stub or the runtime through the engine's registers; a scan in progress ends first, since each
engine runs one at a time (R424, R433). -/
def State.scanNow (s : State) (n start len seq ctl : Nat) : State :=
  let s0 := s.scanFinish n
  let s1 := ((s0.set (Reg.cvuStart n) start).set (Reg.cvuLen n) len).set (Reg.cvuSeq n) seq
  (s1.scanCtl n (ctl % 2 ^ 31 + 2 ^ 31)).scanFinish n

/-- SCAN_START (R426, R428): a write of CVU.CTLn. -/
def execScanStart (engine : Fin 4) (w : BitVec 32) (s : State) : Result :=
  .next (if s.functional then s.scanCtl engine w.toNat else s)

/-- SCAN_END (R429). -/
def execScanEnd (engine : Fin 4) (s : State) : Result := .next (s.scanFinish engine)

/-- Engines found faulty (R430): their bits, an event each, and for CVU0 and CVU1 loads and a warm restart are
refused while it stands (R16). -/
def State.cvuFaults (s : State) (fail : Nat) : State :=
  let new := (List.range 4).filter fun n => fail.testBit n && !(s.get Reg.cvuFault).testBit n
  (s.set Reg.cvuFault (s.get Reg.cvuFault ||| fail)).each new fun n t => t.event .cvuFault [n]

/-- The result of an engine's last scan, none where it ended with an error. -/
def State.scanValue (s : State) (n : Nat) : Option Nat :=
  if s.flag (Reg.cvuValid n) then some (s.get (Reg.cvuResl n) + s.get (Reg.cvuResh n) * 2 ^ 32) else none

/-- The string "123456789" of the self-test (R430), in two words. -/
def testString : List TW :=
  [goodBits (leNat ((List.range 8).map fun i => BitVec.ofNat 8 (0x31 + i))), goodBits 0x39]

/-- Where the runtime holds the string, in the runtime data part of the supervisor store. DESIGN CHOICE (log 128). -/
def testStringAt : Nat := 0x20FFFFE

/-- BOOT writes the string to its place. -/
def State.holdString (s : State) : State := s.setWords testStringAt testString

/-- One engine over the string with each algorithm (R430). True: each result is the check value. -/
def State.testScans (s : State) (n : Nat) : List Nat → Bool × State
  | [] => (true, s)
  | p :: l =>
    let u := s.scanNow n testStringAt 2 (s.get (Reg.cvuSeq n)) (p + 2 ^ 4 + 2 ^ 8)
    let r := State.testScans u n l
    (u.scanValue n == some (crcCheck p) && r.1, r.2)

/-- What an engine that fails leaves as its result: another value, which the spec does not give.
DESIGN CHOICE (log 128). -/
def State.testWrong (s : State) (n : Nat) : State :=
  let v := Config.cvuWrong s.free
  let s1 := ((s.set (Reg.cvuResl n) (v % 2 ^ 32)).set (Reg.cvuResh n) (v / 2 ^ 32))
  { s1 with cvu := { s1.cvu with acc := SMap.set s1.cvu.acc n v }, free := s1.free + 1 }

/-- The self-test of one engine; `fail` says that it gave another value or none within 10 µs. -/
def State.testEngine (s : State) (fail : Nat) (n : Nat) : State :=
  let r := s.testScans n [0, 1, 2, 3]
  if fail.testBit n then (r.2.testWrong n).cvuFaults (2 ^ n) else if r.1 then r.2 else r.2.cvuFaults (2 ^ n)

/-- The self-test of the engines (R430), which read the string through a window; bit n of `fail` is engine n's.
DESIGN CHOICE (log 128). -/
def State.cvuTest (s : State) (fail : Nat) : State :=
  let s0 := { s with cvu := { s.cvu with testAt := s.now } }
  (s0.inWindow winCvu testStringAt (testStringAt + 1) atPr (mmCvu 0 + mmCvu 1 + mmCvu 2 + mmCvu 3) fun t =>
    ((), t.each (List.range 4) fun n u => u.testEngine fail n)).2

/-- CVU_SELF_TEST (R430): every 60 s. -/
def execCvuSelfTest (fail : BitVec 4) (s : State) : Result :=
  .next (
    if s.runtime && s.due (s.cvu.testAt + 60000000000) then s.cvuTest fail.toNat else s)

end Sys2Proof.Machine
end

