-- ==== Sys2Proof/Machine/XchOps.lean ====
section
/-! DEFINITION. Program images and exchange (R170 to R201): image files and their checks, state maps, loading, the change
of the active image, restart. -/

namespace Sys2Proof.Machine

/-! Flash slots -/

def State.setFlashFile (s : State) (k : Nat) (b : Bytes) : State :=
  match k with
  | 0 => { s with lcs := { s.lcs with fw0 := b } }
  | 1 => { s with lcs := { s.lcs with fw1 := b } }
  | 2 => { s with xch := { s.xch with flash0 := some b } }
  | _ => { s with xch := { s.xch with flash1 := some b } }

/-- A bit of a number, set or cleared. -/
def putBit (v n : Nat) (b : Bool) : Nat := v - bit (v.testBit n) n + bit b n

/-- A flash slot is marked invalid, or valid again once it has been written (R266, R473). DEDUCED (log 90). -/
def State.markFlash (s : State) (k : Nat) (bad : Bool) : State :=
  ({ s with lcs := { s.lcs with
    flashBad := putBit s.lcs.flashBad k bad
    fwValid := if bad ∧ k < 2 then putBit s.lcs.fwValid k false else s.lcs.fwValid } }).showHealth

/-! Image files -/

/-- A SHA-384 digest's first 8 bytes, big-endian (R173). -/
def imageIdent (f : Bytes) : Nat := (Config.sha384 (f.take (fileField f 4 4))).toNat / 2 ^ 320

/-- What the MANIFEST section of a file says (R172); the other sections are left out. -/
def Image.ofManifest (f m : Bytes) : Image :=
  { slot := fileField m 0 1, issues := ((m.drop 8).take (fileField m 1 1)).map (·.toNat), cls := fileField m 2 2,
    fwLo := fileField m 4 2, fwHi := fileField m 6 2, pred := leNat ((m.drop 16).take 8),
    dataUsed := fileField m 24 4, retUsed := fileField m 28 4, ident := imageIdent f, code := [],
    tasks := [], signals := [], initial := [], fwd := [], rev := [] }

/-- The image of a file whose sections are well formed (R172); INITIAL addresses are word addresses.
DESIGN CHOICE (log 50). -/
def Image.ofFile (f : Bytes) : Option Image :=
  match sectionOf f 1, sectionOf f 2, sectionOf f 3, sectionOf f 4, sectionOf f 5 with
  | some m, some c, some d, some g, some i =>
    match Config.parseDescriptor d, Config.parseInitial i with
    | some ts, some ini =>
      some { Image.ofManifest f m with
             code := codeWords c, tasks := ts, signals := u64s g, initial := ini,
             fwd := match sectionOf f 6 with | some b => mapEntries (u64s b) | none => [],
             rev := match sectionOf f 7 with | some b => mapEntries (u64s b) | none => [] }
    | _, _ => none
  | _, _, _, _, _ => none

/-- The program-image key hashes to the active, unrevoked fuse slot (R471). -/
def State.imageKeyOk (s : State) : Bool :=
  let a := s.get Reg.kslotActive
  decide (a < 8) && !(s.get Reg.kslotRevoked).testBit a && decide (s.lcs.imageKey.length = 97)
    && SMap.get 0 s.lcs.keyHash a == Config.sha384 s.lcs.imageKey

/-- The signature of an image file verifies (R173). -/
def State.signatureOk (s : State) (f : Bytes) : Bool :=
  let l := fileField f 4 4
  s.imageKeyOk && decide (f.length = l + 96) && Config.ecdsaOk s.lcs.imageKey (Config.sha384 (f.take l)) (f.drop l)

/-- Check 3 of R175. -/
def State.manifestOk (s : State) (m : Image) : Bool :=
  let rel := s.get Reg.ownfwRel
  m.issues.contains hwIssue && decide (m.fwLo ≤ rel) && decide (rel ≤ m.fwHi) && m.cls == s.get Reg.ownfwClass

/-! Descriptor and signal table -/

/-- A word address inside a slot's two banks, header excluded. -/
def inBanks (slot a : Nat) : Bool :=
  let d := dataBank slot
  let r := retBank slot
  (decide (d.1 ≤ a) && decide (a < d.1 + d.2)) || (decide (r.1 + 16 ≤ a) && decide (a < r.1 + r.2))

def inData (slot a n : Nat) : Bool :=
  let d := dataBank slot
  decide (d.1 ≤ a) && decide (a + n ≤ d.1 + d.2)

/-- Words of a task's own in the slot's data bank: none of another task's scratch area (R432). -/
def ownData (slot : Nat) (l : List TaskDesc) (t : TaskDesc) (a n : Nat) : Bool :=
  inData slot a n && l.all fun u => u.task == t.task || decide (a + n ≤ u.scr) || decide (u.scr + u.scrLen ≤ a)

/-- A check-list entry (R432). -/
def checkOk (slot : Nat) (l : List TaskDesc) (t : TaskDesc) (v : Nat) : Bool :=
  let src := v % 2 ^ 22
  let n := v / 2 ^ 44 % 16 + 1
  let res := v / 2 ^ 22 % 2 ^ 22
  let first := if v.testBit 53 then src - 1 else src
  ownData slot l t first (src + n - first) && ownData slot l t res 1 && v / 2 ^ 56 == 0
    && (!v.testBit 55 || t.outs.any (fun o => o.2 == res))

/-- R116, R158, R162, R280 and R432 for one task `t` of the descriptor's `l`. -/
def taskOk (slot : Nat) (sc3 : Bool) (l : List TaskDesc) (t : TaskDesc) : Bool :=
  t.formed && decide (t.task < 24) && decide (t.pair < 12) && decide (1 ≤ t.budget) && decide (t.budget < 2 ^ 32) && decide (t.entry < 2 ^ 22)
    && inData slot t.snapAt t.snap.length && t.snap.all (fun e => decide (e.1 < 65536) && inData slot e.2 1)
    && t.outs.all (fun e => inData slot e.2 1) && inData slot t.scr t.scrLen && decide (t.scrLen < 65536)
    && decide (t.checks.length ≤ 32) && t.checks.all (checkOk slot l t) && (!t.safety || sc3)

/-- A binding's fields lie in the ranges of R152, and the field rules of R153 hold. -/
def Binding.ok (b : Binding) : Bool :=
  let can := b.kind == bkCanRx || b.kind == bkCanTx
  decide (1 ≤ b.kind) && decide (b.kind ≤ 8) && decide (b.point < 0xFF00)
    && (!can || (decide (b.ofs + b.len ≤ 511) && decide (b.enc ≤ 4)
        && (!b.be || (b.ofs % 8 == 0 && (b.len + 1) % 8 == 0)) && (b.enc != 2 || b.len == 31) && (b.enc != 3 || b.len == 63)))
    && (b.kind != bkAi || (decide (b.ch < 8) && decide (b.sel ≤ 1))) && (b.kind != bkAo || decide (b.ch < 8))
    && (b.kind != bkFskVar || decide (b.sel ≤ 3)) && (b.kind != bkTaskOut || decide (b.sel < 16))
    && (b.tmo == 0 || b.kind == bkCanRx || b.kind == bkFskVar) && (!b.badact || b.kind == bkAo)

/-- A binding breaks R153 beside the ones before it in the table and, for a sink's writer, beside the whole table.
DESIGN CHOICE (log 107). -/
def offends (all before : List Binding) (b : Binding) : Bool :=
  let here := before.filter fun x => x.point == b.point
  !b.ok || (b.isWriter && here.any Binding.isWriter)
    || (!b.isWriter && (!all.any (fun x => x.point == b.point && x.kind == bkTaskOut)
        || decide (4 ≤ (here.filter fun x => !x.isWriter).length)))
    || (b.kind == bkAo && before.any fun x => x.kind == bkAo && x.ch == b.ch)
    || (b.kind == bkAi && before.any fun x => x.kind == bkAi && x.ch == b.ch && x.sel == b.sel)

/-- The first offending binding of a signal table (R153), as its index. DESIGN CHOICE (log 107). -/
def firstOffending (l : List Nat) : Option Nat :=
  let bs := l.map Binding.ofWord
  (List.range l.length).find? fun i =>
    match bs[i]? with
    | some b => offends bs (bs.take i) b
    | none => false

/-- Every listed output point has the task as its TASK_OUT writer (R162); for an urgent task, any TASK_OUT binding of the
point, since SEL names cyclic tasks only (R152, R164). DEDUCED (log 108). -/
def Image.outputsOk (m : Image) : Bool :=
  m.tasks.all fun t => t.outs.all fun o => (m.signals.map Binding.ofWord).any fun b =>
    b.kind == bkTaskOut && b.point == o.1 && (b.sel == t.task || decide (16 ≤ t.task))

/-- The tasks whose outputs a point takes (R162). -/
def Image.writersOf (m : Image) (p : Nat) : List Nat :=
  (m.tasks.filter fun t => t.outs.any fun o => o.1 == p).map (·.task)

/-- CAN_TX bindings of one object name points of one cyclic writer, and every object bound for sending is a transmit object
(R376). -/
def State.canTxOk (s : State) (m : Image) : Bool :=
  let bs := (m.signals.map Binding.ofWord).filter fun b => b.kind == bkCanTx
  s.bindDirOk false (some m) && bs.all fun b =>
    decide ((((bs.filter fun x => x.ch == b.ch && x.sel == b.sel).flatMap fun x =>
      (m.writersOf x.point).filter fun n => decide (n < 16)).eraseDups).length ≤ 1)

/-! State maps (R176, R177) -/

/-- Part of an interval inside another, as start and length. -/
def clipTo (lo n : Nat) (i : Nat × Nat) : Nat × Nat :=
  let a := max lo i.1
  let b := min (lo + n) (i.1 + i.2)
  (a, b - a)

/-- Intervals cover every word of `[lo, lo + n)` exactly once. -/
def tiles (l : List (Nat × Nat)) (lo n : Nat) : Bool :=
  let c := (l.map (clipTo lo n)).filter fun i => i.2 != 0
  c.foldl (fun a i => a + i.2) 0 == n &&
    (c.zipIdx).all fun x => (c.zipIdx).all fun y =>
      x.2 == y.2 || decide (x.1.1 + x.1.2 ≤ y.1.1) || decide (y.1.1 + y.1.2 ≤ x.1.1)

/-- The variables of an image are covered exactly once (R177). -/
def Image.tiled (m : Image) (l : List (Nat × Nat)) : Bool :=
  tiles l (dataBank m.slot).1 m.dataUsed && tiles l ((retBank m.slot).1 + 16) m.retUsed

def rangeInBanks (slot : Nat) (i : Nat × Nat) : Bool := inBanks slot i.1 && inBanks slot (i.1 + i.2 - 1)

def mapSources (l : List MapEntry) : List (Nat × Nat) := (l.filter fun e => e.kind != 3).map fun e => (e.src, e.len)
def mapDests (l : List MapEntry) : List (Nat × Nat) := (l.filter fun e => e.kind != 4).map fun e => (e.dst, e.len)

/-- A state map's own form, with the side that is known: source image, destination image (R177). -/
def mapOk (l : List MapEntry) (srcSlot dstSlot : Nat) (src dst : Option Image) : Bool :=
  l.all (fun e => e.formed) && (mapSources l).all (rangeInBanks srcSlot) && (mapDests l).all (rangeInBanks dstSlot)
    && (match src with | some m => m.tiled (mapSources l) | none => true)
    && (match dst with | some m => m.tiled (mapDests l) | none => true)

/-- The checks of R175 in their order: the image, or the error code and, for a signal table, the binding that offends. A file
without a MANIFEST names no slot. A file in a flash slot marked invalid is not used (R266). DEDUCED (log 51). -/
def State.loadCheck (s : State) (slot : Nat) (f : Bytes) : Except (Nat × List Int) Image :=
  let h := match sectionOf f 1 with | some b => some (Image.ofManifest f b) | none => none
  if !s.signatureOk f ∨ s.lcs.flashBad.testBit (2 + slot) then .error (1, [])
  else if (match h with | some m => m.slot != slot | none => true) then .error (2, [])
  else if (match h with | some m => !s.manifestOk m | none => true) then .error (3, [])
  else
    match Image.ofFile f with
    | none => .error (4, [])
    | some m =>
      let pred := if (s.slotValid (1 - slot)) then s.imgOf (1 - slot) else none
      let known := match pred with
        | some p => if p.ident = m.pred then some p else none
        | none => none
      let sc3 := match sectionOf f 1 with | some b => Config.imageSc3 b | none => false
      let pars := s.taskPars (some m)
      if !sectionsOk f ∨ (m.pred ≠ 0 ∧ (sectionOf f 6 = none ∨ sectionOf f 7 = none)) ∨
          !(m.tasks.all (taskOk slot sc3 m.tasks)) ∨ !m.outputsOk ∨ !(pars.all fun t => t.limits (s.get Reg.splitMask)) ∨
          (dataBank slot).2 < m.dataUsed ∨ (retBank slot).2 < m.retUsed + 16 then .error (4, [])
      else
        match firstOffending m.signals with
        | some i => .error (5, [i])
        | none =>
          if !s.canTxOk m then .error (5, [])
          else if m.pred ≠ 0 ∧ !(mapOk m.fwd (1 - slot) slot known (some m) && mapOk m.rev slot (1 - slot) (some m) known) then
            .error (6, [])
          else if !admitted pars (s.get Reg.splitMask) then .error (7, [])
          else .ok m

/-! Writing an image into its SRAM slot (R175, R512) -/

/-- CODE from the slot's first word on; every further word has all 72 bits set. -/
def State.writeSlot (s : State) (slot : Nat) (m : Image) : State :=
  (s.clearWords (slotBase slot) (slotBase slot + 2097152)).setWords (slotBase slot) m.code

/-- The slot holds the image: identity, valid bit, DRV's and BLW's view of it. -/
def State.fillSlot (s : State) (slot : Nat) (m : Image) : State :=
  let s1 := (s.writeSlot slot m).set (if slot = 0 then Reg.xchAvalid else Reg.xchBvalid) 1
  let s2 := (s1.set (Reg.xchId (2 * slot)) (m.ident % 2 ^ 32)).set (Reg.xchId (2 * slot + 1)) (m.ident / 2 ^ 32)
  ({ s2 with xch := if slot = 0 then { s2.xch with imgA := some m } else { s2.xch with imgB := some m } }).scratchRegions slot
    (some m)

/-- CVU0's check of a written slot (R431). -/
def State.slotCheck (s : State) (slot : Nat) (m : Image) : Bool × State :=
  let s1 := s.scanNow 0 (slotBase slot) m.code.length (s.get (Reg.cvuSeq 0)) 2
  ((s.get Reg.cvuFault) % 4 == 0 && s1.scanValue 0 == some (crc 2 (wordsBytes m.code)), s1)

/-- The file in a flash image slot. -/
def State.flashImage (s : State) (slot : Nat) : Bytes :=
  match (if slot = 0 then s.xch.flash0 else s.xch.flash1) with
  | some f => f
  | none => []

/-- LOAD's effect on this module (R175): the idle slot is loaded or left empty; in PRIMARY it waits for the partner. -/
def State.loadIdle (s : State) : State :=
  let slot := s.idleSlot
  match s.loadCheck slot (s.flashImage slot) with
  | .error e => s.loadFailAt e.1 e.2
  | .ok m =>
    let r := (s.fillSlot slot m).slotCheck slot m
    if !r.1 then r.2.loadFail 0x0D
    else
      let s1 := ({ r.2 with xch := { r.2.xch with ran := false, handed := s.mode == mStandby } }).noteUndefined (some m)
      if s.mode = mPrimary then
        ({ s1.setXch 2 0 with xch := { s1.xch with loadAt := some s.now } }).sendManifest
      else ((s1.setXch 3 0).event .loadResult [0, m.ident]).sendManifest

/-- The partner reports the same identity and a valid slot: the load in PRIMARY is complete (R175). DEDUCED (log 52). -/
def State.loadPartner (s : State) : State :=
  match s.xch.loadAt, s.link.manifest with
  | some _, some m =>
    let slot := s.idleSlot
    if (if slot = 0 then m.aValid else m.bValid) && (if slot = 0 then m.idA else m.idB) == s.slotIdent slot then
      (({ s with xch := { s.xch with loadAt := none } }).setXch 3 0).event .loadResult [0, s.slotIdent slot]
    else s
  | _, _ => s

/-! Applying a state map (R178) -/

/-- A conversion's result by the instruction that R178 names; a word of another type gives value 0, BAD, Limit, and keeps its
Forced bit. -/
def convWord (conv : Nat) (w : TW) : TW × Bool :=
  let c : CoreSt := ({} : CoreSt).setReg 1 w
  let src := match conv with | 1 => tyInt | 2 => tyFloat | 3 => tyInt | _ => tyUint
  let dst := match conv with | 1 => tyFloat | 2 => tyInt | 3 => tyUint | _ => tyInt
  let bad : TW × Bool := (⟨0#64, mkTag qBad w.forced true dst⟩, false)
  if w.ty ≠ src then bad
  else
    match (match conv with
      | 1 => actCvtif 2 1 0#6 c
      | 2 => actCvtfi 2 1 0#6 c
      | 3 => actCvtiu 2 1 0#6 c
      | _ => actCvtui 2 1 0#6 c) with
    | .write _ v => (v, true)
    | _ => bad

/-- One word of a KEEP or CONVERT entry. -/
def State.moveWord (s : State) (e : MapEntry) (i : Nat) : State :=
  match s.eccRead (agDma mXch) (e.src + i) with
  | (none, t) => t
  | (some w, t) =>
    if e.kind = 1 then t.setWord (e.dst + i) w
    else
      let r := convWord e.conv w
      let t1 := t.setWord (e.dst + i) r.1
      if r.2 then t1 else t1.event .mapReport [e.decl, e.src + i]

/-- The value that INITIAL gives a word; zero where it names none (R196). -/
def Image.initialOf (m : Image) (a : Nat) : TW :=
  match m.initial.find? fun e => e.1 == a with
  | some e => e.2
  | none => ⟨0#64, 0#8⟩

def State.applyEntry (s : State) (dst : Image) (e : MapEntry) : State :=
  s.each (List.range e.len) fun i t =>
    if e.kind = 3 then t.setWord (e.dst + i) (dst.initialOf (e.dst + i))
    else if e.kind = 4 then t
    else t.moveWord e i

/-- Every INIT entry first, then every KEEP and CONVERT entry (R186). -/
def State.applyMap (s : State) (dst : Image) (l : List MapEntry) : State :=
  (s.each (l.filter fun e => e.kind == 3) fun e t => t.applyEntry dst e).each (l.filter fun e => e.kind != 3) fun e t =>
    t.applyEntry dst e

/-- The entry and index that a source word has in a map. -/
def mapEntryOf (l : List MapEntry) (a : Nat) : Option (MapEntry × Nat) :=
  match l.find? fun e => (e.kind == 1 || e.kind == 2) && decide (e.src ≤ a) && decide (a < e.src + e.len) with
  | some e => some (e, a - e.src)
  | none => none

/-- The map of the exchange in progress (R186, R191). -/
def State.exchMap (s : State) : List MapEntry :=
  match s.xch.exch with
  | none => []
  | some x =>
    match (if x.rollback then s.imgOf s.activeSlot else s.imgOf s.idleSlot) with
    | some m => if x.rollback then m.rev else m.fwd
    | none => []

/-- The map by which the standby takes the trial state (R181). -/
def State.takeMap (s : State) : List MapEntry := match s.imgOf s.idleSlot with | some m => m.fwd | none => []

/-- A dirty word whose copy involves the retentive window. -/
def dirtyRet (l : List MapEntry) (a : Nat) : Bool :=
  match mapEntryOf l a with
  | some (e, i) => areaOf a == .retentive || areaOf (e.dst + i) == .retentive
  | none => false

/-- XCH.DIRTYS and XCH.DIRTYR: the dirty words of an exchange; those of a trial's pre-copy are not shown.
DESIGN CHOICE (log 138). -/
def State.showDirty (s : State) : State :=
  match s.xch.exch with
  | none => s
  | some x =>
    let m := (x.dirty.filter (dirtyRet s.exchMap)).length
    (s.set Reg.xchDirtys (x.dirty.length - m)).set Reg.xchDirtyr m

def State.setDirty (s : State) (l : List Nat) : State :=
  match s.xch.exch with
  | none => s
  | some x => ({ s with xch := { s.xch with exch := some { x with dirty := l } } }).showDirty

/-- A store to a source word after its copy makes it dirty (R181, R186). -/
def State.noteExchange (s : State) (a : Nat) : State :=
  match s.xch.exch with
  | none =>
    (match s.xch.take with
     | some l => if (mapEntryOf s.takeMap a).isSome && !l.contains a then { s with xch := { s.xch with take := some (l ++ [a]) } } else s
     | none => s)
  | some x => if (mapEntryOf s.exchMap a).isSome && !x.dirty.contains a then s.setDirty (x.dirty ++ [a]) else s

/-- A store by any master: the word, and its marks for an exchange and for SYNC (R186, R253). -/
def State.store (s : State) (a : Nat) (w : TW) : State := ((s.setWord a w).noteExchange a).noteSync a

/-- A store of the supervisor pair or of a DMA master: the final window of SYNC holds one to a tracked word (R254). -/
def State.masterStore (s : State) (a : Nat) (w : TW) : State :=
  if s.finalHold && s.syncTracked a then { s with link := { s.link with held := s.link.held ++ [(a, w)] } } else s.store a w

/-- At B the stores and the writes that the window held take effect, in order (R254). -/
def State.flushWindow (s : State) : State :=
  match s.link.goAt with
  | some b =>
    if s.link.sendPhase ≠ 0 ∧ b ≤ s.now then
      let q := s.pimg.queue
      let s1 := { s with link := { s.link with goAt := none, held := [] }, pimg := { s.pimg with queue := [] } }
      (s1.each s.link.held fun e t => t.store e.1 e.2).each q fun w t => t.applyWrite w
    else s
  | none => s

def State.stores (s : State) (a : Nat) : List TW → State
  | [] => s
  | w :: l => State.stores (s.masterStore a w) (a + 1) l

/-- Copy one dirty word again. DEDUCED (log 53). -/
def State.copyDirty (s : State) (a : Nat) : State :=
  match mapEntryOf s.exchMap a with
  | some (e, i) => s.moveWord e i
  | none => s

/-- Copy one dirty word of the trial state again. -/
def State.copyTake (s : State) (a : Nat) : State :=
  match mapEntryOf s.takeMap a with
  | some (e, i) => s.moveWord e i
  | none => s

/-- A copy slot of XCH: 20 ns a word within the shared SRAM, 800 ns a word that involves the retentive window (R186).
DESIGN CHOICE (log 2). DEDUCED (log 53). -/
def State.drainDirty (s : State) : State :=
  match s.xch.exch with
  | none =>
    (match s.xch.take with
     | some (a :: l) =>
       if s.tmb.raw % (if dirtyRet s.takeMap a then 800 else 20) = 0 then
         { s.copyTake a with xch := { (s.copyTake a).xch with take := some l } }
       else s
     | _ => s)
  | some x =>
    match x.dirty with
    | [] => s
    | a :: l =>
      if s.tmb.raw % (if dirtyRet s.exchMap a then 800 else 20) = 0 then (s.copyDirty a).setDirty l else s

/-! The active image -/

/-- A binding with the fields that its kind does not use left out (R152, R153). -/
def Binding.used (b : Binding) : Binding :=
  let can := b.kind == bkCanRx || b.kind == bkCanTx
  { b with
    ch := if b.kind = bkTaskOut ∨ b.kind = bkPeerRx ∨ b.kind = bkPeerTx then 0 else b.ch
    sel := if b.kind = bkAo then 0 else b.sel
    ofs := if can ∨ b.kind = bkPeerRx ∨ b.kind = bkPeerTx then b.ofs else 0
    len := if can then b.len else 0, enc := if can then b.enc else 0, be := can && b.be }

/-- Points whose bindings differ between two signal tables, in a field that they use. DEDUCED (log 48). -/
def changedPoints (old new : List Nat) : List Nat :=
  let of (l : List Nat) (p : Nat) : List Binding := ((l.map Binding.ofWord).filter fun b => b.point == p).map Binding.used
  (((old ++ new).map fun w => (Binding.ofWord w).point).eraseDups).filter fun p =>
    !((of old p).all (of new p).contains && (of new p).all (of old p).contains)

/-- The signal table of an image comes into effect (R151, R155, R168): forces on points whose binding changes are
removed, accepted changes of forces on them are dropped, each recorded for client 0, and a point left without a writer
takes value 0 with tag 0x00, through the write port. With `fresh` the image becomes active now, which starts the freshness
times of points that have had no update. DEDUCED (log 48). DESIGN CHOICE (log 136). -/
def State.takeSignals (s : State) (new : List Nat) (fresh : Bool) : State :=
  let ch := changedPoints s.pimg.signals new
  let s1 := s.each ch fun p t => t.removeForce p 0
  let off := s1.pimg.changes.filter fun x => ch.contains x.point
  let s2 := { s1.each off fun x t => t.event .forceRemoved [x.point, 0] with pimg := { s1.pimg with
    signals := new, changes := s1.pimg.changes.filter (fun x => !ch.contains x.point), imageAt := if fresh then s1.now else s1.pimg.imageAt
    updAt := s1.pimg.updAt.filter (fun e => !ch.contains e.1), expired := s1.pimg.expired.filter (fun p => !ch.contains p) } }
  s2.each ch fun p t => if (t.writerOf p).isNone then t.portWrite 3 p ⟨0#64, 0#8⟩ else t

/-- STATUS.SLOT of every pair (R171); the places of urgent tasks that run across the instant keep theirs (R189). -/
def State.setSlots (s : State) (slot : Nat) (keep : List Nat) : State :=
  s.each ((List.range 26).filter fun k => !keep.contains k && (s.isSplit (k / 2) || !keep.contains (k / 2 * 2))) fun k t =>
    t.setCore (k / 2) (k % 2 == 1) { t.core (k / 2) (k % 2 == 1) with slot := slot == 1 }

/-- The boot slot record (R171). -/
def State.bootSlotRecord (s : State) (slot : Nat) : State := s.setWord bootRec (wBits slot)

/-- A slot becomes the active one (R171, R188): task entries, signal table, STATUS.SLOT. -/
def State.takeImage (s : State) (slot : Nat) (keep : List Nat) (fresh : Bool := true) : State :=
  let s1 := (s.set Reg.xchActive slot).setSlots slot keep
  let sig := match s.imgOf slot with | some m => if s.slotValid slot then m.signals else [] | none => []
  (s1.takeSignals sig fresh).each (List.range 24) fun n t => t.applyTaskImage n

/-- The header of a slot's retentive bank made current for an image, with SEQ increased (R187, R193); a SEQ that cannot be
read counts as 0. DEDUCED (log 55). -/
def State.headerCurrent (s : State) (slot : Nat) (m : Image) : State :=
  let r := s.readValue ((retBank slot).1 + 1)
  r.2.putHeader slot m.ident ((r.1.getD 0 + 1) % 2 ^ 64) m.retUsed 1

/-! Checks by CVU0 (R431) -/

/-- CVU0 over the value bits of words with POLY 2, alone or going on from its last scan. -/
def State.valueScan (s : State) (a n : Nat) (cont : Bool) : Option Nat × State :=
  let t := s.scanNow 0 a n (s.get (Reg.cvuSeq 0)) (2 + 2 ^ 4 + bit cont 14)
  (t.scanValue 0, t)

/-- A configuration copy's header words 0x0 to 0xE, then with CONT 1 the words used, against header word 0xF (R304, R431): the
generation of a copy that passes. -/
def State.copyCheck (s : State) (c : Nat) : Option Nat × State :=
  let a := cfgCopy c
  match s.readValue a with
  | (none, t) => (none, t)
  | (some gen, t) =>
    match t.readValue (a + 1) with
    | (none, t1) => (none, t1)
    | (some used, t1) =>
      if 32752 < used then (none, t1)
      else
        match t1.valueScan a 15 false with
        | (none, t2) => (none, t2)
        | (some v, t2) =>
          match (if used = 0 then (some v, t2) else t2.valueScan (a + 16) used true) with
          | (none, t3) => (none, t3)
          | (some x, t3) =>
            let r := t3.readValue (a + 15)
            (if r.1 = some x then some gen else none, r.2)

/-- BOOT step 10 takes the copy that the directory and the boot slot record name, where it is valid (R305). -/
def State.bootCopy (s : State) : State :=
  let d := s.readValue cfgDir
  let r := d.2.readValue bootRec
  let v := d.1.getD 0
  let comp := v / 2 % 4
  let other := comp ≠ 0 ∧ r.1.map (· % 2 + 1) ≠ some comp
  let c := if other then 1 - v % 2 else v % 2
  let k := r.2.copyCheck c
  match k.1 with
  | some gen => if other ∨ (d.1.isSome ∧ gen = v / 2 ^ 32) then k.2.useCopy c gen true else k.2.useCopy c (v / 2 ^ 32) false
  | none => k.2.useCopy c (v / 2 ^ 32) false

/-- A module that starts alone under the older of two whole configurations records both generations (R302).
DEDUCED (log 115). -/
def State.noteGenerations (s : State) : State :=
  let k := s.copyCheck (1 - s.curCopy)
  if k.1 = some (s.generation + 1) then k.2.event .generationsDiffer [s.generation, s.generation + 1] else k.2

/-! Restart (R193 to R197) -/

/-- A bank header's CHECK by CVU0 and its STATE (R193, R431): whether they hold, and IDENT. A faulty engine finds nothing
wrong; its fault refuses on its own account. -/
def State.headerCheck (s : State) (slot : Nat) : Bool × Option Nat × State :=
  let a := (retBank slot).1
  let v := s.valueScan a 15 false
  let k := v.2.readValue (a + 15)
  let st := k.2.readValue (a + 3)
  let id := st.2.readValue a
  ((v.1 == k.1 && k.1.isSome || (s.get Reg.cvuFault).testBit 0) && st.1 == some 1, id.1, id.2)

/-- The first condition of R194 that fails, as XCH.RESTART.WREF codes it. DEDUCED (log 55). -/
def State.warmCheck (s : State) : Nat × State :=
  let slot := s.activeSlot
  let h := s.headerCheck slot
  let t := h.2.2
  (if !h.1 then 1
   else if h.2.1 ≠ some (t.slotIdent slot) then 2
   else if t.xch.bankUe.testBit slot then 3
   else if t.get Reg.cvuFault % 4 ≠ 0 ∨ t.flag Reg.evrFault ∨ t.flag Reg.eccRwue then 4
   else 0, t)

/-- The restart kind permits a start (R41, R195). -/
def State.restartOk (s : State) : Bool := s.cfgNat 0x2000 9 1 != 1 || s.warmCheck.1 == 0

/-- Every word of the used area from INITIAL, others zero (R196). -/
def State.initBank (s : State) (m : Image) (lo n : Nat) : State :=
  (s.clearWords lo (lo + n)).each (m.initial.filter fun e => decide (lo ≤ e.1) && decide (e.1 < lo + n)) fun e t =>
    t.setWord e.1 e.2

/-- Write the snapshot list of each task at DRV.TSNAPn.LIST (R158). -/
def State.writeLists (s : State) (m : Image) : State :=
  s.each m.tasks fun d t => t.setWords d.snapAt (d.snap.map fun e => wBits (e.1 + e.2 * 2 ^ 32))

/-- The runtime looks at the bank before a start; one that the restart kind refuses leaves in XCH.RESTART.WREF the condition
that failed (R194). -/
def State.noteWarm (s : State) : State :=
  if s.cfgNat 0x2000 9 1 ≠ 1 then s
  else
    match s.warmCheck with
    | (0, t) => t
    | (w, t) => t.set Reg.rstWref w

/-- The restart at transition 7 (R195, R196). -/
def State.restart (s : State) : State :=
  match s.activeImg with
  | none => s
  | some m =>
    let slot := s.activeSlot
    let r := s.warmCheck
    let w := r.1
    let warm := w = 0 ∧ s.cfgNat 0x2000 9 1 ≠ 0
    let s1 := (((r.2.noteUndefined (some m)).set Reg.rstWref w).initBank m (dataBank slot).1 m.dataUsed).writeLists m
    if warm then (s1.set Reg.rstKind 2).event .restartDone [2, w]
    else
      let s2 := (s1.initBank m ((retBank slot).1 + 16) m.retUsed).headerCurrent slot m
      (s2.set Reg.rstKind 1).event .restartDone [1, w]

end Sys2Proof.Machine
end

