-- ==== Sys2Proof/Machine/LockOps.lean ====
section
/-! DEFINITION. Staggered-token lockstep (R202 to R211): tokens, the delay FIFO, the register files' check code, what core 1
does with core 0's outstanding tokens, and the drain. -/

namespace Sys2Proof.Machine

/-! Compared tokens (R207) -/

def Act.token (a : Act) (iaddr : BitVec 22) : Token :=
  match a with
  | .write _ _ => ⟨0, [], 0⟩
  | .release _ => ⟨0, [], 0⟩
  | .nowTime _ => ⟨0, [], 0⟩
  | .ctlWrite _ _ => ⟨0, [], 0⟩
  | .trap t => ⟨5, [BitVec.ofNat 72 (t.code + iaddr.toNat * 256)], 0⟩
  | .load a _ _ => ⟨2, [BitVec.ofNat 72 a], a⟩
  | .store a w _ => ⟨1, [BitVec.ofNat 72 a, lanesOf w], a⟩
  | .csrRead a _ => ⟨3, [BitVec.ofNat 72 a], a⟩
  | .csrWrite a w => ⟨3, [BitVec.ofNat 72 a, lanesOf w], a⟩
  | .branch taken target _ => ⟨4, [BitVec.ofNat 72 ((if taken then 1 else 0) + target.toNat * 4)], 0⟩
  | .resume target => ⟨4, [BitVec.ofNat 72 (1 + target.toNat * 4)], 0⟩
  | .wait => ⟨6, [iaddr.zeroExtend 72], 0⟩
  | .fence => ⟨6, [iaddr.zeroExtend 72], 0⟩

/-! Core-local effects -/

/-- The next instruction. -/
def CoreSt.advance (c : CoreSt) : CoreSt := { c with iaddr := nextAddr c.iaddr }

/-- A result word into a register, and the next instruction. -/
def CoreSt.give (c : CoreSt) (rd : GReg) (w : TW) : CoreSt := (c.setReg rd w).advance

/-- Trap entry (R98, R99): STATUS to TSTAT, the instruction's address, cause, access address and operand tags, privileged
mode, and the next instruction from TVEC. DESIGN CHOICE (log 31). -/
def CoreSt.enterTrap (c : CoreSt) (t : TrapInfo) : CoreSt :=
  { c with tstat := c.status, tepc := c.iaddr.zeroExtend 32, tcause := BitVec.ofNat 32 (t.code % 256 + t.imm.toNat * 256),
           tval := t.addr, ttag := t.tags.zeroExtend 32, priv := true, iaddr := c.tvec.truncate 22 }

/-- The core's own part of an instruction that needs nothing from outside its pair. -/
def CoreSt.apply (c : CoreSt) (a : Act) : CoreSt :=
  match a with
  | .write rd w => c.give rd w
  | .ctlWrite n v => (c.setCtl n v).advance
  | .branch _ target (some w) => { c.setReg 63 w with iaddr := target }
  | .branch _ target none => { c with iaddr := target }
  | .resume target => { c with iaddr := target, priv := c.tstat.getLsbD 0, divpol := c.tstat.getLsbD 1 }
  | .trap t => c.enterTrap t
  | _ => c.advance

/-- Operand tags that an access's trap records. DESIGN CHOICE (log 31). -/
def Act.tags (a : Act) : BitVec 24 :=
  match a with
  | .load _ _ t => t
  | .store _ _ t => t
  | .trap t => t.tags
  | .csrWrite _ w => tags3 none none (some w)
  | _ => 0#24

/-- Whether an instruction takes a sampled input (R204). -/
def Act.samples (a : Act) : Bool :=
  match a with
  | .load _ _ _ | .store _ _ _ | .csrRead _ _ | .release _ | .nowTime _ => true
  | _ => false

/-- The core's own part of an instruction once its sampled input, if any, is there. -/
def Act.step (a : Act) (w : TW) (c : CoreSt) : CoreSt :=
  match a with
  | .load _ rd _ => c.give rd w
  | .csrRead _ rd => c.give rd w
  | .release rd => c.give rd w
  | .nowTime rd => c.give rd w
  | _ => c.apply a

/-! The delay FIFO (R205, R206) -/

/-- Kinds of sampled input, in the order of R204. DESIGN CHOICE (log 38). -/
def smpLoad : BitVec 3 := 0
def smpResponse : BitVec 3 := 1
def smpCsr : BitVec 3 := 2
def smpRelease : BitVec 3 := 3
def smpTime : BitVec 3 := 4

/-- The 80 bits of an entry: word, kind, stamp, from the low end. DESIGN CHOICE (log 38). -/
def FifoEntry.bits (e : FifoEntry) : BitVec 80 := e.stamp ++ e.kind ++ e.word

/-- One parity bit for each 8-bit group. -/
def parityBits (b : BitVec 80) : BitVec 10 :=
  BitVec.ofNat 10 ((List.range 10).foldl (fun n i => n + popCount (b.toNat / 2 ^ (8 * i)) 8 % 2 * 2 ^ i) 0)

def FifoEntry.ok (e : FifoEntry) : Bool := parityBits e.bits == e.parity

def FifoEntry.make (kind : BitVec 3) (w : TW) (stamp : BitVec 5) : FifoEntry :=
  { word := lanesOf w, kind := kind, stamp := stamp, parity := parityBits (stamp ++ kind ++ lanesOf w) }

def FifoEntry.flip (e : FifoEntry) (f : BitVec 90) : FifoEntry :=
  { word := e.word ^^^ f.truncate 72, kind := e.kind ^^^ f.extractLsb' 72 3, stamp := e.stamp ^^^ f.extractLsb' 75 5,
    parity := e.parity ^^^ f.extractLsb' 80 10 }

/-- The highest occupancy since reset (R229). DESIGN CHOICE (log 38). -/
def State.noteOcc (s : State) (u n : Nat) : State :=
  if s.get (Reg.ustMaxocc u) < n then s.set (Reg.ustMaxocc u) n else s

/-! Disturbances -/

/-- One disturbance of a unit. DEDUCED (log 39). -/
def State.strike1 (s : State) (u : Nat) (h : Hit) : State :=
  match h with
  | .file b r f =>
    let c := s.core u b
    s.setCore u b { c with rflips := SMap.put 0#80 c.rflips r.val (SMap.get 0#80 c.rflips r.val ^^^ f) }
  | .latch b r f =>
    let c := s.core u b
    s.setCore u b { c with g := SMap.put zeroWord c.g r.val (twOfLanes (lanesOf (c.reg r) ^^^ f)) }
  | .fifo i f => s.setPair u fun p => { p with fifo := p.fifo.zipIdx.map fun e => if e.2 = i.val then e.1.flip f else e.1 }
  | .addr _ => s
  | .token n f => s.setPair u fun p => { p with skew := some (n, f) }

/-- The disturbances that precede an instruction. -/
def State.strike (s : State) (c : CoreId) : State := s.each c.hits fun h t => t.strike1 c.unit h

/-- The address bits in which the instruction's read is misaddressed (R106). DEDUCED (log 39). -/
def slipOf (c : CoreId) : BitVec 32 :=
  c.hits.foldl (fun x h => match h with | .addr f => x ^^^ f | _ => x) 0#32

/-! Register files (R95, R107) -/

/-- A read of a register through its check code: corrected, or a multi-bit upset that stops the instruction. -/
def State.fileRead (s : State) (u : Nat) (b : Bool) (r : GReg) : Bool × State :=
  let c := s.core u b
  let f := SMap.get 0#80 c.rflips r.val
  if f = 0#80 then (true, s)
  else
    let y := syndrome f 0#32
    match classify y with
    | (0, _) => (true, s.setCore u b (c.setReg r (flipWord (c.reg r) f none)))
    | (1, i) => (true, (s.eccNote (agReg u) 5 r.val 1 y).setCore u b (c.setReg r (flipWord (c.reg r) f i)))
    | (k, _) => (false, (s.eccNote (agReg u) 5 r.val k y).latch 0x17 6)

/-- Reads of several registers of a core, up to the first that is uncorrectable. -/
def State.fileReads (s : State) (u : Nat) (b : Bool) : List GReg → Bool × State
  | [] => (true, s)
  | r :: l =>
    match s.fileRead u b r with
    | (false, t) => (false, t)
    | (true, t) => State.fileReads t u b l

/-- Reads of the whole register file of a core: a seal engine's, or a register save's (R212, R215). -/
def State.fileAll (s : State) (u : Nat) (b : Bool) : Bool × State :=
  if (s.core u b).rflips.isEmpty then (true, s) else s.fileReads u b (List.finRange 64)

/-! Core 0 -/

/-- Core 0 of a locked unit retires an instruction: its own effect, its sampled input into the FIFO, its token among the
outstanding ones with the write that it holds back (R202, R204, R205, R208). An entry that arrives at a full FIFO is a
fault (R206). -/
def State.retire0 (s : State) (u : Nat) (i : Instr) (k : Token) (smp : Option (BitVec 3 × TW)) (held : Option (Nat × TW))
    (f : CoreSt → CoreSt) : State :=
  let c := s.core u false
  let p := s.pair u
  if smp.isSome = true ∧ 8 ≤ p.fifo.length then s.tokenFault u 0xA c.iaddr c.priv 0 0#72 0#72
  else
    let q := p.fifo ++ (match smp with | some (n, w) => [.make n w p.count0] | none => [])
    let s1 := (s.setCore u false (f c)).setPair u fun x =>
      { x with count0 := x.count0 + 1, lastAt := s.tmb.raw, lastIaddr := c.iaddr, lastPriv := c.priv, ahead := x.ahead ++ [⟨i, c.iaddr, c.priv, k, held⟩], fifo := q }
    s1.noteOcc u q.length

/-- The last word that core 0 has stored at an address and core 1 has not yet confirmed (R204). -/
def State.heldStore (s : State) (u a : Nat) : Option TW :=
  (s.pair u).ahead.foldl (fun w x => match x.held with
    | some (b, v) => if b = a then some v else w
    | none => w) none

/-! Core 1 -/

/-- The faults that core 1 meets at a token (R206, R209), the lowest kind (R217): a difference, wrong parity, or an entry
that is missing or stamped otherwise. DEDUCED (log 15). -/
def tokenFaults (x : Ahead) (k : Token) (takes : Bool) (head : Option FifoEntry) (count : BitVec 5) : Option Nat :=
  let diff := if x.token = k then [] else [mismatchKind x.token k]
  let fifo := if !takes then []
    else match head with
      | none => [0xA]
      | some e => (if e.ok then [] else [9]) ++ (if e.stamp = count then [] else [0xA])
  (diff ++ fifo).min?

/-- Accepted stores of a task's own instruction stream join its list (R246). -/
def State.noteStore (s : State) (place : Nat) (priv : Bool) (a : Nat) (w : TW) : State :=
  if priv then s
  else match s.runningAt place with
    | some n => s.setTask n fun k => { k with stores := k.stores ++ [(a, w)] }
    | none => s

/-- Core 1 retires the oldest outstanding instruction (R202, R205 to R209): from its own registers, with the entry that it
takes from the FIFO. On agreement a held write takes effect, by `wr`; a fault withholds the token. True: it has retired. -/
def State.retire1 (s : State) (wr : State → Nat → Nat → TW → State) (u : Nat) : Bool × State :=
  match (s.pair u).ahead with
  | [] => (true, s)
  | x :: rest =>
    match s.fileReads u true (isaOp x.instr).regs with
    | (false, t) => (false, t)
    | (true, t) =>
      let p := t.pair u
      let c := t.core u true
      let a := (isaOp x.instr).act c
      let r := t.present1 u (a.token c.iaddr)
      let k := r.1
      match tokenFaults x k a.samples p.fifo.head? p.count1 with
      | some n =>
        let d := firstDiff x.token.words k.words
        (false, r.2.tokenFault u n x.iaddr x.priv x.token.addr d.1 d.2)
      | none =>
        let w := match p.fifo.head? with | some e => twOfLanes e.word | none => zeroWord
        let t1 := (r.2.setCore u true (a.step w c)).setPair u fun q =>
          { q with count1 := q.count1 + 1, lastAt := s.tmb.raw, ahead := rest, fifo := q.fifo.drop (if a.samples then 1 else 0) }
        match x.held with
        | some (b, v) => (true, wr (t1.noteStore (coreKey u false) x.priv b v) u b v)
        | none => (true, t1)

/-- Core 1 retires up to `n` outstanding instructions. -/
def State.retires (s : State) (wr : State → Nat → Nat → TW → State) (u : Nat) : Nat → Bool × State
  | 0 => (true, s)
  | n + 1 =>
    match s.retire1 wr u with
    | (false, t) => (false, t)
    | (true, t) => State.retires t wr u n

/-- The stagger of a locked unit drains (R203): true where every outstanding token was accepted. -/
def State.drain (s : State) (wr : State → Nat → Nat → TW → State) (u : Nat) : Bool × State :=
  if s.isSplit u then (true, s) else s.retires wr u (s.pair u).ahead.length

/-! Accepted writes of a control pair -/

/-- The window of the CAN DMA over the frame records and output areas, which lie in the data banks (R373, R414), set for an
operation. -/
def State.inCanWindow {α : Type} (s : State) (f : State → α × State) : α × State :=
  s.inWindow winCan (dataBank 0).1 ((dataBank 1).1 + (dataBank 1).2 - 1) atPr (2 ^ mCan) f

/-- A record read by the CAN DMA as master 15 (R408). -/
def State.txRead (s : State) (n a : Nat) : State :=
  let take (u : State) (k m : Nat) : Option (List TW) × State :=
    let c := u.dmaCheck mCan .read (a + k) m
    if c.1 then c.2.eccReads (agDma mCan) (a + k) m else (none, c.2)
  match take s 0 1 with
  | (some [w], s1) =>
    let p := s1.frameRecord a
    let o := (s1.chan n).obj p.obj
    if w.val.toNat / 256 % 4 = 1 then
      match take s1 1 (1 + ceilDiv (dlcBytes o.fdf o.dlc) 8) with
      | (some _, s2) => s2.canPost n p
      | (none, s2) => s2.incSat (Reg.canCnt n 9)
    else s1.canPost n p
  | (_, s1) => s1.incSat (Reg.canCnt n 9)

/-- A post by its record's address (R373): the CAN DMA reads the record in data memory; one that it may not read, or
cannot, is discarded. DEDUCED (log 84). -/
def State.txPost (s : State) (n a : Nat) : State := (s.inCanWindow fun t => ((), t.txRead n a)).2

/-- A post by the runtime stub (R373): the DMA fetches the words of the record from the active slot's data bank; a record that
it may not read is discarded and counted. DEDUCED (log 84). -/
def State.stubPost (s : State) (n : Nat) (p : CanPost) : State :=
  let a := (dataBank s.activeSlot).1 + Config.frameArea n p.obj % 2064375
  let o := (s.chan n).obj p.obj
  let len := if p.action = 1 then 2 + ceilDiv (dlcBytes o.fdf o.dlc) 8 else 1
  (s.inCanWindow fun t =>
    let c := t.dmaCheck mCan .read a len
    ((), if c.1 then c.2.canPost n p else c.2.incSat (Reg.canCnt n 9))).2

/-- A write of an engine's registers (R428, R429, R434). -/
def State.engineWrite (s : State) (a w : Nat) : State :=
  let n := (a % 0x10000 - 0x100) / 16
  if a % 16 = 0 then s.scanCtl n w
  else if s.flag (Reg.cvuBusy n) ∧ a % 16 ≤ 3 then s.incSat (Reg.cvuIgnw n)
  else s.fieldsWrite a w

/-- A CSR write of a core pair: the registers that R412 names for it; every other block admits the supervisor pair alone.
DEDUCED (log 36, 89). -/
def State.pairCsrWrite (s : State) (u a w : Nat) : State :=
  if !pairCsr u a then s
  else if a / 0x10000 = 0xF009 then s.txPost (a % 0x10000 / 0x1000) (w % 2 ^ 22)
  else if a / 0x10000 = 0xF00D then s.engineWrite a w
  else s.fieldsWrite a w

/-- An accepted write of a core pair: its CSRs, or memory (R101, R208). -/
def State.pairWrite (s : State) (u a : Nat) (w : TW) : State :=
  if areaOf a = .csr then s.pairCsrWrite u a (w.val.truncate 32 : BitVec 32).toNat else s.store a w

/-- The stagger of a control pair drains. -/
def State.drainPair (s : State) (u : Nat) : Bool × State := s.drain State.pairWrite u

end Sys2Proof.Machine
end

