-- ==== Sys2Proof/Machine/RunOps.lean ====
section
/-! DEFINITION. Tasks on their pairs (R96 to R99, R121, R125, R215): preemption with the register save, dispatch, and what
a pair does when a task leaves it. -/

namespace Sys2Proof.Machine

/-! Accesses of the runtime stub -/

/-- An access of the stub on a place, privileged, as the MPU sees it (R8, R409, R415). True: it is permitted; a refusal is
a trap in privileged mode, a latching fault (R100). -/
def State.stubAccess (s : State) (p : Nat) (k : AccKind) (a : Nat) : Bool × State :=
  let c := s.core (p / 2) (p % 2 == 1)
  let r := s.mpuCheck ⟨p / 2, k, true, a, c.task.toNat, c.slot, p % 2 == 1⟩
  if r.1 then r
  else (false, (r.2.onPlace p fun x => x.enterTrap ⟨trapMpu, 0#18, BitVec.ofNat 32 a, 0#24⟩).latch 0x17 12)

/-- A load of the stub, its request a compared token (R207): the word, or nothing where it is refused or uncorrectable. -/
def State.stubLoad (s : State) (p a : Nat) : Option TW × State :=
  match s.stubAccess p .read a with
  | (false, t) => (none, t)
  | (true, t) =>
    match t.accept (p / 2) [⟨2, [BitVec.ofNat 72 a], a⟩] with
    | (false, v) => (none, v)
    | (true, v) => v.eccRead (agLoad (p / 2)) a

/-- A store of the stub, its token compared (R207, R208). True: it has been made. -/
def State.stubStore (s : State) (p a : Nat) (w : TW) : Bool × State :=
  match s.stubAccess p .write a with
  | (false, t) => (false, t)
  | (true, t) =>
    match t.accept (p / 2) [⟨1, [BitVec.ofNat 72 a, lanesOf w], a⟩] with
    | (false, v) => (false, v)
    | (true, v) => (true, v.store a w)

/-- Accesses of the stub to a run of words. -/
def State.stubRun (s : State) (p : Nat) (k : AccKind) (a : Nat) : Nat → Bool × State
  | 0 => (true, s)
  | n + 1 => thenDo (s.stubAccess p k a) fun t => State.stubRun t p k (a + 1) n

/-! Preemption -/

/-- The words that a register save stores, in order: g0 to g63, then the instruction address and the control registers.
DESIGN CHOICE (log 34). -/
def CoreSt.saveTokens (c : CoreSt) : List Token :=
  ((List.finRange 64).map (fun r => lanesOf (c.reg r)) ++ [c.iaddr.zeroExtend 72, c.status.zeroExtend 72] ++
    [c.tvec, c.tepc, c.tcause, c.tval, c.ttag, c.tstat, c.scratch].map (fun v => v.zeroExtend 72)).map fun w => ⟨1, [w], 0⟩

/-- The registers of a preempted task, put on the stack of its place. -/
def State.keepTask (s : State) (p m : Nat) : State :=
  let u := p / 2
  let v : Saved := ⟨m, s.core u false, s.core u true⟩
  let s1 := { s with drv := { s.drv with stack := SMap.set s.drv.stack p (v :: SMap.get [] s.drv.stack p) } }
  (s1.setTask m fun k => { k with awayAt := some s.now }).setTState m (if s.tstate m = tsLate then tsLate else tsWaiting)

/-- Where the stub of a place saves: in the data bank of the place's slot. DESIGN CHOICE (log 34). -/
def State.saveBase (s : State) (p : Nat) : Nat :=
  (dataBank (if (s.core (p / 2) (p % 2 == 1)).slot then 1 else 0)).1 + Config.saveArea p % 2064311

/-- The register save of a preempted task (R121, R215): each word a W access (R409) and on a locked pair a compared store,
where a difference is a fault of kind STORE. True: the registers are saved. DESIGN CHOICE (log 34). -/
def State.saveTask (s : State) (p m : Nat) : Bool × State :=
  let u := p / 2
  thenDo (s.stubRun p .write (s.saveBase p) 73) fun s0 =>
    if s0.isSplit u then thenDo (s0.fileAll u (p % 2 == 1)) fun t => (true, t.keepTask p m)
    else
      thenDo (s0.fileAll u false) fun t0 => thenDo (t0.fileAll u true) fun t =>
        match t.compare u ((t.core u false).saveTokens.zip (t.core u true).saveTokens) with
        | (none, v) => (true, v.keepTask p m)
        | (some d, v) => (false, v.mismatch u (t.pair u).lastIaddr true d)

/-- A place is made free for a task (R121, R203): the stagger drains and a running task is preempted. True: it is free.
DESIGN CHOICE (log 34). -/
def State.preempt (s : State) (p : Nat) : Bool × State :=
  match s.drainPair (p / 2) with
  | (false, t) => (false, t)
  | (true, t) =>
    let t1 := (if t.isSplit (p / 2) then t else t.noteOcc (p / 2) 1).noteToken (p / 2)
    match t1.runningAt p with
    | some m => t1.saveTask p m
    | none => (true, t1)

/-! Dispatch -/

/-- Dispatch a task on its place, which is free (R96 to R99, R125): registers cleared, user mode at the entry address by
TEPC and TSTAT, SCRATCH and the division policy from the task table, STATUS.SLOT of its image. DEDUCED (log 35). -/
def State.dispatch (s : State) (n : Nat) : State :=
  let p := s.place n
  let slot := if n < 32 then s.get Reg.xchActive else 1 - s.get Reg.xchActive
  let s2 := s.onPlace p fun c =>
    { c with g := [], rflips := [], iaddr := BitVec.ofNat 22 (s.taskEntry n (Reg.tentry n) (·.entry)), priv := false,
             urg := decide (16 ≤ n % 32), task := BitVec.ofNat 5 (n % 32), slot := slot == 1,
             divpol := s.taskEntry n (Reg.tcfgDivpol n) (fun d => if d.divpol then 1 else 0) != 0,
             tepc := BitVec.ofNat 32 (s.taskEntry n (Reg.tentry n) (·.entry)),
             tstat := BitVec.ofNat 32 (2 * s.taskEntry n (Reg.tcfgDivpol n) (fun d => if d.divpol then 1 else 0)),
             scratch := BitVec.ofNat 32 (s.scrOf n) }
  let s3 := { s2 with drv := { s2.drv with running := SMap.set s2.drv.running p n } }
  let s4 := s3.setTask n fun t => { t with startAt := some s.now, stores := [], published := 0, awayAt := none, awayNs := 0 }
  (if p / 2 < 12 then s4.set (Reg.sleepState (p / 2)) slRun else s4).setTState n (if s.tstate n = tsLate then tsLate else tsLogic)

/-- A preempted task resumes with its registers restored by sampled loads, one copy for both cores of a locked pair (R121,
R215). DESIGN CHOICE (log 34). -/
def State.resume (s : State) (p : Nat) (sv : Saved) (rest : List Saved) : State :=
  let u := p / 2
  let s1 := { s with drv := { s.drv with running := SMap.set s.drv.running p sv.task, stack := SMap.set s.drv.stack p rest } }
  let s2 := if s.isSplit u then s1.setCore u (p % 2 == 1) (if p % 2 = 1 then sv.core1 else sv.core0)
    else (s1.setCore u false sv.core0).setCore u true sv.core0
  (s2.setTask sv.task fun k =>
    { k with awayAt := none, awayNs := k.awayNs + (match k.awayAt with | some a => s.now - a | none => 0) }).setTState sv.task
    (if s.tstate sv.task = tsLate then tsLate else tsLogic)

end Sys2Proof.Machine
end

