-- ==== Sys2Proof/Machine/UrgOps.lean ====
section
/-! DEFINITION. Check lists (R432, R433), and urgent tasks (R132 to R135): dispatch, holding and merging of triggers. -/

namespace Sys2Proof.Machine

/-! The image behind a task -/

/-- The descriptor of a task of the active image, or of a trial task. -/
def State.descOf (s : State) (n : Nat) : Option TaskDesc :=
  if n < 32 then (match s.activeImg with | some m => m.taskOf n | none => none) else s.trialDesc n

/-- A task's output list (R162) as point and word: of its image, or of the image under which it goes on running (R146). -/
def State.outList (s : State) (n : Nat) : List (Nat × Nat) :=
  match (s.task n).old with
  | some o => o.1
  | none => match s.descOf n with | some d => d.outs | none => []

/-! Check lists (R432, R433) -/

/-- The result word of a check-list entry. -/
def State.checkWord (s : State) (n poly : Nat) : TW :=
  match s.scanValue n with
  | some v => goodBits (if poly = 2 then v else v % 2 ^ 32)
  | none => ⟨0#64, mkTag qBad false false tyBits⟩

/-- A check-list entry run by the stub of a place on its engine (R432, R433): the sequence word is a load of the pair, the
result a store of it. True: the store has been made. -/
def State.checkEntry (s : State) (p v : Nat) : Bool × State :=
  let n := if p / 2 < 6 then 2 else 3
  let src := v % 2 ^ 22
  let poly := v / 2 ^ 51 % 4
  let ctl := poly + 2 ^ 4 + v / 2 ^ 48 % 8 * 2 ^ 8 + bit (v.testBit 54) 12 + bit (v.testBit 53) 13
  let run (t : State) (seq : Nat) : Bool × State :=
    let u := t.scanNow n src (v / 2 ^ 44 % 16 + 1) seq ctl
    u.stubStore p (v / 2 ^ 22 % 2 ^ 22) (u.checkWord n poly)
  if v.testBit 53 then
    match s.stubLoad p (src - 1) with
    | (some w, t) => run t (w.val.toNat % 2 ^ 32)
    | (none, t) => (false, t)
  else run s (s.get (Reg.cvuSeq n))

/-- Entries one after the other, up to one that is withheld. -/
def State.checkEntries (s : State) (p : Nat) : List Nat → Bool × State
  | [] => (true, s)
  | v :: l => thenDo (s.checkEntry p v) fun t => State.checkEntries t p l

/-- The entries of a task with a direction: false receive, true send. -/
def State.checkList (s : State) (p : Nat) (entries : List Nat) (send : Bool) : Bool × State :=
  s.checkEntries p (entries.filter fun v => v.testBit 55 == send)

/-- The receive entries of a task, before its first user instruction (R432). -/
def State.checkReceived (s : State) (n : Nat) : State :=
  (s.checkList (s.place n) (match s.descOf n with | some d => d.checks | none => []) false).2

/-! Triggers -/

/-- An urgent task runs at a place (R121). -/
def State.urgentAt (s : State) (p : Nat) : Bool :=
  match s.runningAt p with
  | some m => decide (16 ≤ m) && decide (m < 32)
  | none => false

/-- The places of a unit: the locked pair, or both cores of a split one (R225). -/
def State.placesOf (s : State) (u : Nat) : List Nat := if s.isSplit u then [2 * u, 2 * u + 1] else [2 * u]

/-- An urgent task runs on a unit. -/
def State.urgentOn (s : State) (u : Nat) : Bool := (s.placesOf u).any s.urgentAt

def State.urgentBit (s : State) (f : Fld) (n : Nat) (on : Bool) : State :=
  let v := s.get f
  let c := v - (if v.testBit (n - 16) then 2 ^ (n - 16) else 0)
  s.set f (c + bit on (n - 16))

/-- The TIME of a release or trigger as TREL gives it (R80). -/
def State.relTag (s : State) (t : Int) : TW :=
  ⟨BitVec.ofInt 64 t, mkTag (if s.inLock then qGood else qUncertain) false false tyTime⟩

/-- The trigger record goes into the first words of the scratch area before the first instruction (R371). -/
def State.putRecord (s : State) (n : Nat) (rec : List TW) : State := s.stores (s.get (Reg.tscr n)) rec

/-- Dispatch an urgent task for a trigger whose word TREL gives (R133): its pair is woken, a cyclic task there is preempted,
and the primary sends the trigger data on both lanes. DESIGN CHOICE (log 34). -/
def State.dispatchUrgent (s : State) (n : Nat) (t : Int) (w : TW) (rec : List TW) : State :=
  match (s.wakePair (s.pairOf n) (if s.get (Reg.utrigSrc n) = 1 then 5 else 6)).preempt (s.place n) with
  | (false, u) => u
  | (true, u) =>
    let s2 := (u.putRecord n rec).setTask n fun k =>
      { k with rel := some t, relWord := w, lastDispatch := some s.now, pend := none, trigger := rec,
               noPublish := false, ended := false, outs := [], old := none }
    let s3 := (((s2.urgentBit Reg.drvUpend n false).urgentBit Reg.drvUrun n true).incWrap (Reg.trel n)).dispatch n |>.checkReceived n
    let s4 := { s3 with drv := { s3.drv with urgentInW := s3.drv.urgentInW || s3.get Reg.weirState == 2 || s3.link.goAt.isSome } }
    if s4.mode = mPrimary ∨ s4.link.sendPhase = 6 then
      let words := if rec.isEmpty then [wBits 0, wTime t] ++ List.replicate 8 (wBits 0) else rec
      s4.sendFrame ftTrigger 0 false (wBits (n + bit rec.isEmpty 5) :: words)
    else s4

/-- Hold a trigger as pending; a further one is merged (R134). A trigger ends WAIT of its pair (R139).
DEDUCED (log 35). DESIGN CHOICE (log 45). -/
def State.holdTrigger (s : State) (n : Nat) (t : Int) (rec : List TW) : State :=
  let wake (t : State) : State := t.wakePair (t.pairOf n) (if t.get (Reg.utrigSrc n) = 1 then 5 else 6)
  match (s.task n).pend with
  | some _ => wake (s.incSat (Reg.tstMerge n))
  | none =>
    let s1 := (s.setTask n fun k => { k with pend := some (t, rec), pendWord := s.relTag t }).urgentBit Reg.drvUpend n true
    wake (if s1.runningAt (s1.place n) = some n then s1 else s1.set (Reg.tstState n) tsUrgentPending)

/-- A trigger of an urgent task (R132 to R134): dispatched, or held while an urgent task runs at its place, while one is
already held, before the minimum interval has passed, or while the KEEP copy for its place is owed (R189).
DESIGN CHOICE (log 45). -/
def State.trigger (s : State) (n : Nat) (t : Int) (rec : List TW) : State :=
  if n < 16 ∨ 24 ≤ n ∨ !s.active ∨ !s.enabled n ∨ s.get (Reg.utrigSrc n) = 0 then s
  else
    let early := match (s.task n).lastDispatch with
      | some d => decide (s.now < d + s.minInterval n)
      | none => false
    if (s.task n).pend.isSome || s.urgentAt (s.place n) || early || s.xch.keep.contains (s.place n) then s.holdTrigger n t rec
    else s.dispatchUrgent n t (s.relTag t) rec

/-- A trigger of the module's own receiver or software: ignored in STANDBY (R133). -/
def State.ownTrigger (s : State) (n : Nat) (t : Int) (rec : List TW) : State :=
  if s.mode = mStandby then s else s.trigger n t rec

/-- The pending urgent task of a place to run next (R121, R225): earliest trigger, then lower number; its minimum interval
has passed. -/
def State.nextUrgent (s : State) (p : Nat) : Option Nat :=
  let l := urgentTasks.filter fun n =>
    s.place n == p && s.enabled n && (s.task n).pend.isSome &&
      (match (s.task n).lastDispatch with
       | some d => decide (d + s.minInterval n ≤ s.now)
       | none => true)
  let at_ (n : Nat) : Int := match (s.task n).pend with | some q => q.1 | none => 0
  l.foldl (fun b n => match b with
    | none => some n
    | some m => if at_ n < at_ m then some n else b) none

/-- The next pending urgent task of a free place starts (R121, R134). -/
def State.runPending (s : State) (p : Nat) : State :=
  if !s.active ∨ s.urgentAt p ∨ s.xch.keep.contains p then s
  else
    match s.nextUrgent p with
    | none => s
    | some n =>
      match (s.task n).pend with
      | some (t, rec) => s.dispatchUrgent n t (s.task n).pendWord rec
      | none => s

end Sys2Proof.Machine
end

