-- ==== Sys2Proof/Machine/CanCmds.lean ====
section
/-! DEFINITION. The commands of the CAN channels (R359 to R384). -/

namespace Sys2Proof.Machine

/-! Reception -/

/-- Urgent tasks whose DRV.UTRIGn names the channel and element (R371). -/
def State.canTriggers (s : State) (n e : Nat) (f : CanFrame) (t : Int) : State :=
  s.each (urgentTasks.filter fun k =>
      s.get (Reg.utrigSrc k) == 1 && s.get (Reg.utrigCh k) == n && s.get (Reg.utrigFilt k) == e)
    fun k u => u.ownTrigger k t (triggerRecord n e f t)

/-- A valid frame in channel state listen or normal (R366 to R372); `t` is its corrected SOF stamp (R378). -/
def State.canReceive (s : State) (n : Nat) (f : CanFrame) (t : Int) : State :=
  let s0 := ((s.canTxFailed n).canRecOk n).set (Reg.canIdle n) 0
  if f.rtr then s0.incSat (Reg.canCnt n 6)
  else
    match (List.range 128).find? (fun e => s0.filterMatch n e f) with
    | none => s0.incSat (Reg.canCnt n 2)
    | some e =>
      if s0.flag (Reg.fctlReject n e) then s0
      else
        let o := s0.get (Reg.fctlObj n e)
        let s1 := if ((s0.chan n).obj o).dir ≠ 1 then s0
          else match (s0.chan n).lock with
            | some l =>
              if l.obj = o then s0.setChan n fun c => { c with hold := some (f, t, c.hold.isSome) }
              else s0.storeRx n o f t false
            | none => s0.storeRx n o f t false
        let s2 := s1.canBindings n o f
        if s2.flag (Reg.fctlUrgent n e) then s2.canTriggers n e f t else s2

/-- The channel takes part in the bus: listen or normal, and not integrating after a change of timing (R360, R364). -/
def State.canOn (s : State) (n : Nat) : Bool :=
  decide (2 ≤ s.get (Reg.canMode n)) && !(s.chan n).integrating && !s.hwif.pins

/-- The stamp of a frame from the TIME of its SOF edge at the receive input (R378). -/
def sofStamp (sof : Int) : Int := sof - 120

/-- CAN_FRAME_RECEIVE (R370): a frame that becomes valid, with the TIME of its SOF edge at the receive input. -/
def execCanFrameReceive (ch : Fin 16) (f : CanFrame) (sof : Int) (s : State) : Result :=
  .next (if s.canOn ch then s.canReceive ch f (sofStamp sof) else s)

/-- CAN_ARBITRATION_START (R375): the channel offers the eligible frame that would win. -/
def execCanArbitrationStart (ch : Fin 16) (s : State) : Result :=
  let n := ch.val
  .next (
    if s.canOn n && s.get (Reg.canMode n) == 3 && decide (s.get (Reg.canState n) < 2) && (s.chan n).inTx.isNone then
      match s.canOffer n with
      | none => s
      | some (o, ob) =>
        ((s.setChan n fun c => { c with inTx := some o }).set (Reg.canIdle n) 0).emit (.can n (s.canFrameOf n ob))
    else s)

/-- CAN_TRANSMIT_COMPLETE (R374, R375, R378): the frame in transmission departs. -/
def execCanTransmitComplete (ch : Fin 16) (sof : Int) (s : State) : Result :=
  let n := ch.val
  .next (
    match (s.chan n).inTx with
    | none => s
    | some o =>
      let s1 := s.setChan n fun c => ({ c with inTx := none }).setObj o fun x =>
        ({ x with pend := false, stamp := sofStamp sof } : CanObj).promote
      let s2 := s1.incSat (Reg.canCnt n 1)
      if s2.get (Reg.canMode n) = 3 then
        (if s2.get (Reg.canState n) < 2 then s2.set (Reg.canTec n) (s2.get (Reg.canTec n) - 1) else s2).canConfine n
      else (s2.canDiscard n).1)

/-- The error counters of ISO 11898-1 at an error in normal state (R379). -/
def State.canCountError (s : State) (n : Nat) (k : CanCount) : State :=
  let rec_ (d : Nat) : State :=
    if s.flag (Reg.canRp n) then s
    else if 128 ≤ s.get (Reg.canRec n) + d then (s.set (Reg.canRec n) 127).set (Reg.canRp n) 1
    else s.set (Reg.canRec n) (s.get (Reg.canRec n) + d)
  match k with
  | .none => s
  | .rec1 => (rec_ 1).canConfine n
  | .rec8 => (rec_ 8).canConfine n
  | .tec8 =>
    let v := s.get (Reg.canTec n) + 8
    if 255 < v then
      let s1 := s.set (Reg.canTec n) (Config.canTecBusOff s.free).toNat
      ({ s1 with free := s1.free + 1 }).busOff n
    else (s.set (Reg.canTec n) v).canConfine n

/-- CAN_ERROR (R360, R379): the last error of its phase, the count in listen state, the counters in normal state.
PRESUMED (log 83). -/
def execCanError (ch : Fin 16) (e : CanErr) (s : State) : Result :=
  let n := ch.val
  .next (
    if !s.canOn n then s
    else
      let s1 := s.set (if e.data then Reg.canDlec n else Reg.canLec n) e.code.toNat
      if s1.get (Reg.canMode n) = 2 then (s1.canTxFailed n).incSat (Reg.canCnt n 5)
      else if 2 ≤ s1.get (Reg.canState n) then s1
      else (s1.canTxFailed n).canCountError n e.count)

/-- RECOVER (R380). -/
def execRecover (ch : Fin 16) (s : State) : Result := .next (s.canRecoverWrite ch)

/-- RECOVERY_DELAY_EXPIRY (R380): the recovery delay of a software-class channel has passed since bus-off. -/
def execRecoveryDelayExpiry (ch : Fin 16) (s : State) : Result :=
  let n := ch.val
  let d := s.cfgNat (0x8001 + 16 * n) 0x0B 0
  .next (
    match (s.chan n).busOffAt with
    | none => s
    | some t => if d ≠ 0 ∧ s.due (t + d * 1000000) = true then s.canRecoverWrite n else s)

/-- BUS_OFF_RECOVERY_COMPLETE (R380): not before 128 × 11 nominal bit times. PRESUMED (log 83). -/
def execBusOffRecoveryComplete (ch : Fin 16) (s : State) : Result :=
  let n := ch.val
  .next (
    match (s.chan n).recovAt with
    | none => s
    | some t =>
      if s.get (Reg.canState n) = 3 ∧ t + 1408 * canBitTicks (s.chan n).nbt ≤ s.tmb.raw then
        ((s.clearCanErr n).setCanState n 0).setChan n fun c => { c with busOffAt := none, recovAt := none }
      else s)

/-- The timing words of a channel's registers (R383). -/
def State.timingWords (s : State) (n : Nat) : Nat × Nat × Nat :=
  (s.get (Reg.nbtBrp n) + s.get (Reg.nbtSeg1 n) * 2 ^ 8 + s.get (Reg.nbtSeg2 n) * 2 ^ 16 + s.get (Reg.nbtSjw n) * 2 ^ 24,
   s.get (Reg.dbtBrp n) + s.get (Reg.dbtSeg1 n) * 2 ^ 8 + s.get (Reg.dbtSeg2 n) * 2 ^ 16 + s.get (Reg.dbtSjw n) * 2 ^ 24
     + s.get (Reg.dbtTdc n) * 2 ^ 31,
   s.get (Reg.tdcoOffset n))

/-- CAN_BUS_IDLE_SWITCH (R360, R364): at a bus idle a channel that has integrated takes part again, new timing is taken,
after which it integrates, and a channel of a module in control enters normal state. -/
def execCanBusIdleSwitch (ch : Fin 16) (s : State) : Result :=
  let n := ch.val
  let c := s.chan n
  .next (
    if s.get (Reg.canMode n) < 2 ∨ c.inTx.isSome = true then s
    else
      let w := s.timingWords n
      let s1 := s.setChan n fun c =>
        if c.newTiming then { c with nbt := w.1, dbt := w.2.1, tdco := w.2.2, newTiming := false, integrating := true }
        else { c with integrating := false }
      let s2 := s1.set (Reg.canIdle n) 1
      if c.toNormal then s2.canEnterNormal n else s2)

/-- The value of a window word to its reader. -/
def State.windowRead (s : State) (n ofs : Nat) : State :=
  let r := s.readWindow n ofs
  r.2.emit (.read (Reg.canBase n + ofs) (goodInt r.1))

/-- OBJECT_LOCK_READ (R366): a read of CAN.MOCTLn. -/
def execObjectLockRead (ch : Fin 16) (s : State) : Result := .next (if s.functional then s.windowRead ch 0x21 else s)

/-- OBJECT_LAST_WORD_READ (R366): a read of the last window word of the object that the window shows. -/
def execObjectLastWordRead (ch : Fin 16) (s : State) : Result := 
  .next (if s.functional then s.windowRead ch (s.windowObj ch).lastOfs else s)

/-- OBJECT_SELECT (R366): a write to CAN.MOSELn. -/
def execObjectSelect (ch : Fin 16) (obj : BitVec 8) (s : State) : Result := 
  .next (if s.functional then s.selectObject ch obj.toNat else s)

/-- OBJECT_LOCK_TIMEOUT (R366): 100 µs after the lock was taken. -/
def execObjectLockTimeout (ch : Fin 16) (s : State) : Result :=
  .next (
    match (s.chan ch).lock with
    | some l => if s.due (l.at_ + 100000) then s.releaseLock ch false else s
    | none => s)

/-- QUEUE (R374): the channel acts on the post at the head of its FIFO, unless that is a WITHDRAW; an action that is
neither is discarded. -/
def execQueue (ch : Fin 16) (s : State) : Result :=
  let n := ch.val
  .next (
    match (s.chan n).posts with
    | [] => s
    | p :: _ =>
      if p.action = 1 then (s.popPost n).canQueue n p
      else if p.action = 2 then s
      else (s.popPost n).incSat (Reg.canCnt n 9))

/-- WITHDRAW (R374): the post at the head of the FIFO withdraws a frame. -/
def execWithdraw (ch : Fin 16) (s : State) : Result :=
  let n := ch.val
  .next (
    match (s.chan n).posts with
    | [] => s
    | p :: _ => if p.action = 2 then (s.popPost n).canWithdraw n p else s)

end Sys2Proof.Machine
end

