-- ==== Sys2Proof/Machine/NetOps.lean ====
section
/-! DEFINITION. Operations of the network ports (R311 to R322, R353, R355): transmit queues, peer-data frames,
publications, subscriptions and relays. -/

namespace Sys2Proof.Machine

/-! Frames and queues -/

/-- MAC address of a port: consecutive, in the order NET0, NET1, NETS (R311). -/
def macOf (port : Nat) : Bytes := (leBytes 6 (Config.macBase + port)).reverse

/-- Network byte order. -/
def be16 (v : Nat) : Bytes := (leBytes 2 v).reverse
def be32 (v : Nat) : Bytes := (leBytes 4 v).reverse

/-- VLAN identifier of a port, 0 for none (R315); NETS has none. -/
def State.vidOf (s : State) (port : Nat) : Nat := if port < 2 then s.odNat 0x2500 (0x20 + port) else 0

/-- An Ethernet frame from a port, before the FCS, padded to the shortest length. -/
def State.etherFrame (s : State) (port : Nat) (dst : Bytes) (pcp etype : Nat) (payload : Bytes) : Bytes :=
  let vid := s.vidOf port
  let tag : Bytes := if 1 ≤ vid ∧ vid ≤ 4094 then be16 0x8100 ++ be16 (pcp * 8192 + vid) else []
  let f := dst ++ macOf port ++ tag ++ be16 etype ++ payload
  f ++ List.replicate (60 - f.length) 0#8

def State.netQueue (s : State) (port : Nat) : List NetFrame := if port = 0 then s.net.queue0 else s.net.queue1

def State.setNetQueue (s : State) (port : Nat) (l : List NetFrame) : State :=
  { s with net := if port = 0 then { s.net with queue0 := l } else { s.net with queue1 := l } }

/-- Internet checksum: the complement of the ones' complement sum of 16-bit words. -/
def inetSum (b : Bytes) : Nat :=
  let w := (List.range ((b.length + 1) / 2)).foldl (fun n i => n + (b.getD (2 * i) 0#8).toNat * 256 + (b.getD (2 * i + 1) 0#8).toNat) 0
  let a := w % 65536 + w / 65536
  65535 - (a % 65536 + a / 65536)

/-- An IPv4 packet, not fragmented. DESIGN CHOICE (log 72). -/
def State.ipPacket (s : State) (proto src dst : Nat) (body : Bytes) : Bytes :=
  let h (c : Nat) : Bytes :=
    [0x45#8] ++ leBytes 1 (Config.ipField 0 s.free) ++ be16 (20 + body.length) ++ be16 (Config.ipField 3 s.free)
      ++ be16 (0x4000 * (Config.ipField 2 s.free % 2)) ++ leBytes 1 (Config.ipField 1 s.free) ++ leBytes 1 proto ++ be16 c
      ++ be32 src ++ be32 dst
  h (inetSum (h 0)) ++ body

/-- Queue a frame on NET0 or NET1; a launch time more than 2 s ahead is refused (R355). -/
def State.netPut (s : State) (port : Nat) (f : NetFrame) : State :=
  if (match f.launch with | some t => decide (s.now + 2000000000 < t) | none => false) then
    { s with launchRefused := s.launchRefused + 1 }
  else s.setNetQueue port (s.netQueue port ++ [f])

/-- A UDP datagram with its checksum over the pseudo-header (RFC 768). -/
def udpPacket (src dst from_ to_ : Nat) (body : Bytes) : Bytes :=
  let l := be16 (8 + body.length)
  let u (c : Nat) : Bytes := be16 from_ ++ be16 to_ ++ l ++ be16 c ++ body
  let c := inetSum (be32 src ++ be32 dst ++ [0#8, 17#8] ++ l ++ u 0)
  u (if c = 0 then 65535 else c)

/-- A frame of the classes OTHER and VOP (R313): queue 0 or 1 of NET0 and NET1; NETS sends at once. -/
def State.classSend (s : State) (port queue : Nat) (dst : Bytes) (pcp etype : Nat) (payload : Bytes) : State :=
  let f := s.etherFrame port dst pcp etype payload
  if port < 2 then s.netPut port ⟨queue, none, f, []⟩ else s.emit (.net port f)

/-- Time on a gigabit medium with FCS, preamble and inter-frame gap, in ns (R320). -/
def frameNs (f : NetFrame) : Int := ((f.bytes.length : Int) + 24) * 8

/-- The frame that a port starts next (R313, R314, R353): the head of the highest queue whose head is due; a lower
queue waits where its frame would not complete before a launch time in queue 2 or 3. -/
def State.netNext (s : State) (port : Nat) : Option NetFrame :=
  let q := s.netQueue port
  let ready (f : NetFrame) : Bool := match f.launch with | some t => s.due t | none => true
  let clear (f : NetFrame) : Bool := q.all fun g => decide (g.queue < 2) || decide (g.queue ≤ f.queue) ||
    (match g.launch with | some t => decide (s.now + frameNs f ≤ t) | none => true)
  [3, 2, 1, 0].findSome? fun k =>
    match q.find? (fun f => f.queue == k) with
    | some f => if ready f && clear f then some f else none
    | none => none

/-- The next frame departs, with what the MAC inserts; `abort` is whether an insertion does not complete (R352). -/
def State.netStart (s : State) (port : Nat) (abort : Bool) : State :=
  match s.netNext port with
  | some f =>
    let s1 := s.setNetQueue port ((s.netQueue port).erase f)
    if abort && ptpInserts f.bytes then s1.ptpDiscard 1
    else
      let r := s1.ptpDepart port f.bytes
      r.2.emit (.net port r.1)
  | none => s

/-! Peer data -/

def netField (b : Bytes) (o n : Nat) : Nat := leNat ((b.drop o).take n)

/-- Parts of a peer-data frame (R317, R318). -/
def pfPair (p : Bytes) : Nat := netField p 4 4
def pfSeq (p : Bytes) : Nat := netField p 8 8
def pfIndex (p : Bytes) : Nat := pfSeq p / 2 ^ 16
def pfPub (p : Bytes) : Nat := pfSeq p / 2 ^ 8 % 256
def pfPart (p : Bytes) : Nat := pfSeq p % 256
def pfCount (p : Bytes) : Nat := netField p 3 1
def pfFirst (p : Bytes) : Nat := netField p 16 2

/-- A frame that R321 does not discard. DEDUCED (log 63). -/
def peerFrameOk (p : Bytes) : Bool :=
  netField p 0 1 == 1 && decide (1 ≤ pfCount p) && decide (pfCount p ≤ 128) && decide (pfFirst p + pfCount p ≤ 512)
    && netField p 18 6 == 0 && decide (24 + 9 * pfCount p ≤ p.length)

/-- Word `k` of a frame. -/
def pfWord (p : Bytes) (k : Nat) : TW := ⟨BitVec.ofNat 64 (netField p (24 + 9 * k) 8), BitVec.ofNat 8 (netField p (32 + 9 * k) 1)⟩

/-- Subscription `k` (R333). -/
def State.subBytes (s : State) (k : Nat) : Bytes := s.od (0x2560 + k / 32) (k % 32)
def State.subTask (s : State) (k : Nat) : Nat := netField (s.subBytes k) 6 1
def State.subOn (s : State) (k : Nat) : Bool := netField (s.subBytes k) 13 1 != 0

/-- A subscription matches a frame (R321). -/
def State.subHit (s : State) (k port : Nat) (group : Bytes) (p : Bytes) : Bool :=
  let b := s.subBytes k
  s.subOn k && netField b 0 4 == pfPair p && netField b 4 2 == pfPub p && (netField b 12 1).testBit port
    && (b.drop 14).take 6 == group

def State.subSt (s : State) (k : Nat) : SubSt := SMap.get {} s.pimg.subs k

def State.setSub (s : State) (k : Nat) (f : SubSt → SubSt) : State :=
  { s with pimg := { s.pimg with subs := SMap.put {} s.pimg.subs k (f (s.subSt k)) } }

/-- The release that a frame is assigned to (R156). DEDUCED (log 46). -/
def State.subRelease (s : State) (k : Nat) (p : Bytes) : Int :=
  s.releaseAfter (s.subTask k) ((pfIndex p : Int) * 125000 + (netField (s.subBytes k) 8 4 : Int) * 1000)

/-- A frame's elements are written to the points bound to them (R32, R154, R321). -/
def State.peerElements (s : State) (k : Nat) (p : Bytes) : State :=
  s.each (List.range (pfCount p)) fun j t =>
    let w := pfWord p j
    let res := w.reserved
    let w1 : TW := if res then ⟨0#64, 0#8⟩ else if (netField p 1 1).testBit 0 then lowerQ w qUncertain else w
    let t1 := if res then { t with net := { t.net with peerElem := t.net.peerElem + 1 } } else t
    t1.each (t1.bindings.filter fun b => b.kind == bkPeerRx && b.sel == k && b.ofs == pfFirst p + j) fun b u => u.sourceUpdate b w1

/-- A frame that a subscription matches (R156): a copy or an older one is discarded without count, a late one with. -/
def State.peerAccept (s : State) (k : Nat) (p : Bytes) : State :=
  let st := s.subSt k
  let old := match st.seq with
    | some i => decide (pfIndex p < i) || (pfIndex p == i && st.lastPart.contains (pfPart p))
    | none => false
  if old then s
  else if s.subRelease k p ≤ s.now then { s with pimg := { s.pimg with late := s.pimg.late + 1 } }
  else
    (s.setSub k fun x =>
      { x with seq := some (pfIndex p), rels := s.subRelease k p :: x.rels,
               lastPart := if x.seq = some (pfIndex p) then pfPart p :: x.lastPart else [pfPart p] }).peerElements k p

/-- An assigned release without an accepted frame (R156). DEDUCED (log 46). -/
def State.peerMiss (s : State) (task : Nat) (t : Int) : State :=
  s.each ((List.range 256).filter fun k => s.subOn k && s.subTask k == task) fun k u =>
    if t ∈ (u.subSt k).rels then u.setSub k fun x => { x with miss := 0, rels := x.rels.filter fun r => decide (t < r) }
    else
      let m := (u.subSt k).miss + 1
      let q := if netField (u.subBytes k) 7 1 ≤ m then qBad else qUncertain
      (u.setSub k fun x => { x with miss := m }).each
        (u.bindings.filter fun b => b.kind == bkPeerRx && b.sel == k) fun b v => v.portRework 0 b.point fun w => lowerQ w q

/-- A peer-data frame as it came, with its header (R317). -/
def peerBytes (h : PeerHead) (p : Bytes) : Bytes :=
  let f := h.group ++ h.src ++ h.tag ++ be16 0xB47C ++ p
  f ++ List.replicate (60 - f.length) 0#8

/-- Forwarding on the relay ports (R29, R322): in control, a hop count above zero, not the own pair, once per port; only the
hop count changes. DEDUCED (log 63). -/
def State.peerRelay (s : State) (h : PeerHead) (p : Bytes) : State :=
  if !s.inControl ∨ netField p 2 1 = 0 ∨ pfPair p = s.odNat 0x2500 1 then s
  else
    s.each (List.range 32) fun e t =>
      let b := t.od 0x2580 e
      if netField b 0 4 = pfPair p ∧ netField b 4 2 = pfPub p ∧ netField b 7 1 ≠ 0 then
        t.each ([0, 1].filter fun q => (netField b 6 1).testBit q) fun q u =>
          let key := (pfPair p, pfSeq p, q)
          if key ∈ u.net.relayed then u
          else
            let f := p.take 2 ++ leBytes 1 (netField p 2 1 - 1) ++ p.drop 3
            let u1 := { u with net := { u.net with relayed := key :: u.net.relayed, relays := u.net.relays + 1 } }
            u1.netPut q ⟨2, none, peerBytes h f, []⟩
      else t

/-! Publication -/

/-- Publication `k` (R333). -/
def State.pubBytes (s : State) (k : Nat) : Bytes := s.od (0x2540 + k / 32) (k % 32)

/-- The word of an element: the publishing cycle's word of the point bound to it, or the forced one (R166); of an element
that no such point is bound to, the spec says nothing. DESIGN CHOICE (log 47). -/
def State.pubWord (s : State) (k e : Nat) (outs : List (Nat × TW)) : TW :=
  match s.bindings.find? fun b => b.kind == bkPeerTx && b.sel == k && b.ofs == e with
  | some b =>
    match outs.find? fun o => o.1 == b.point with
    | some o => s.sinkWord o.1 o.2
    | none => Config.peerUnbound (k * 512 + e)
  | none => Config.peerUnbound (k * 512 + e)

/-- One part of a publication (R317 to R319). DEDUCED (log 121). -/
def State.pubPart (s : State) (k part : Nat) (rel : Int) (outs : List (Nat × TW)) : Bytes :=
  let b := s.pubBytes k
  let n := min 128 (netField b 2 2 - 128 * part)
  [1#8, if s.inLock then 0#8 else 1#8] ++ leBytes 1 (netField b 1 1) ++ leBytes 1 n ++ leBytes 4 (s.odNat 0x2500 1)
    ++ leBytes 8 (rel.toNat / 125000 * 2 ^ 16 + k * 2 ^ 8 + part) ++ leBytes 2 (128 * part) ++ List.replicate 6 0#8
    ++ (List.range n).flatMap fun j => wordBytes (s.pubWord k (128 * part + j) outs)

/-- The points of a publication. -/
def State.pubPoints (s : State) (k : Nat) : List Nat := (s.bindings.filter fun x => x.kind == bkPeerTx && x.sel == k).map (·.point)

/-- The frames of a task's publications, as publication, part and port (R319); a publication with a point that an urgent task
holds is left (R136). DEDUCED (log 43). -/
def State.peerOuts (s : State) (task : Nat) (rel : Int) : List (Nat × Nat × Nat) :=
  if s.odNat 0x2500 1 = 0 then []
  else
    (List.range 256).flatMap fun k =>
      let b := s.pubBytes k
      if netField b 5 1 ≠ 0 ∧ netField b 0 1 = task ∧ !(s.pubPoints k).any (fun p => s.urgentHeld p rel) then
        (List.range (ceilDiv (netField b 2 2) 128)).flatMap fun part =>
          ([0, 1].filter fun q => (netField b 4 1).testBit q).map fun q => (k, part, q)
      else []

/-- A frame of a publication is queued with a launch time (R319). -/
def State.publishPeer (s : State) (rel launch : Int) (outs : List (Nat × TW)) (e : Nat × Nat × Nat) : State :=
  let f := s.etherFrame e.2.2 (((s.pubBytes e.1).drop 6).take 6) (s.odNat 0x2500 0x22) 0xB47C (s.pubPart e.1 e.2.1 rel outs)
  s.netPut e.2.2 ⟨2, some launch, f, s.pubPoints e.1⟩

/-- Frames already queued for a point are withdrawn (R136). DEDUCED (log 63). -/
def State.withdrawPeers (s : State) (p : Nat) : State :=
  s.each [0, 1] fun q t => t.setNetQueue q ((t.netQueue q).filter fun f => !(f.launch.isSome && f.pts.contains p))

end Sys2Proof.Machine
end

