-- ==== Sys2Proof/Machine/ProtCmds.lean ====
section
/-! DEFINITION. The commands of lockstep, speed, DOZE, scrubbing and the memory protection unit (R86 to R112, R140, R141,
R202 to R230, R417 to R420, R454 to R461). -/

namespace Sys2Proof.Machine

/-! Lockstep -/

/-- A unit executes: the supervisor pair from the runtime's start, a control pair until a latching fault or SAFE stops it
(R36, R38). DEDUCED (log 26). -/
def State.unitRuns (s : State) (u : Nat) : Bool :=
  if u = 12 then s.runtime else s.runtime && s.mode != mSafe && !s.md.stopped

/-- The comparator and the stall monitor of a unit see tokens: the supervisor pair runs from BOOT on, first the boot ROM
(R46, R218). DEDUCED (log 26). -/
def State.unitWatched (s : State) (u : Nat) : Bool := if u = 12 then s.functional else s.unitRuns u

/-- COMPARISON_TIMEOUT (R210): a comparison handshake of a locked unit has not completed within 2 µs. -/
def execComparisonTimeout (u : Fin 13) (s : State) : Result :=
  .next (if s.unitWatched u && !s.isSplit u then s.unitFault u 8 0#72 0#72 else s)

/-- A pair in RUN (R211): not in WAIT or DOZE, and not held before dispatch. -/
def State.inRun (s : State) (u : Nat) : Bool :=
  s.unitWatched u && (u == 12 || (s.get (Reg.sleepState u) == slRun &&
    ((s.runningAt (coreKey u false)).isSome || (s.runningAt (coreKey u true)).isSome)))

/-- PAIR_STALL (R211): a pair in RUN has retired no token for 5 µs of the time base. DEDUCED (log 15). -/
def execPairStall (u : Fin 13) (s : State) : Result :=
  .next (if s.inRun u && decide ((s.pair u).lastAt + 5000 ≤ s.tmb.raw) then s.unitFault u 0xB 0#72 0#72 else s)

/-- The bytes that a state seal is computed over (R212). -/
def sealBytes (task : Nat) (t : Int) (c : CoreSt) (scr : List (Nat × TW)) : Bytes :=
  (BitVec.ofNat 8 task :: leBytes 8 (BitVec.ofInt 64 t).toNat)
    ++ ((List.range 64).flatMap fun r => wordBytes (SMap.get ⟨0#64, 0#8⟩ c.g r) ++ leBytes 4 r)
    ++ scr.flatMap fun e => wordBytes e.2 ++ leBytes 4 e.1

def stateSeal (task : Nat) (t : Int) (c : CoreSt) (scr : List (Nat × TW)) : Word :=
  BitVec.ofNat 64 (crc 2 (sealBytes task t c scr))

/-- A seal accepted for a core of a unit (R214, R224, R229). -/
def State.acceptSeal (s : State) (u : Nat) (core1 : Bool) (v : Word) : State :=
  let k := if core1 then 2 else 0
  ((s.set (Reg.lksSeal u k) (v.toNat % 2 ^ 32)).set (Reg.lksSeal u (k + 1)) (v.toNat / 2 ^ 32)).incWrap (Reg.ustSeals u)

/-- PROOF_TEST_DUE (R279). -/
def execProofTestDue (s : State) : Result := .next (if s.runtime then s.refreshProof else s)

/-- A request for the injection test of one pair, taken in ISOLATED (R223, R229). -/
def State.injectionStart (s : State) (p : Nat) : State :=
  if s.mode = mIsolated ∧ p < 12 then (s.set Reg.injPair p).set Reg.injBusy 1 else s

/-- INJECTION_TEST (R221, R223): the test that a request has started ends. DESIGN CHOICE (log 57). -/
def execInjectionTest (pair : BitVec 4) (miss : InjMiss) (s : State) : Result :=
  .next (
    if s.functional ∧ s.flag Reg.injBusy = true ∧ s.get Reg.injPair = pair.toNat then s.injections [(pair.toNat, miss)] else s)

/-! Speed and DOZE -/

/-- One action of the adaptive voltage loop (R91); a change notes its tick of the counter, which no time step moves.
DEDUCED (log 37). -/
def State.adaptVoltage (s : State) (u reading : Nat) : State :=
  let v := s.get (Reg.vltVolt u)
  let b := s.get (Reg.vltBias u)
  let t := s.get Reg.avsTarget
  let change (s : State) : State := { s with pwr := { s.pwr with avsAt := SMap.set s.pwr.avsAt u s.tmb.raw } }
  let quiet := match SMap.find s.pwr.avsAt u with
    | some a => decide (a + 1000000 ≤ s.tmb.raw)
    | none => true
  if reading < t then
    let v1 := min 900 (v + 10)
    let b1 := if v1 = 900 then min 3 (b + 1) else b
    if v1 = v ∧ b1 = b then s else change ((s.setRail u v1).set (Reg.vltBias u) b1)
  else if t + s.get Reg.avsHyst < reading ∧ quiet = true then
    if 0 < b then change (s.set (Reg.vltBias u) (b - 1))
    else if 680 < v then change (s.setRail u (max 680 (v - 5)))
    else s
  else s

/-- CANARY_READING (R46, R90, R91, R93, R94): unit 0 to 2 a cluster, 3 the supervisor pair; the reading in M instructions/s
and the junction temperature; a cluster below the floor fails BOOT step 8. DESIGN CHOICE (log 6). -/
def execCanaryReading (unit : Fin 4) (reading : BitVec 16) (tj : BitVec 8) (s : State) : Result :=
  let u := unit.val
  .next (
    if !s.functional ∨ (SMap.find s.pwr.dozeAt u).isSome = true then s
    else
      let s1 := (s.set (Reg.spdSpeed u) reading.toNat).set (Reg.spdTj u) tj.toNat
      let low := decide (reading.toNat < 640) && s.get (Reg.vltVolt u) == 900 && s.get (Reg.vltBias u) == 3
      let s2 := if low && !s.flag (Reg.spdBelow u) then (s1.set (Reg.spdBelow u) 1).event .belowFloor [u, reading.toNat]
        else s1
      let s3 := if s.fixedRail u then s2.fixRails else (s2.setRail u (s2.get (Reg.vltVolt u))).adaptVoltage u reading.toNat
      let s4 := { s3 with pwr := { s3.pwr with owed := s3.pwr.owed.filter (· != u) } }
      if low && s.mode == mBoot && s.get Reg.bootStep == 8 && decide (u < 3) then (s4.bootFailed 8).transit 5 0x04 else s4)

/-- The pairs of a cluster (R86). -/
def clusterPairs (c : Nat) : List Nat := (List.range 4).map (· + 4 * c)

/-- Time to the next release on any pair of a cluster, none where no release comes. -/
def State.nextReleaseIn (s : State) (c : Nat) : Option Int :=
  if !s.active then none
  else
    ((cyclicTasks.filter fun n => s.enabled n && (clusterPairs c).contains (s.pairOf n)).map fun n =>
      s.releaseAfter n s.now - s.now).foldl (fun b t => match b with
        | none => some t
        | some x => some (min x t)) none

/-- DOZE_ENTRY (R140, R455, R459). DEDUCED (log 37). -/
def execDozeEntry (cluster : Fin 3) (s : State) : Result :=
  let c := cluster.val
  .next (
    let far := match s.nextReleaseIn c with
      | some t => decide ((s.get Reg.dozeMinidle : Int) * 1000 < t)
      | none => true
    let urgentHere := urgentTasks.any fun n => s.enabled n && (clusterPairs c).contains (s.pairOf n)
    if (clusterPairs c).all (fun u => s.get (Reg.sleepState u) == slWaitDoze) && s.flag Reg.dozeEn && far && !urgentHere
        && !s.pwr.owed.contains c then
      let rail := (s.get (Reg.vltVolt c), s.get (Reg.vltBias c))
      let s1 := (s.setRail c 550).set (Reg.vltBias c) 0
      let s2 := { s1 with pwr := { s1.pwr with
        dozeAt := SMap.set s1.pwr.dozeAt c s.now, dozeRail := SMap.set s1.pwr.dozeRail c rail } }
      s2.each (clusterPairs c) fun u t => t.set (Reg.sleepState u) slDoze
    else s)

/-- A wake that ends the DOZE of a cluster (R460, R461). DEDUCED (log 37). -/
def State.endDoze (s : State) (c src : Nat) : State := (s.leaveDoze c).recordWake src (12 + c) s.now

/-- DOZE_LEAD (R141): the wake lead before the next release. -/
def execDozeLead (cluster : Fin 3) (s : State) : Result :=
  .next (
    match SMap.find s.pwr.dozeAt cluster, s.nextReleaseIn cluster with
    | some _, some t => if t ≤ (s.get Reg.dozeLead : Int) * 1000 then s.endDoze cluster 3 else s
    | _, _ => s)

/-- DOZE_REFRESH (R459): a DOZE of 100 ms; the cluster owes a canary reading before the next one. -/
def execDozeRefresh (cluster : Fin 3) (s : State) : Result :=
  .next (
    match SMap.find s.pwr.dozeAt cluster with
    | some t =>
      if s.due (t + 100000000) then
        let s1 := s.endDoze cluster 4
        { s1 with pwr := { s1.pwr with owed := cluster.val :: s1.pwr.owed } }
      else s
    | none => s)

/-! Scrubbing -/

/-- The word of the SRAM pass at or after an address (R108). -/
def sramPos (a : Nat) : Nat :=
  if a < 0x400000 then a
  else if a < 0x1000000 then 0x1000000
  else if a < 0x1400000 then a
  else if a < 0x2000000 then 0x2000000
  else if a < 0x2100000 then a
  else 0

/-- The word of the retentive pass at an address: a position outside the window, as after reset, stands for its start. -/
def mramPos (a : Nat) : Nat := if 0x8000000 ≤ a ∧ a < 0x8400000 then a else 0x8000000

/-- SCRUB_ACCESS (R106 to R109, R513): the next word of the SRAM pass or of the retentive pass, in which the bits of
`upset` have flipped. DESIGN CHOICE (log 6). DEDUCED (log 39). -/
def execScrubAccess (mram : Bool) (upset : BitVec 80) (s : State) : Result :=
  .next (
    if !s.functional then s
    else if mram then
      let a := mramPos (s.get Reg.scrubMpos)
      let r := (s.flip a upset).eccRead agMscrub a
      let s1 := if r.1.isNone then { r.2 with pwr := { r.2.pwr with retUe := true } } else r.2
      if a + 1 = 0x8400000 then
        let s2 := (s1.set Reg.scrubMpos 0x8000000).incWrap Reg.scrubMpass
        let s3 := if s2.pwr.retUe then s2 else (s2.set Reg.eccRwue 0).showHealth
        { s3 with pwr := { s3.pwr with retUe := false } }
      else s1.set Reg.scrubMpos (a + 1)
    else
      let a := sramPos (s.get Reg.scrubPos)
      let s1 := ((s.flip a upset).eccRead agScrub a).2
      if a + 1 = 0x2100000 then (s1.set Reg.scrubPos 0).incWrap Reg.scrubSpass else s1.set Reg.scrubPos (sramPos (a + 1)))

/-- SCRUB_INTERVAL_END (R110): one second of the time base. DEDUCED (log 122). -/
def execScrubIntervalEnd (s : State) : Result :=
  .next (
    if !s.functional ∨ s.tmb.run < s.pwr.scrubAt + 1000000000 then s
    else
      let lvl := s.get Reg.scrubLvl
      let hot := decide (max 1 (s.get Reg.scrubThup) ≤ s.pwr.scrubCe)
      let quiet := if hot then 0 else s.pwr.scrubQuiet + 1
      let down := decide (max 1 (s.get Reg.scrubHolddn) ≤ quiet) && decide (0 < lvl)
      let lvl1 := if hot && decide (lvl < s.get Reg.scrubMaxlvl) then lvl + 1 else if down then lvl - 1 else lvl
      let s1 := s.set Reg.scrubLvl lvl1
      { s1 with pwr := { s1.pwr with scrubCe := 0, scrubQuiet := if down then 0 else quiet, scrubAt := s.tmb.run } })

/-! Memory protection unit -/

/-- The checkers' copies of the regions are compared after a rule write (R420). -/
def State.compareCopies (s : State) : State :=
  if (List.range 64).all fun r => s.get (Reg.rBase 0 r) == s.get (Reg.rBase 1 r) && s.get (Reg.rLim 0 r) == s.get (Reg.rLim 1 r)
      && s.get (Reg.rAttr 0 r) == s.get (Reg.rAttr 1 r) && s.get (Reg.rMask 0 r) == s.get (Reg.rMask 1 r) then s
  else s.mpuFaultLatch

/-- A rule write (R417, R418); `inflight` accesses of the old epoch are under way. While one waits for the drain, the
supervisor pair's handshake is held, and it makes no further one. DEDUCED (log 88). -/
def State.mpuRuleWrite (s : State) (w inflight : Nat) : State :=
  let r := w % 64
  let base := s.get Reg.mpuWbase
  let lim := s.get Reg.mpuWlim
  let attr := s.get Reg.mpuWattr
  let mask := s.get Reg.mpuWmask
  if !w.testBit 31 then s
  else if (s.get (Reg.rAttr 0 r)).testBit 9 then
    s.mpuLocked r
  else if s.flag Reg.mpuDrain then
    if s.mpu.waiting.isSome then s else { s with mpu := { s.mpu with waiting := some (r, base, lim, attr, mask) } }
  else (s.mpuCopy r base lim attr mask inflight).compareCopies

/-- Accesses in flight that the MPU has checked: the writes that the pairs hold until the comparator accepts them (R208,
R409). -/
def State.heldAccesses (s : State) : Nat :=
  (s.pairs.flatMap fun e => e.2.ahead.filter fun x => x.held.isSome).length

/-- MPU_RULE_WRITE (R417): by the supervisor pair in privileged mode. -/
def execMpuRuleWrite (w : BitVec 32) (inflight : BitVec 8) (s : State) : Result :=
  .next (if s.runtime then s.mpuRuleWrite w.toNat inflight.toNat else s)

/-- MPU_DRAIN_COMPLETE (R418): a rule write that has waited takes effect, with `inflight` accesses of its old epoch.
DEDUCED (log 88). -/
def execMpuDrainComplete (inflight : BitVec 8) (s : State) : Result :=
  .next (
    if !s.flag Reg.mpuDrain then s
    else if s.mpu.waiting.isSome then (s.mpuDrained inflight.toNat).compareCopies
    else s.mpuDrained inflight.toNat)

/-- MPU_DRAIN_TIMEOUT (R419): not drained within 2 µs of the GO write. -/
def execMpuDrainTimeout (s : State) : Result :=
  .next (
    match s.mpu.drainAt with
    | some t => if s.flag Reg.mpuDrain && s.due (t + 2000) then s.mpuFaultLatch else s
    | none => s)

end Sys2Proof.Machine
end

