-- ==== Sys2Proof/Machine/SealOps.lean ====
section
/-! DEFINITION. Seal records and their comparison (R246, R247, R249). -/

namespace Sys2Proof.Machine

/-- The output seal (R246): the output list in order. DEDUCED (log 123). -/
def outputSeal (outs : List (Nat × TW)) : Word :=
  BitVec.ofNat 64 (crc 2 (outs.flatMap fun e => leBytes 2 e.1 ++ wordBytes e.2))

/-- The store seal (R246): every accepted store in order. DEDUCED (log 123). -/
def storeSeal (l : List (Nat × TW)) : Word := BitVec.ofNat 64 (crc 2 (l.flatMap fun e => leBytes 4 e.1 ++ wordBytes e.2))

/-- The unit of a record's task, the seals that differ as a bit each, and the capture of R249 in BLW.SEALF. -/
def State.captureSeal (s : State) (task : Nat) (core : Bool) (t : Int) (diff : Nat) : State :=
  let s1 := ((s.set Reg.sfValid 1).set Reg.sfTask task).set Reg.sfUnit (s.pairOf task)
  let s2 := ((s1.setFlag Reg.sfState (diff.testBit 0)).setFlag Reg.sfOutput (diff.testBit 1)).setFlag Reg.sfStore (diff.testBit 2)
  ((s2.setFlag Reg.sfMissing (diff.testBit 3)).setFlag Reg.sfCore1 core).setHalves Reg.sfAtl Reg.sfAth t

/-- The targeted self-test of a unit starts (R249). -/
def State.startSelfTest (s : State) (task : Nat) (core : Bool) (t : Int) : State :=
  let s1 := { s with link := { s.link with test := some { task := task, core := core, at_ := t, start := s.now } } }
  (((s1.set Reg.diagState 1).set Reg.diagOwn 0).set Reg.diagPart 0).set Reg.diagUnits (2 ^ s.pairOf task)

/-- A seal disagreement (R249, R251): while a test runs it is counted only. -/
def State.sealDisagree (s : State) (task : Nat) (core : Bool) (t : Int) (diff : Nat) (recs : List Int) : State :=
  let s1 := s.incSat Reg.sealDis
  let s2 := { s1 with link := { s1.link with disagreed := task :: s1.link.disagreed.filter (· != task) } }
  if s2.link.test.isSome then s2
  else ((s2.captureSeal task core t diff).event .sealDisagreement recs).startSelfTest task core t

def SealRec.args (r : SealRec) : List Int := [r.task, if r.core then 1 else 0, r.at_, r.state.toNat, r.output.toNat, r.store.toNat]

/-- What is known of the seals of a cycle: its record was compared, or found missing; a trial cycle of the same release that
waits is told (R183). -/
def State.noteVerdict (s : State) (task : Nat) (rel : Int) (ok : Bool) : State :=
  let s1 := s.setTask task fun k => { k with judged := some rel, agreed := if ok then some rel else k.agreed }
  match (s1.task (task + 32)).await with
  | some (r, outs, none) => if r = rel then s1.setTask (task + 32) fun k => { k with await := some (r, outs, some ok) } else s1
  | _ => s1

/-- Two records of one task and instant (R247). -/
def State.compareSeals (s : State) (own par : SealRec) : State :=
  let s1 := s.incWrap Reg.sealCmp
  let s2 := { s1 with link := { s1.link with missRun := SMap.erase s1.link.missRun own.task } }
  let diff := bit (own.state != par.state) 0 + bit (own.output != par.output) 1 + bit (own.store != par.store) 2
  let s3 := s2.noteVerdict own.task own.at_ (diff == 0)
  if diff = 0 then { s3 with link := { s3.link with disagreed := s3.link.disagreed.filter (· != own.task) } }
  else s3.sealDisagree own.task own.core own.at_ diff (own.args ++ par.args)

def SealRec.same (a b : SealRec) : Bool := a.task == b.task && a.core == b.core && a.at_ == b.at_

/-- A record of this module's own, or of the partner, is compared when both are held (R247). -/
def State.holdSeal (s : State) (own : Bool) (r : SealRec) : State :=
  let other := if own then s.link.pSeals else s.link.seals
  match other.find? r.same with
  | some q =>
    let rest := other.filter fun x => !r.same x
    let s1 := { s with link := if own then { s.link with pSeals := rest } else { s.link with seals := rest } }
    if own then s1.compareSeals r q else s1.compareSeals q r
  | none =>
    { s with link := if own then { s.link with seals := s.link.seals ++ [r] } else { s.link with pSeals := s.link.pSeals ++ [r] } }

/-- The frame of a seal record (R234). -/
def State.sendSeal (s : State) (r : SealRec) : State :=
  s.sendFrame ftSeal 0 false
    [wBits (r.task + bit r.core 5), wTime r.at_, ⟨r.state, 0xC4#8⟩, ⟨r.output, 0xC4#8⟩, ⟨r.store, 0xC4#8⟩]

/-- A cycle's own record in STANDBY and PRIMARY (R246). -/
def State.ownSeal (s : State) (r : SealRec) : State :=
  if s.mode = mStandby ∨ s.mode = mPrimary then (s.sendSeal r).holdSeal true r else s

/-- When the record of a task and instant is missing (R247). -/
def State.sealDeadline (s : State) (r : SealRec) : Int :=
  if r.task < 16 then r.at_ + s.periodNs r.task else r.at_ + s.minInterval r.task + 1000000

/-- Fewer than two lanes were up at an instant from `t` on. -/
def State.oneLaneSince (s : State) (t : Int) : Bool :=
  !s.bothLanes || (match s.link.oneLaneEnd with | some e => decide (t ≤ e) | none => false)

/-- A missing record (R236, R247): counted; three in a row are a disagreement unless each fell while one lane was up. -/
def State.sealMissing (s : State) (r : SealRec) : State :=
  let gone (l : List SealRec) : List SealRec := l.filter fun x => !r.same x
  let s0 := { s with link := { s.link with seals := gone s.link.seals, pSeals := gone s.link.pSeals } }
  let s1 := (s0.incSat Reg.sealMiss).noteVerdict r.task r.at_ false
  let old := SMap.get (0, true) s1.link.missRun r.task
  let run := (old.1 + 1, old.2 && s.oneLaneSince r.at_)
  let trip := decide (3 ≤ run.1) && !run.2
  let s2 := { s1 with link := { s1.link with
    missRun := if trip then SMap.erase s1.link.missRun r.task else SMap.set s1.link.missRun r.task run } }
  if trip then s2.sealDisagree r.task r.core r.at_ 8 r.args else s2

end Sys2Proof.Machine
end

