-- ==== Sys2Proof/Machine/CycleOps.lean ====
section
/-! DEFINITION. The phases of a task's cycle (R124 to R137, R158 to R164, R180 to R184): snapshot, end of cycle,
publication, sinks, late cycles, urgent stores, trial cycles. -/

namespace Sys2Proof.Machine

/-! Snapshot (R158, R244) -/

/-- An entry of a snapshot list (R158): point and destination. -/
def snapEntry (w : TW) : Nat × Nat := (w.val.toNat % 65536, w.val.toNat / 2 ^ 32 % 2 ^ 22)

/-- Snapshot list of a task as point and destination: the words that DRV.TSNAPn and its count name, or a trial task's
descriptor. -/
def State.snapList (s : State) (n : Nat) : List (Nat × Nat) :=
  if n < 32 then (s.words (s.get (Reg.tsnap n)) (s.get (Reg.tsnapc n))).map snapEntry
  else match s.trialDesc n with
    | some d => d.snap
    | none => []

/-- The snapshot engine reads the list through the check code; nothing where a word is uncorrectable (R107, R267). -/
def State.snapRead (s : State) (n : Nat) : Option (List (Nat × Nat)) × State :=
  if n < 32 then
    match s.eccReads (agDma mSnap) (s.get (Reg.tsnap n)) (s.get (Reg.tsnapc n)) with
    | (some l, t) => (some (l.map snapEntry), t)
    | (none, t) => (none, t)
  else (some (s.snapList n), s)

/-- Read the listed points, writing each to its destination where `write` says so; nothing where one of them is
uncorrectable. -/
def State.freeze (s : State) (write : Bool) : List (Nat × Nat) → Option (List TW) × State
  | [] => (some [], s)
  | (p, d) :: l =>
    match s.eccRead (agDma mSnap) p with
    | (none, t) => (none, t)
    | (some w, t) =>
      match State.freeze (if write then t.masterStore d w else t) write l with
      | (some ws, u) => (some (w :: ws), u)
      | (none, u) => (none, u)

/-- The snapshot of a task: its list read and its points frozen, in list order. -/
def State.takePoints (s : State) (write : Bool) (n : Nat) : Option (List TW) × State :=
  match s.snapRead n with
  | (none, t) => (none, t)
  | (some l, t) => t.freeze write l

/-- Payloads of a snapshot's frames (R244); the second word is the release as TREL gives it (R80). An empty list takes one
frame, which brings that word. DEDUCED (log 35, 35). -/
def snapParts (task : Nat) (trial : Bool) (w : TW) : Nat → Nat → List TW → List (List TW)
  | 0, _, _ => []
  | _, _, [] => []
  | fuel + 1, k, l =>
    (wBits (task + bit trial 5 + k * 2 ^ 16) :: w :: l.take 1021) :: snapParts task trial w fuel (k + 1021) (l.drop 1021)

def State.sendSnapshot (s : State) (n : Nat) (w : TW) (l : List TW) : State :=
  let parts := snapParts (n % 32) (decide (32 ≤ n)) w (l.length / 1021 + 1) 0 l
  if s.mode = mPrimary then
    s.sendSet ftSnapshot 0 (if parts.isEmpty then [[wBits (n % 32 + bit (decide (32 ≤ n)) 5), w]] else parts)
  else s

/-- The complete snapshot of a task is held: on the standby every index has arrived (R17); of an empty list the frame that
brings the release (R80). -/
def State.snapHeld (s : State) (n : Nat) : Bool :=
  let k := (s.snapList n).length
  s.mode != mStandby || (List.range (max 1 k)).all fun i => (s.task n).got.contains i

/-! Counting (R129 to R131) -/

/-- The skip limit of R131. -/
def State.checkSkip (s : State) (n : Nat) : State :=
  if s.get (Reg.tstConsec n) < s.get (Reg.tcfgSkiplim n) ∨ !s.inControl then s
  else if s.flag (Reg.tcfgSafety n) then s.skipTrip
  else if (s.task n).warned then s
  else (s.setTask n fun k => { k with warned := true }).event .skipLimit [n]

def State.consecUp (s : State) (n : Nat) : State := (s.incSat (Reg.tstConsec n)).checkSkip n

/-- DEDUCED (log 41). -/
def State.consecZero (s : State) (n : Nat) : State :=
  (s.set (Reg.tstConsec n) 0).setTask n fun k => { k with warned := false }

/-- A skipped release (R129). -/
def State.skipRelease (s : State) (n : Nat) : State :=
  (((s.incSat (Reg.tskip n)).incSat Reg.ovrSkip).event .releaseSkipped [n]).consecUp n

/-- A late cycle, counted once (R128). -/
def State.countLate (s : State) (n : Nat) : State :=
  if (s.task n).late then s
  else
    ((((s.incSat (Reg.tlate n)).incSat Reg.ovrLate).event .lateCycle [n]).setTask n fun k => { k with late := true }).set
      (Reg.tstState n) tsLate

/-! Sinks (R136, R163, R245) -/

/-- A command to an AO channel: the current, whether it is the safe current (R394), and the tag of the published word
(R245). -/
structure AoCmd where
  ch : Nat
  c : Int
  safe : Bool
  tag : BitVec 8
  deriving DecidableEq, Repr

/-- A word that R163 excludes from an AO sink. -/
def aoExcluded (w : TW) : Bool := w.ty != tyFloat || w.q == qBad

/-- An AO sink's command (R163, R386): the current, unless the word leaves it unchanged, and the event of a change into
the excluded condition. -/
def State.aoSink (s : State) (b : Binding) (w : TW) : Option Int × State :=
  if aoExcluded w then
    let s1 := if (s.ao b.ch).badAct then s else (s.setAo b.ch fun a => { a with badAct := true }).event .aoBadWord [b.ch]
    (if b.badact then some (s.get (Reg.aoSafe b.ch)) else none, s1.showAo b.ch)
  else
    let c := s.aoConvert b.ch w
    let s1 := { s with free := s.free + 1 }
    (some c.1, (s1.setAo b.ch fun a => { a with badAct := false, clamped := c.2 }).showAo b.ch)

/-- The word that a publication writes to a point: Limit set where the AO limits clamped it (R386), and at most UNCERTAIN
while the channel is in compliance limit (R393). -/
def State.pubPoint (s : State) (p : Nat) (w : TW) : TW :=
  let sinks := s.bindings.filter fun b => b.kind == bkAo && b.point == p && decide (b.ch < 8)
  let cl := sinks.any fun b => !aoExcluded w && (s.aoConvert b.ch w).2
  let v := if cl then ⟨w.val, mkTag w.q w.forced true w.ty⟩ else w
  if sinks.any fun b => (s.ao b.ch).limit then limitWord v else v

/-- AOCMD (R245), also of a cycle that this module released as primary before a swap (R143). -/
def State.sendAocmd (s : State) (t : Int) (l : List (Nat × Int × BitVec 8)) : State :=
  if s.mode = mPrimary ∨ s.mode = mStandby then s.aocmdFrame t l else s

/-- The AO bindings of output words, with the word that the sink takes. -/
def State.aoOuts (s : State) (outs : List (Nat × TW)) (rel : Int) : List (Binding × TW) :=
  outs.flatMap fun o =>
    if s.urgentHeld o.1 rel then []
    else (s.bindings.filter fun b => b.kind == bkAo && b.point == o.1 && decide (b.ch < 8)).map fun b => (b, s.sinkWord o.1 o.2)

/-- The commands of a list of sinks, each sink's condition noted. -/
def State.aoCmds (s : State) : List (Binding × TW) → List AoCmd × State
  | [] => ([], s)
  | e :: l =>
    let r := s.aoSink e.1 e.2
    let x := State.aoCmds r.2 l
    match r.1 with
    | some c => (⟨e.1.ch, c, aoExcluded e.2, (s.pubPoint e.1.point e.2).tag⟩ :: x.1, x.2)
    | none => x

/-- The AOCMD frame of commands. -/
def State.sendCmds (s : State) (t : Int) (l : List AoCmd) : State := s.sendAocmd t (l.map fun x => (x.ch, x.c, x.tag))

/-- Destinations of the output tokens, by block (R207). DEDUCED (log 126). -/
def destCan (ch obj : Nat) : Nat := 1 * 2 ^ 24 + ch * 2 ^ 16 + obj * 2 ^ 8
def destPeer (k port part : Nat) : Nat := 2 * 2 ^ 24 + port * 2 ^ 23 + k * 2 ^ 11 + part * 2 ^ 8
def destAo (ch : Nat) : Nat := 3 * 2 ^ 24 + ch
def destSeal (task : Nat) : Nat := 4 * 2 ^ 24 + task * 4

/-- The AO commands of a cycle wait for its output instant (R126, R245), each after its token; the frame goes out once all
are accepted. -/
def State.aoHand (s : State) (u : Nat) (outs : List (Nat × TW)) (rel out : Int) : Bool × State :=
  let x := s.aoCmds (s.aoOuts outs rel)
  thenDo (x.2.handOut u (fun c => outTokens (destAo c.ch) [BitVec.ofInt 72 c.c]) (fun c t => t.aoPend c.ch c.c c.safe) x.1) fun t =>
    (true, t.sendCmds out x.1)

/-- The data field of a transmit object from the words of its CAN_TX bindings (R163, R376), and the unencodable words. -/
def State.canField (s : State) (bs : List Binding) (outs : List (Nat × TW)) : Nat × Nat :=
  bs.foldl (fun acc b =>
    match outs.find? fun o => o.1 == b.point with
    | some o =>
      (match canEncode b (s.sinkWord o.1 o.2) with
       | some v => (acc.1 ||| canPlace b v, acc.2)
       | none => (acc.1, acc.2 + 1))
    | none => acc) (0, 0)

/-- A frame of a transmit object: data field and unencodable words. -/
structure CanOut where
  ch : Nat
  obj : Nat
  data : Bytes
  bad : Nat
  deriving DecidableEq, Repr

/-- The frames of the transmit objects whose bindings belong to the cycle's output points (R376); an object with a point that
an urgent task holds is left (R136). DEDUCED (log 43). -/
def State.canOuts (s : State) (outs : List (Nat × TW)) (rel : Int) : List CanOut :=
  let bs := s.bindings.filter fun b => b.kind == bkCanTx && outs.any (fun o => o.1 == b.point)
  let objs := ((bs.map fun b => (b.ch, b.sel)).eraseDups).filter fun o =>
    !(bs.any fun b => b.ch == o.1 && b.sel == o.2 && s.urgentHeld b.point rel)
  objs.map fun o =>
    let v := s.canField (bs.filter fun b => b.ch == o.1 && b.sel == o.2) outs
    ⟨o.1, o.2, leBytes 64 v.1, v.2⟩

/-- A frame is queued (R376): the CAN DMA fetches its record as master 15 through its window (R408, R414). -/
def State.queueFrame (s : State) (launch : Int) (o : CanOut) : State :=
  ({ s with pimg := { s.pimg with unencodable := s.pimg.unencodable + o.bad } }).stubPost o.ch
    { obj := o.obj, action := 1, launch := launch, data := o.data }

def CanOut.tokens (o : CanOut) : List Token := outTokens (destCan o.ch o.obj) (byteLanes o.data)

/-- The frames of a cycle's publications: publication, port and part, with its bytes (R317 to R319). -/
def State.peerTokens (s : State) (rel : Int) (outs : List (Nat × TW)) (e : Nat × Nat × Nat) : List Token :=
  outTokens (destPeer e.1 e.2.2 e.2.1) (byteLanes (s.pubPart e.1 e.2.1 rel outs))

/-- The frames of a cycle are queued with a launch time, each after its tokens (R126, R208). -/
def State.queueFrames (s : State) (u n : Nat) (outs : List (Nat × TW)) (rel launch : Int) : Bool × State :=
  thenDo (s.handOut u CanOut.tokens (fun o t => t.queueFrame launch o) (s.canOuts outs rel)) fun t =>
    t.handOut u (s.peerTokens rel outs) (fun e v => v.publishPeer rel launch outs e) (s.peerOuts n rel)

/-- The tokens of a late cycle's frames, which are queued when an output instant comes (R128). -/
def State.offerFrames (s : State) (u n : Nat) (outs : List (Nat × TW)) (rel : Int) : Bool × State :=
  thenDo (s.handOut u CanOut.tokens (fun _ t => t) (s.canOuts outs rel)) fun t =>
    t.handOut u (s.peerTokens rel outs) (fun _ v => v) (s.peerOuts n rel)

/-- A late cycle's frames are queued: their tokens have been accepted at its end. -/
def State.queueLate (s : State) (n : Nat) (outs : List (Nat × TW)) (rel launch : Int) : State :=
  (s.each (s.canOuts outs rel) fun o t => t.queueFrame launch o).each (s.peerOuts n rel) fun e t => t.publishPeer rel launch outs e

/-- The copy of a cycle's output words to their points (R162). DEDUCED (log 40). -/
def State.publish (s : State) (outs : List (Nat × TW)) (rel : Int) (own : Bool) : State :=
  s.each outs fun o t =>
    if t.urgentHeld o.1 rel then t
    else t.portWrite 1 o.1 (if own then t.pubPoint o.1 (t.sinkWord o.1 o.2) else o.2)

/-- Channels whose AO sink the task's points drive. -/
def State.aoOf (s : State) (n : Nat) : List Nat :=
  (List.range 8).filter fun ch => match s.aoPoint ch with
    | some p => (match s.writerOf p with | some b => b.sel == n | none => false)
    | none => false

/-- A late cycle's commands that still wait are marked when the task's next cycle starts: they go with its discarded outputs
(R128). DEDUCED (log 42). -/
def State.markLate (s : State) (n : Nat) : State :=
  if (s.task n).lateOuts.isNone then s
  else s.each ((s.aoOf n).filter fun ch => s.flag (Reg.aopValid ch)) fun ch t => t.setAo ch fun a => { a with pendLate := true }

/-- The commands of a discarded late cycle are discarded with it (R128). -/
def State.dropLate (s : State) (n : Nat) : State :=
  s.each ((s.aoOf n).filter fun ch => (s.ao ch).pendLate) fun ch t =>
    (t.set (Reg.aopValid ch) 0).setAo ch fun a => { a with pendLate := false }

/-- At the output instant the channels take their commands (R127); a standby without one suspends its guard (R391). -/
def State.aoAtOutput (s : State) (n : Nat) : State :=
  s.each (s.aoOf n) fun ch t => if t.flag (Reg.aopValid ch) then t.aoTakePend ch else t.aoSuspend ch

/-! Urgent stores (R164, R136) -/

/-- What an urgent task does to its sinks past a Weir or exchange instant goes by the signal table it began under
(R146). DEDUCED (log 42). -/
def State.underOld (s : State) (n : Nat) (f : State → State) : State :=
  match (s.task n).old with
  | none => f s
  | some o =>
    let t := f { s with pimg := { s.pimg with signals := o.2 } }
    { t with pimg := { t.pimg with signals := s.pimg.signals } }

/-- A store of an urgent task to an output word: to the point, and to AO sinks at once; commands and queued frames of
cyclic tasks for the point are withdrawn (R136), on the standby its channels' commands too. DEDUCED (log 43). -/
def State.publishStore (s : State) (n a : Nat) (w : TW) : State :=
  s.each ((s.outList n).filter fun e => e.2 == a) fun e t =>
    let p := e.1
    let own := t.inControl
    let t1 := t.portWrite 1 p (if own then t.pubPoint p (t.sinkWord p w) else w)
    let t2 := { t1 with drv := { t1.drv with urgent := SMap.set t1.drv.urgent p none } }
    let sinks := t2.bindings.filter fun b => b.kind == bkAo && b.point == p && decide (b.ch < 8)
    let t2 := t2.each sinks fun b u => u.set (Reg.aopValid b.ch) 0
    if !own then t2
    else
      let bs := t2.bindings.filter fun b => b.kind == bkCanTx && b.point == p
      let t3 := (t2.each bs fun b u => u.stubPost b.ch { obj := b.sel, action := 2, launch := 0, data := [] }).withdrawPeers p
      let x := t3.aoCmds (sinks.map fun b => (b, t3.sinkWord p w))
      (x.2.each x.1 fun c u => u.setC c.ch c.c c.safe).sendCmds 0 x.1

/-- The next accepted store of an urgent task that has not been published. -/
def State.publishNext (s : State) (n : Nat) : State :=
  match ((s.task n).stores.drop (s.task n).published).head? with
  | some (a, w) => (s.setTask n fun k => { k with published := k.published + 1 }).underOld n fun t => t.publishStore n a w
  | none => s

/-- Every accepted store is published before the task ends (R137). -/
def State.publishRest (s : State) (n : Nat) : State :=
  s.each (List.range ((s.task n).stores.length - (s.task n).published)) fun _ t => t.publishNext n

/-! Seals (R212 to R214, R246) -/

/-- A seal engine's seal of its core (R212, R213): the register file and the scratch area from the core's SCRATCH, each
read through the check code, the scratch words as loads of the pair; nothing where a word is uncorrectable.
DESIGN CHOICE (log 9). -/
def State.engineSeal (s : State) (n u : Nat) (b : Bool) : Option Word × State :=
  match s.fileAll u b with
  | (false, t) => (none, t)
  | (true, t) =>
    let base := (t.core u b).scratch.toNat
    match t.eccReads (agLoad u) base (t.taskEntry n (Reg.tscrl n) (·.scrLen)) with
    | (none, v) => (none, v)
    | (some ws, v) =>
      (some (stateSeal (n % 32) ((v.task n).rel.getD 0) (v.core u b) (ws.zipIdx.map fun e => (base + e.2, e.1))), v)

/-- The state seal of the ending cycle, once the stagger has drained: accepted by the comparator, or a fault's state. -/
def State.cycleSeal (s : State) (n : Nat) : Option Word × State :=
  let u := s.place n / 2
  let b := s.place n % 2 == 1
  match s.drainPair u with
  | (false, t) => (none, t)
  | (true, t0) =>
    match t0.engineSeal n u b with
    | (none, t) => (none, t)
    | (some a, t) =>
      if t.isSplit u then (some a, t.acceptSeal u b a)
      else
        match t.engineSeal n u true with
        | (none, v) => (none, v)
        | (some c, v) =>
          match v.compare u [(⟨7, [a.zeroExtend 72], 0⟩, ⟨7, [c.zeroExtend 72], 0⟩)] with
          | (none, x) => (some a, x.acceptSeal u false a)
          | (some d, x) => (none, x.mismatch u (v.pair u).lastIaddr (v.pair u).lastPriv d)

/-! Output words -/

/-- A task's output words as they stand in its output list, loaded by the stub of its place. -/
def State.readOuts (s : State) (p : Nat) : List (Nat × Nat) → Option (List (Nat × TW)) × State
  | [] => (some [], s)
  | (q, a) :: l =>
    match s.stubLoad p a with
    | (none, t) => (none, t)
    | (some w, t) =>
      match State.readOuts t p l with
      | (some ws, v) => (some ((q, w) :: ws), v)
      | (none, v) => (none, v)

/-! Trial cycles (R180 to R184) -/

/-- Classes of a difference (R183). -/
def diffClasses (a t : TW) : Nat :=
  bit (a.val != t.val) 0 + bit (a.q != t.q) 1 + bit (a.limit != t.limit || a.forced != t.forced) 2 + bit (a.ty != t.ty) 3

/-- Registers that show the report. DEDUCED (log 54). -/
def State.showReport (s : State) : State :=
  (s.set Reg.repEntries s.xch.report.length).setFlag Reg.repOvf (!s.xch.overPoints.isEmpty)

/-- A differing point of a compared cycle: its entry is made or updated, once for a release, or it is counted beyond the
report (R183). DEDUCED (log 54). -/
def State.reportDiff (s : State) (p cls : Nat) (rel : Int) (a t : TW) : State :=
  if s.xch.report.any fun e => e.point == p && decide (0 < e.cycles) then
    let more (e : RepEntry) : RepEntry :=
      if e.point = p ∧ e.last ≠ rel then { e with classes := e.classes ||| cls, cycles := min (e.cycles + 1) 0xFFFFFFFF, last := rel }
      else e
    { s with xch := { s.xch with report := s.xch.report.map more } }
  else if s.xch.report.length < 4096 then
    let e : RepEntry := ⟨p, cls, 1, rel, a, t, rel⟩
    let s1 := { s with xch := { s.xch with report := s.xch.report ++ [e] } }
    (s1.set Reg.xchDiff (s.get Reg.xchDiff + 1)).showReport
  else if s.xch.overPoints.contains p then s
  else
    (({ s with xch := { s.xch with overPoints := p :: s.xch.overPoints } }).set Reg.xchDiff (s.get Reg.xchDiff + 1)).showReport

/-- Output words of the cycles of a release that have ended, of the active tasks named (R183). -/
def State.endedOuts (s : State) (tasks : List Nat) (rel : Int) : List (Nat × TW) :=
  tasks.flatMap fun n => match (s.task n).past.find? fun e => e.1 == rel with | some e => e.2 | none => []

/-- The active image's word of a point in the cycle of a release. -/
def State.activeOut (s : State) (p : Nat) (rel : Int) : Option TW :=
  ((s.endedOuts (cyclicTasks ++ urgentTasks) rel).find? fun o => o.1 == p).map (·.2)

/-- A cycle of an active task released at `rel` is still under way. -/
def State.runsRelease (s : State) (rel : Int) : Bool :=
  (cyclicTasks ++ urgentTasks).any fun n => s.openCycle n && (s.task n).rel == some rel

/-- Every point that the new or the old image binds to the task is compared; a point of an old task that has no trial
counterpart is reported as OLD_ONLY at the compared cycles of its own release (R183). DEDUCED (log 54). -/
def State.compareTrial (s : State) (n : Nat) (rel : Int) (outs : List (Nat × TW)) : State :=
  let olds (p : Nat) : Bool := match s.activeImg with | some m => m.tasks.any fun d => d.outs.any fun o => o.1 == p | none => false
  let news (p : Nat) : Bool := match s.imgOf s.idleSlot with | some m => m.tasks.any fun d => d.outs.any fun o => o.1 == p | none => false
  let s1 := s.each outs fun o t =>
    if !olds o.1 then t.reportDiff o.1 0x10 rel ⟨0#64, 0#8⟩ o.2
    else match t.activeOut o.1 rel with
      | some a => if a = o.2 then t else t.reportDiff o.1 (diffClasses a o.2) rel a o.2
      | none => t
  let alone (k : Nat) : Bool := k == n || (SMap.find s.xch.trial k).isNone
  let gone := s.endedOuts ((List.range 24).filter alone) rel
  s1.each (gone.filter fun o => !news o.1) fun o t => t.reportDiff o.1 0x20 rel o.2 ⟨0#64, 0#8⟩

/-- The run completes when every trial task has its compared cycles (R184): the report goes to the primary. It is judged at the
end of a trial cycle, so that a run without a trial task never completes. DESIGN CHOICE (log 137). -/
def State.trialDone (s : State) : State :=
  let least := s.xch.trial.foldl (fun m e => min m e.2.1) 65535
  let s1 := s.set Reg.trialDone least
  if s1.get Reg.xchState = 5 ∧ s1.get Reg.trialCycles ≤ least then
    let s2 := (s1.set Reg.repSeq (s1.get Reg.repSeq + 1)).setXch 6 0
    let s3 := { s2 with
      xch := { s2.xch with ran := true, void := s2.xch.trialGen != s2.generation },
      drv := { s2.drv with tasks := SMap.eraseRange s2.drv.tasks 32 56 } }
    (s3.event .trialEnded [1, s3.get Reg.repSeq, s3.get Reg.xchDiff]).sendObject 4
      (Config.encReport (s3.get Reg.repSeq) (s3.get Reg.xchDiff) (s3.xch.report.map reportEntry))
  else s1

/-- A cycle of a trial task stays uncompared (R184). -/
def State.trialMiss (s : State) (m : Nat) : State :=
  let cnt := SMap.get (0, 0) s.xch.trial m
  let s1 := { s with xch := { s.xch with trial := SMap.set s.xch.trial m (cnt.1, cnt.2 + 1) } }
  if cnt.2 + 1 < 255 then s1 else s1.endTrial

/-- Whether the seals of the active cycle of a release agreed, once that is known (R183); with no such task nothing can
differ. DEDUCED (log 54). -/
def State.sealVerdict (s : State) (m : Nat) (rel : Int) : Option Bool :=
  if !s.enabled m ∨ (s.task m).agreed = some rel then some true
  else if (s.task m).judged = some rel then some false
  else none

/-- A trial cycle that waits is compared once the seals of its release have agreed and every active cycle of that release has
ended; where they disagree it stays uncompared (R183). DEDUCED (log 54). -/
def State.judgeTrial (s : State) (n : Nat) : State :=
  let m := n - 32
  match (s.task n).await with
  | some (rel, outs, some true) =>
    if s.runsRelease rel then s
    else
      let cnt := SMap.get (0, 0) s.xch.trial m
      let s1 := s.setTask n fun k => { k with await := none }
      (({ s1 with xch := { s1.xch with trial := SMap.set s1.xch.trial m (cnt.1 + 1, 0) } }).compareTrial m rel outs).trialDone
  | some (_, _, some false) => (s.setTask n fun k => { k with await := none }).trialMiss m
  | _ => s

/-- The trial cycles that wait. -/
def State.judgeTrials (s : State) : State :=
  if s.get Reg.xchState = 5 then s.each ((List.range 24).map (· + 32)) fun n t => t.judgeTrial n else s

/-- A trial cycle ends (R183, R184): on time it waits for its comparison, else it stays uncompared, as an earlier one that
still waits does. DEDUCED (log 54). -/
def State.endTrialCycle (s : State) (n : Nat) (outs : List (Nat × TW)) (trapped : Bool) : State :=
  let m := n - 32
  let rel := (s.task n).rel.getD 0
  let onTime := decide (16 ≤ m) || decide (s.now < s.outputOf m rel)
  let s0 := if (s.task n).await.isSome then (s.setTask n fun k => { k with await := none }).trialMiss m else s
  if !trapped && onTime then (s0.setTask n fun k => { k with await := some (rel, outs, s0.sealVerdict m rel) }).judgeTrial n
  else s0.trialMiss m

/-- A trial urgent task's trigger: the record of its active counterpart, when that has ended (R182). -/
def State.trialUrgent (s : State) (n : Nat) : State :=
  if s.get Reg.xchState = 5 ∧ s.mode = mStandby ∧ s.isTrial (n + 32) = true ∧ !s.openCycle (n + 32) then
    let k := s.task n
    (s.stores (s.scrOf (n + 32)) k.trigger).setTask (n + 32) fun x =>
      { x with rel := k.rel, relWord := k.relWord, trigger := k.trigger, ended := false, noPublish := false, startAt := none,
               ready := true, stores := [] }
  else s

/-! Start of logic, and what a pair does when a task leaves it (R121, R124) -/

/-- Tasks that have cycles with a snapshot, or run as trial tasks. -/
def cycleTasks : List Nat := cyclicTasks ++ (List.range 24).map (· + 32)

/-- The task that starts next on a place, of those whose snapshot is complete (R121); none while the KEEP copy for the place is
owed (R189). -/
def State.nextWaiting (s : State) (p : Nat) : Option Nat :=
  if s.xch.keep.contains p then none
  else
    (cycleTasks.filter fun n => s.waits n && s.place n == p).foldl (fun b n => match b with
      | none => some n
      | some m => if s.before n m then some n else b) none

/-- A task that waits runs now: it is the first of those that wait, and its place is free or runs a task after it. -/
def State.mayStart (s : State) (n : Nat) : Bool :=
  s.nextWaiting (s.place n) == some n && (match s.runningAt (s.place n) with | some m => s.before n m | none => true)

/-- Logic starts, after the check-list entries of received data (R124, R433). -/
def State.startLogic (s : State) (n : Nat) : State :=
  if s.mayStart n then
    match s.preempt (s.place n) with
    | (false, t) => t
    | (true, t) => ((t.markLate n).dispatch n).checkReceived n
  else s

/-- A task leaves its place (R121): the first of the tasks that wait starts if it comes before the task preempted last,
else that one resumes; with neither, the cores stand in privileged mode. After a trial cycle STATUS.SLOT names the active
slot again (R171). -/
def State.leavePlace (s : State) (p : Nat) : State :=
  let trial := match s.runningAt p with | some n => decide (32 ≤ n) | none => false
  let s0 := if trial then s.onPlace p fun c => { c with slot := s.activeSlot == 1 } else s
  let s1 := { s0 with drv := { s0.drv with running := SMap.erase s0.drv.running p } }
  let go (t : State) : State := match t.nextWaiting p with | some n => t.startLogic n | none => t
  match SMap.get [] s1.drv.stack p with
  | [] => go (s1.onPlace p fun c => { c with priv := true })
  | sv :: rest =>
    match s1.nextWaiting p with
    | some n => if s1.before n sv.task then s1.startLogic n else s1.resume p sv rest
    | none => s1.resume p sv rest

/-! End of cycle (R126) -/

/-- The pair has nothing to run, and nothing waits for it: the wait instruction (R126, R139). -/
def State.idlePair (s : State) (u : Nat) : State :=
  if 12 ≤ u ∨ (s.placesOf u).any (fun p => (s.runningAt p).isSome || (s.nextWaiting p).isSome) = true then s
  else s.set (Reg.sleepState u) (if s.get (Reg.sleepMode u) = 1 then slWaitDoze else slWait)

/-- Time of the cycle's logic with its end-of-cycle work (R148). -/
def State.timeLogic (s : State) (n : Nat) : State :=
  let k := s.task n
  let ns := match k.startAt with | some t => (s.now - t - k.awayNs).toNat | none => 0
  let v := min ns 0xFFFFFFFF
  (s.set (Reg.tlast n) v).set (Reg.tmax n) (max v (s.get (Reg.tmax n)))

/-- A cyclic cycle's outputs after its seal (R126 to R128), each token withheld on a difference (R208).
DEDUCED (log 42). -/
def State.handOver (s : State) (n : Nat) (outs : List (Nat × TW)) : Bool × State :=
  let k := s.task n
  let u := s.place n / 2
  let rel := k.rel.getD 0
  let out := s.outputOf n rel
  if s.now < out then
    let s1 := (s.consecZero n).set (Reg.tstState n) tsEnded
    if k.own then thenDo (s1.queueFrames u n outs rel out) fun t => t.aoHand u outs rel out else (true, s1)
  else
    let next := s.releaseAtOrBefore n (s.now - s.offsetNs n) + s.periodNs n + s.offsetNs n
    let s1 := (s.countLate n).setTask n fun x => { x with lateOuts := some (rel, outs), lateOwn := k.own }
    let s2 := s1.set (Reg.tstState n) tsLate
    if k.own then thenDo (s2.offerFrames u n outs rel) fun t => t.aoHand u outs rel next else (true, s2)

/-- Another urgent task that still runs has published a store to a point (R136). -/
def State.heldByOther (s : State) (n p : Nat) : Bool :=
  urgentTasks.any fun m => m != n && (s.get Reg.drvUrun).testBit (m - 16) &&
    ((s.task m).stores.take (s.task m).published).any fun st => (s.outList m).contains (p, st.1)

/-- An urgent activation ends (R134, R136, R137). DEDUCED (log 41). -/
def State.endUrgent (s : State) (n : Nat) (trapped : Bool) : State :=
  let mine := (s.outList n).map (·.1)
  let kept := s.xch.keep.contains (s.place n)
  let s1 := s.publishRest n
  let done (e : Nat × Option Int) : Nat × Option Int := if e.2.isNone && mine.contains e.1 && !s1.heldByOther n e.1 then (e.1, some s.now) else e
  let s2 := { s1 with drv := { s1.drv with urgent := s1.drv.urgent.map done } }
  let s3 := (s2.urgentBit Reg.drvUrun n false).set (Reg.tstState n) (if (s.task n).pend.isSome then tsUrgentPending else tsIdle)
  let s4 := if kept then { s3 with xch := { s3.xch with keepStores := s3.xch.keepStores ++ (s.task n).stores } } else s3
  let s5 := if trapped then s4.consecUp n else s4.consecZero n
  (s5.trialUrgent n).takeNew n

/-- What the end of a cycle does besides its seals: of an urgent task, of a cycle that a trap ended, or of one that hands over
its outputs. -/
def State.cycleWork (s : State) (n : Nat) (outs : List (Nat × TW)) (trapped : Bool) : Bool × State :=
  if 16 ≤ n then (true, s.endUrgent n trapped)
  else if trapped then
    (true, (s.set (Reg.tstState n) (if s.now < s.outputOf n ((s.task n).rel.getD 0) then tsEnded else tsIdle)).consecUp n)
  else s.handOver n outs

/-- The seal hand-off (R207, R246): an output token of the stub. DEDUCED (log 126). -/
def State.handSeal (s : State) (u : Nat) (r : SealRec) : Bool × State :=
  if s.mode = mStandby ∨ s.mode = mPrimary then
    thenDo (s.accept u (outTokens (destSeal r.task) [r.state.zeroExtend 72, r.output.zeroExtend 72, r.store.zeroExtend 72])) fun t =>
      (true, t.ownSeal r)
  else (true, s)

/-- The outputs of an active task's cycle that has ended are kept for the comparison with a trial cycle of the same release
(R183). -/
def TaskSt.endedWith (k : TaskSt) (outs : List (Nat × TW)) (trapped : Bool) : TaskSt :=
  { k with ended := true, outs := outs, noPublish := k.noPublish || trapped, past := ((k.rel.getD 0, outs) :: k.past).take 4 }

/-- The end of a cycle (R126, R212 to R214): seals, output words, hand-over, and the pair goes on. A cycle ended by a
trap publishes nothing (R84); one whose seal or output token differs goes no further (R214). -/
def State.endCycle (s : State) (n : Nat) (trapped : Bool) : State :=
  match s.cycleSeal n with
  | (none, t) => t
  | (some v, t) =>
    let p := s.place n
    let checks := match s.descOf n with | some d => d.checks | none => []
    let r0 := if trapped then (true, t) else t.checkList p checks true
    if !r0.1 then r0.2
    else
      match r0.2.readOuts p (s.outList n) with
      | (none, t1) => t1
      | (some outs, t1) =>
        let r :=
          if 32 ≤ n then (true, (t1.setTask n fun k => { k with ended := true, outs := outs }).endTrialCycle n outs trapped)
          else
            thenDo (((t1.timeLogic n).setTask n fun k => k.endedWith outs trapped).cycleWork n outs trapped) fun a =>
              a.handSeal (p / 2) ⟨n, s.coreOf n, (s.task n).rel.getD 0, v, outputSeal outs, storeSeal (t.task n).stores⟩
        if !r.1 then r.2
        else
          let t3 := r.2.judgeTrials
          if t3.runningAt p == some n then (t3.leavePlace p).idlePair (p / 2) else t3

end Sys2Proof.Machine
end

