-- ==== Sys2Proof/Machine/WeirOps.lean ====
section
/-! DEFINITION. The boundary search, the application at the Weir and at the exchange instant (R144 to R147, R186 to R190,
R299 to R303, R514). -/

namespace Sys2Proof.Machine

/-! Sessions that an event closes -/

/-- Armed ISOLATE_SOLO requests of sessions are disarmed, each with a record of the lapse (R52). DEDUCED (log 17). -/
def State.disarm (s : State) (f : Nat → Bool) : State :=
  let gone := s.md.arms.filter fun a => f a.1
  ({ s with md := { s.md with arms := s.md.arms.filter fun a => !f a.1 } }).each gone fun a t => t.event .isolateSoloLapsed [a.1]

/-- Sessions that meet a condition are closed, each with an event (R52, R325). -/
def State.closeSessions (s : State) (f : Session → Bool) : State :=
  let gone := s.net.sessions.filter f
  let s1 := { s with net := { s.net with sessions := s.net.sessions.filter fun x => !f x } }
  let s2 := match s1.net.transfer with
    | some t => if gone.any fun x => x.id == t.session then s1.dropTransfer else s1
    | none => s1
  (s2.disarm fun i => gone.any fun x => x.id == i).each gone fun x t => t.event .sessionClosed [x.id, x.client]

/-- Address object of a port for the module's position (R316). -/
def State.addrOf (s : State) (port : Nat) : Nat :=
  let p := s.get Reg.blwPos
  s.odNat 0x2500 (if port = 0 then 0x10 + p else if port = 1 then 0x14 + p else 0x18 + p)

/-- A gratuitous ARP request for the port's address. -/
def State.gratuitousArp (s : State) (port : Nat) : State :=
  let ip := be32 (s.addrOf port)
  let a := be16 1 ++ be16 0x0800 ++ [6#8, 4#8] ++ be16 1 ++ macOf port ++ ip ++ List.replicate 6 0#8 ++ ip
  let f := s.etherFrame port (List.replicate 6 0xFF#8) 0 0x0806 a
  if port < 2 then s.netPut port ⟨0, none, f, []⟩ else s.emit (.net port f)

/-! Search -/

/-- The next common boundary after `t` (R144, R299). DEDUCED (log 44). -/
def State.weirBoundary (s : State) (t : Int) : Int := if s.active then s.boundaryAfter t else gridCeil 125000 0 (t + 1)

/-- A boundary qualifies at B − 20 µs (R144). -/
def State.qualifies (s : State) : Bool :=
  (s.cyclicEnabled.all fun n => s.tstate n == tsIdle && (s.task n).lateOuts.isNone) && s.get Reg.drvUpend == 0 && s.get Reg.drvUrun == 0

/-- The boundary whose B − 20 µs TMB matches now. -/
def State.windowDue (s : State) : Option Int :=
  let b := s.weirBoundary (s.tmb.prev + 20000)
  if s.matches (b - 20000) then some b else none

/-- A search begins (R514): DRV.WEIRCTL written with ARM 1. -/
def State.weirArm (s : State) (kind : Nat) (earliest : Int) : State :=
  let s1 := ((s.setHalves Reg.weirAtl Reg.weirAth earliest).set Reg.weirArm 1).set Reg.weirKind kind
  let s2 := s1.weirTo 1
  { s2 with drv := { s2.drv with searchAt := some s.now, window := none, decision := none, urgentInW := false } }

/-- A write of DRV.WEIRCTL. -/
def State.weirWrite (s : State) (w : Nat) : State :=
  let s1 := s.set Reg.weirHorizon (w / 256)
  if w.testBit 0 then s1.weirArm (w / 2 % 2) (s.getHalves Reg.weirAtl Reg.weirAth)
  else (s1.weirWithdraw).set Reg.weirKind (w / 2)

def State.weirKindNow (s : State) : Nat := s.get Reg.weirKind

/-- What was prepared in W is discarded (R146, R187). -/
def State.weirUnprepare (s : State) : State :=
  let s1 := { s with drv := { s.drv with window := none, decision := none, urgentInW := false } }
  if s.weirKindNow = 0 then s1.setTarn fun t => { t with prepared := false }
  else
    match s.xch.exch with
    | some x =>
      let s2 := { s1 with xch := { s1.xch with exch := some { x with prepared := false, overload := false } } }
      if x.prepared then (s2.headerInvalid s.idleSlot).setXch 7 0 else s2
    | none => s1

/-- The dirty load of an exchange exceeded 700 at the window's boundary (R187). -/
def State.overLoad (s : State) : Bool :=
  s.weirKindNow == 1 && (match s.xch.exch with | some x => x.overload | none => false)

/-- CANCEL sent or received for the window's boundary (R146), also for a dirty load that exceeds 700 (R187). -/
def State.weirCancelled (s : State) : State :=
  let s1 := if s.overLoad then s.incSat Reg.xchDirtycan else s
  (s1.weirUnprepare.weirTo 4).incSat Reg.weirCancel

/-- The exchange in W (R187): the dirty load is judged, the dirty words are copied and the header is written. -/
def State.exchWindow (s : State) : State :=
  match s.xch.exch, s.imgOf s.idleSlot with
  | some x, some m =>
    if 700 < s.get Reg.xchDirtys + 40 * s.get Reg.xchDirtyr then
      { s with xch := { s.xch with exch := some { x with overload := true } } }
    else
      let s1 := ((s.each x.dirty fun a t => t.copyDirty a).setDirty []).headerCurrent s.idleSlot m
      let s2 := match s1.xch.exch with
        | some y => { s1 with xch := { s1.xch with exch := some { y with prepared := true } } }
        | none => s1
      s2.setXch 8 0
  | _, _ => s

/-- W opens at a boundary (R145, R300, R514). -/
def State.windowOpen (s : State) (b : Int) : State :=
  let s1 := (s.set Reg.weirState 2).setHalves Reg.weirBl Reg.weirBh b
  let s2 := { s1 with drv := { s1.drv with window := some b, urgentInW := false, decision := none } }
  if s.weirKindNow = 0 then s2.setTarn fun t => { t with prepared := decide (t.state = 3) } else s2.exchWindow

/-- The application has been prepared. -/
def State.weirPrepared (s : State) : Bool :=
  if s.weirKindNow = 0 then s.tarn.prepared else match s.xch.exch with | some x => x.prepared | none => false

/-- A decision for the window's boundary (R146, R147). -/
def State.weirDecide (s : State) (go : Bool) : State :=
  if go then { s with drv := { s.drv with decision := some true } } else s.weirCancelled

/-! Application -/

/-- The committed configuration takes effect (R301): register writes, tables, copies, directory, history, event. -/
def State.commitApply (s : State) (b : Int) (slotCode : Nat) : State :=
  let t := s.tarn
  let old := [0, 1, 2].map s.addrOf
  let s1 := (({ s with cfg := s.candidate }).each t.entries fun e u => u.applyObj e.index e.sub).each (List.range 24) fun n u =>
    u.applyTaskImage n
  let gen := (s.generation + 1) % 2 ^ 32
  let new := 1 - s.curCopy
  let s2 := (s1.stampCopy new gen b t.client t.entries.length).writeDir new slotCode gen
  let foreign := (t.entries.filter fun e => e.client != t.client).length
  let s3 := s2.setTarn fun _ =>
    { seq := t.seq, last := 1, lastB := b, lastClient := t.client, foreign := foreign, copy := new, valid := true, gen := gen,
      history := (⟨gen, b, t.client, t.entries.length⟩ :: t.history).take 64 }
  let s4 := { s3 with
    xch := { s3.xch with void := s3.xch.void || s3.xch.ran },
    link := { s3.link with phase2Dirty := s3.link.phase2Dirty || s3.link.sendPhase != 0 } }
  (s4.event .commitApplied [gen, t.client, t.entries.length, foreign]).each ((old.zipIdx).filter fun e => s4.addrOf e.2 != e.1)
    fun e u => (u.closeSessions fun x => x.port == e.2).gratuitousArp e.2

/-- Urgent tasks that run at B go on under the old configuration and image (R146, R189). DEDUCED (log 42). -/
def State.holdOld (s : State) : State :=
  s.each (urgentTasks.filter fun n => s.runningAt (s.place n) == some n) fun n t =>
    t.setTask n fun k => { k with old := some (s.outList n, s.pimg.signals) }

/-- The exchange instant (R188, R189): slot, task entries, snapshot lists, signal table, the companion set, and the
records. -/
def State.exchApply (s : State) (b : Int) : State :=
  match s.xch.exch with
  | none => s
  | some x =>
    let slot := s.idleSlot
    let map := s.exchMap
    let keep := (List.range 24).filter s.urgentAt
    let s0 := s.takeImage slot keep
    let s1 := match s0.activeImg with | some m => s0.writeLists m | none => s0
    let s2 := if x.companion ∧ s.tarn.state = 4 then s1.commitApply b (slot + 1) else s1
    let s3 := (((s2.bootSlotRecord slot).set Reg.xchRollbk 1).showFree).setXch 9 0
    let s4 := { s3 with xch := { s3.xch with
      exch := none, ran := false, keep := keep, keepStores := [], keepMap := map } }
    (((s4.set Reg.xchDirtys 0).set Reg.xchDirtyr 0 |>.event .exchangeApplied [slot, s.slotIdent slot]).sendManifest).each
      (map.filter fun e => e.log) fun e t => t.event .mapReport [e.decl]

/-- B on GO (R145, R514). -/
def State.weirApply (s : State) (b : Int) : State :=
  let s0 := if s.weirKindNow = 0 then s.holdOld.commitApply b 0 else s.holdOld.exchApply b
  let s1 := s0.noteUndefined s0.activeImg
  let s2 := (s1.weirTo 3).set Reg.weirArm 0
  { s2 with drv := { s2.drv with searchAt := none, window := none, decision := none, urgentInW := false } }

/-- No qualifying boundary within the horizon (R145, R302, R190). -/
def State.weirFail (s : State) : State :=
  let k := s.weirKindNow
  let s1 := (s.weirTo 5).set Reg.weirArm 0
  let s2 := { s1 with drv := { s1.drv with searchAt := none, window := none, decision := none } }
  if k = 0 then
    if s.tarn.state = 3 then
      ((s2.setTarn fun t => { t with state := 1, last := 3, passed := false, written := false, prepared := false }).spoilCopy
        (1 - s.curCopy)).event .commitResult [3, s.tarn.client]
    else s2
  else s2.endExchange 0x0B

end Sys2Proof.Machine
end

