-- ==== Sys2Proof/Machine/CallOps.lean ====
section
/-! DEFINITION. Who makes a request (R289, R323 to R327, R332), and the answer. -/

namespace Sys2Proof.Machine

/-- Status codes of R329. -/
def stOk : Nat := 0
def stNoObject : Nat := 1
def stReadOnly : Nat := 2
def stWriteOnly : Nat := 3
def stRole : Nat := 4
def stMode : Nat := 5
def stType : Nat := 6
def stRange : Nat := 7
def stTarnFull : Nat := 8
def stTarnBusy : Nat := 9
def stRefused : Nat := 10
def stBusy : Nat := 11
def stSequence : Nat := 12
def stProtocol : Nat := 13
def stAbandoned : Nat := 14

/-- Role and client identity of a session. -/
structure Caller where
  role : Nat
  client : Nat
  deriving DecidableEq, Repr

/-- The session with a number, if its role is fixed; number 0 is the implicit session of VOP-C (R332).
DESIGN CHOICE (log 77). DEDUCED (log 78). -/
def State.caller (s : State) (sess : Nat) : Option Caller :=
  if sess = 0 then
    let c := s.odNat 0x1120 1
    if c ≤ 15 ∧ s.inControl = true then some ⟨s.odNat 0x1120 4, 0xFFFFFFFFFFFFFF00 + c⟩ else none
  else
    match s.net.sessions.find? fun x => x.id == sess with
    | some x => (match x.role with | some r => some ⟨r, x.client⟩ | none => none)
    | none => none

/-- A life-cycle change in progress: in ISOLATED no command other than a read is taken (R477). -/
def State.lcsHolds (s : State) : Bool := s.flag Reg.lcsPend && s.mode == mIsolated

def State.setSession (s : State) (id : Nat) (f : Session → Session) : State :=
  { s with net := { s.net with sessions := s.net.sessions.map fun x => if x.id = id then f x else x } }

def State.session (s : State) (id : Nat) : Option Session := s.net.sessions.find? fun x => x.id == id

/-- Requests of a session that are outstanding (R327); session 0 is VOP-C. -/
def State.outstanding (s : State) (sess : Nat) : Nat :=
  if sess = 0 then s.net.vopcOut else match s.session sess with | some x => x.out | none => 0

/-- A request made as a command of its own: its effect and its status, and the session does not idle (R325). It meets the
limits of R327 with the load that the last request has shown; before SESSION_OPEN it is refused (R324). Without a session,
and in a mode in which VOP is off (R36), there is no request. DEDUCED (log 68, 76, 78). -/
def State.ask (s : State) (sess : Nat) (f : Caller → Nat × State) : State :=
  let answer (r : Nat × State) : State := (r.2.setSession sess fun y => { y with lastReq := s.now }).emit (.status sess r.1)
  if !s.runtime then s
  else if (s.caller sess).isNone ∧ (s.session sess).isNone = true then s
  else if 64 ≤ s.net.waiting then { s with net := { s.net with vopDropped := s.net.vopDropped + 1 } }
  else if 4 ≤ s.outstanding sess then answer (stBusy, s)
  else
    match s.caller sess with
    | none => answer (stProtocol, s)
    | some c => answer (f c)

/-- A request that a life-cycle change in progress refuses without a record (R477). DEDUCED (log 25). -/
def State.request (s : State) (sess : Nat) (f : Caller → Nat × State) : State :=
  s.ask sess fun c => if s.lcsHolds then (stRefused, s) else f c

end Sys2Proof.Machine
end

