-- ==== Sys2Proof/Machine/CfgCmds.lean ====
section
/-! DEFINITION. The commands of the configuration (R165 to R167, R291 to R309): forces, staging, commit, live fields. -/

namespace Sys2Proof.Machine

/-! Forces -/

/-- A point in the snapshot list of a safety-related task, or written by one (R165). -/
def State.safetyPoint (s : State) (p : Nat) : Bool :=
  match s.activeImg with
  | none => false
  | some m => m.tasks.any fun d => s.odNat (0x2110 + d.task) 5 != 0
      && (d.snap.any (fun e => e.1 == p) || d.outs.any (fun e => e.1 == p))

/-- The mode and the role of a force or removal on points (R165, R167): a refusal's status, 0 for none.
DEDUCED (log 49). -/
def State.forceGate (s : State) (c : Caller) (points : List Nat) : Nat :=
  let need := if points.any s.safetyPoint then rExpert else rEngineer
  if s.mode ≠ mIsolated ∧ s.mode ≠ mPrimary ∧ s.mode ≠ mSolo then stMode
  else if c.role < need then stRole
  else stOk

/-- A refusal of a point with its reason in `OD 2140h.09`. -/
def State.forceRefuse (s : State) (c : Caller) (p reason : Nat) : Nat × State :=
  (stRefused, { s with pimg := { s.pimg with refusal := reason } }.event .forceRefused [p, reason, c.client])

/-- An accepted change, sent with its instant by the module in control to a partner in STANDBY or SYNC (R166). -/
def State.forceAdd (s : State) (c : Caller) (p : Nat) (w : Option TW) : State :=
  let t := gridCeil 125000 0 (s.now + 1000000)
  let s1 := { s with pimg := { s.pimg with changes := s.pimg.changes ++ [(ForceChange.mk p w t c.client)] } }
  let s2 := if s.mode = mPrimary ∨ s.link.sendPhase ≠ 0 then s1.sendObject 3 (Config.encForce p w t c.client) else s1
  s2.event .forceAccepted [p, c.client]

/-- Points forced, or to be forced by an accepted request, which counts toward the 255 of R165 although it is not in effect
yet. DESIGN CHOICE (log 135). -/
def State.forcePoints (s : State) : List Nat :=
  ((s.pimg.forces.map fun e => e.1) ++ (s.pimg.changes.filter fun x => x.word.isSome).map fun x => x.point).eraseDups

/-- A force request (R165). DEDUCED (log 49). -/
def State.forceRequest (s : State) (c : Caller) (p : Nat) (b : Bytes) : Nat × State :=
  let g := s.forceGate c [p]
  if g ≠ stOk then (g, s)
  else if !OdTy.tagword.encodes b then (stType, s)
  else if 0xFF00 ≤ p then s.forceRefuse c p 1
  else if (s.writerOf p).isNone then s.forceRefuse c p 2
  else if 255 ≤ s.forcePoints.length ∧ !s.forcePoints.contains p then s.forceRefuse c p 3
  else
    let t := BitVec.ofNat 8 (leNat (b.drop 8))
    (stOk, s.forceAdd c p (some ⟨BitVec.ofNat 64 (leNat (b.take 8)), mkTag (tagQ t) true (tagL t) (tagT t)⟩))

/-- A removal (R167). DEDUCED (log 49). -/
def State.forceRemove (s : State) (c : Caller) (p : Nat) : Nat × State :=
  let g := s.forceGate c [p]
  if g ≠ stOk then (g, s)
  else if 0xFF00 ≤ p then s.forceRefuse c p 1
  else if (s.forceOf p).isNone then s.forceRefuse c p 4
  else (stOk, s.forceAdd c p none)

/-- A removal of every force (R167). -/
def State.forceRemoveAll (s : State) (c : Caller) : Nat × State :=
  let l := s.pimg.forces.map fun e => e.1
  let g := s.forceGate c l
  if g ≠ stOk then (g, s) else (stOk, s.each l fun p t => t.forceAdd c p none)

/-- FORCE_REQUEST (R165): the point and its 9 bytes. -/
def execForceRequest (sess : Nat) (p : BitVec 16) (b : Bytes) (s : State) : Result :=
  .next (s.request sess fun c => s.forceRequest c p.toNat b)

/-- REMOVE_FORCE (R167). -/
def execRemoveForce (sess : Nat) (p : BitVec 16) (s : State) : Result := .next (s.request sess fun c => s.forceRemove c p.toNat)

/-- REMOVE_ALL_FORCES (R167): a write of TRUE. -/
def execRemoveAllForces (sess : Nat) (s : State) : Result := .next (s.request sess fun c => s.forceRemoveAll c)

/-- One accepted change takes effect; while SYNC data is sent, phase 2 becomes dirty (R253). -/
def State.forceChange (s : State) (x : ForceChange) : State :=
  let s1 := { s with link := { s.link with phase2Dirty := s.link.phase2Dirty || s.link.sendPhase != 0 } }
  match x.word with
  | some w => s1.setForce x.point x.client w
  | none => s1.removeForce x.point x.client

/-- FORCE_APPLY (R166): the changes whose instant has come. -/
def execForceApply (s : State) : Result :=
  let due := s.pimg.changes.filter fun x => s.due x.at_
  .next (({ s with pimg := { s.pimg with changes := s.pimg.changes.filter fun x => !s.due x.at_ } }).each due fun x t =>
    t.forceChange x)

/-! Staging -/

/-- Modes in which an ST object is written (R290). -/
def State.stageMode (s : State) : Bool := s.mode == mIsolated || s.mode == mPrimary || s.mode == mSolo

/-- An accepted staging write (R292). DEDUCED (log 65). -/
def State.stage (s : State) (e : TarnEntry) : State :=
  s.setTarn fun t =>
    let l := if t.entries.any fun x => x.index == e.index && x.sub == e.sub
      then t.entries.map fun x => if x.index = e.index ∧ x.sub = e.sub then e else x
      else t.entries ++ [e]
    { t with state := 1, entries := l, seq := (t.seq + 1) % 2 ^ 32 }

/-- A write of an ST object (R287, R290, R293). -/
def State.stageWrite (s : State) (c : Caller) (r : OdRow) (i k : Nat) (b : Bytes) : Nat × State :=
  let old := s.tarn.entries.any fun x => x.index == i && x.sub == k
  if c.role < r.role then (stRole, s)
  else if !s.stageMode then (stMode, s)
  else if odForeign i k then (stRefused, s)
  else
    match r.refuses k b with
    | some e => (e, s)
    | none =>
      if 2 ≤ s.tarn.state then (stTarnBusy, s)
      else if !old ∧ 2048 ≤ s.tarn.entries.length then (stTarnFull, s)
      else (stOk, s.stage ⟨i, k, b, c.client, s.now⟩)

/-- A staging write by index and subindex. -/
def State.stageAt (s : State) (c : Caller) (i k : Nat) (b : Bytes) : Nat × State :=
  match odFind i k with
  | none => (stNoObject, s)
  | some r => if r.acc = .st then s.stageWrite c r i k b else (stReadOnly, s)

/-- STAGING_WRITE (R292). -/
def execStagingWrite (sess : Nat) (i : BitVec 16) (k : BitVec 8) (b : Bytes) (s : State) : Result :=
  .next (s.request sess fun c => s.stageAt c i.toNat k.toNat b)

/-! Commit -/

/-- A state of the Tarn that does not accept the request (R296). -/
def State.tarnRefusal (s : State) : Nat := if s.tarn.state = 0 then stRefused else stTarnBusy

/-- COMMIT (R36, R296, R297): the set goes into CHECKING, and in PRIMARY to the partner. A session without the role that the
set requires fails rule 0xFF02. DEDUCED (log 68). -/
def State.commit (s : State) (c : Caller) (companion : Bool) (seq : Nat) (earliest : Int) : Nat × State :=
  if s.tarn.state ≠ 1 then (s.tarnRefusal, s)
  else if c.role < rEngineer then (stRole, s)
  else if !s.stageMode then (stMode, s)
  else
    let s1 := s.setTarn fun t =>
      { t with state := 2, seq := (t.seq + 1) % 2 ^ 32, checkAt := some s.now, client := c.client, role := c.role,
               reqSeq := seq, companion := companion, earliest := earliest, fails := [], failCount := 0,
               passed := false, written := false, prepared := false, alone := false }
    let l := s.tarn.entries.map fun e => (e.index, e.sub, e.value)
    let who : List Int := s.tarn.entries.flatMap fun e => [(e.client : Int), e.at_]
    let s2 := if s.mode = mPrimary then
        s1.sendObject 2 (Config.encCommit l ([(c.client : Int), c.role, seq, if companion then 1 else 0, earliest] ++ who)) else s1
    (stOk, s2.event .commitRequested [c.client, l.length, if companion then 1 else 0])

/-- DISCARD (R296): in OPEN, in ARMED before W, in COMPANION. DEDUCED (log 64). -/
def State.discard (s : State) (c : Caller) : Nat × State :=
  let k := s.tarn.state
  if k = 0 ∨ k = 2 ∨ (k = 3 ∧ s.drv.window.isSome = true) then (s.tarnRefusal, s)
  else if c.role < s.setRole s.candidate then (stRole, s)
  else (stOk, (s.tarnDrop 5).setTarn fun t => { t with seq := (t.seq + 1) % 2 ^ 32 })

/-- A commit request as its 16 bytes. -/
def State.commitBytes (s : State) (c : Caller) (b : Bytes) : Nat × State :=
  let f (o n : Nat) : Nat := leNat ((b.drop o).take n)
  if b.length ≠ 16 then (stType, s)
  else if 1 < f 1 1 ∨ f 2 2 ≠ 0 then (stRange, s)
  else if f 0 1 = 1 then s.commit c (f 1 1 == 1) (f 4 4) (BitVec.ofNat 64 (f 8 8)).toInt
  else if f 0 1 = 2 then s.discard c
  else (stRange, s)

/-- COMMIT (R297). -/
def execCommit (sess : Nat) (companion : Bool) (seq : BitVec 32) (earliest : Int) (s : State) : Result :=
  .next (s.request sess fun c => s.commit c companion seq.toNat earliest)

/-- DISCARD (R296). -/
def execDiscard (sess : Nat) (s : State) : Result := .next (s.request sess fun c => s.discard c)

/-- CONSISTENCY_CHECK_END (R297): `partner` is the other module's result, if it has arrived. In PRIMARY and STANDBY both
must pass, in PRIMARY within 50 ms of acceptance. DEDUCED (log 68). -/
def execConsistencyCheckEnd (partner : Option Bool) (s : State) : Result :=
  .next (
    match s.tarn.checkAt with
    | none => s
    | some t0 =>
      if s.tarn.state ≠ 2 ∨ s.tarn.passed = true then s
      else
        let late := s.due (t0 + 50000000)
        let pair := s.mode == mPrimary || s.mode == mStandby
        if pair && partner.isNone && !late then s
        else
          let ok := partner == some true
          let seqOk := (s.tarn.reqSeq + 1) % 2 ^ 32 == s.tarn.seq
          let l := s.failingRules seqOk (s.mode != mPrimary || ok)
          if !l.isEmpty ∨ (s.mode = mStandby ∧ ok = false) then s.setFails l
          else s.setTarn fun t => { t with passed := true })

/-- CONFIGURATION_COPY_WRITTEN (R299, R303): the inactive copy holds the resulting configuration; the set is ARMED, with a
boundary search, or COMPANION. -/
def execConfigurationCopyWritten (s : State) : Result :=
  .next (
    if s.tarn.state = 2 ∧ s.tarn.passed = true then
      let t := s.tarn
      let gen := (s.generation + 1) % 2 ^ 32
      let s1 := (s.writeCopy (1 - s.curCopy) gen (Config.copyInstant gen) t.client t.entries.length s.candidate).setTarn fun u =>
        { u with state := if t.companion then 4 else 3, written := true, checkAt := none }
      if t.companion then s1 else s1.weirArm 0 t.earliest
    else s)

/-! Live fields -/

/-- Modes in which an LV field is written (R290). -/
def State.liveMode (s : State) : Bool := decide (mIsolated ≤ s.mode) && decide (s.mode ≤ mSolo)

def State.setLive (s : State) (f : Live → Live) : State := { s with live := f s.live }

/-- One member of group 0x0401 (R343). -/
def Live.put (l : Live) (k v : Nat) : Live :=
  if k = 0x0E then { l with wLock := v, pend := true } else { l with wUnlock := v, pend := true }

/-- The group's rule on the written copy (R343). -/
def Live.consistent (l : Live) : Bool := decide (l.wLock < l.wUnlock)

/-- A write of an LV object (R287, R290, R306). -/
def State.liveWrite (s : State) (c : Caller) (r : OdRow) (i k : Nat) (b : Bytes) : Nat × State :=
  if c.role < r.role then (stRole, s)
  else if !s.liveMode then (stMode, s)
  else
    match r.refuses k b with
    | some e => (e, s)
    | none => (stOk, (s.setLive fun l => l.put k (leNat b)).event .liveWrite [i, k, leNat b, c.client])

def State.liveAt (s : State) (c : Caller) (i k : Nat) (b : Bytes) : Nat × State :=
  match odFind i k with
  | none => (stNoObject, s)
  | some r => if r.acc = .lv then s.liveWrite c r i k b else (stReadOnly, s)

/-- LIVE_WRITE (R306). -/
def execLiveWrite (sess : Nat) (i : BitVec 16) (k : BitVec 8) (b : Bytes) (s : State) : Result :=
  .next (s.request sess fun c => s.liveAt c i.toNat k.toNat b)

/-- Members of a group write (R308): index, subindex, value. -/
def liveMembers : Nat → Bytes → Option (List (Nat × Nat × Bytes))
  | 0, b => if b.isEmpty then some [] else none
  | n + 1, b =>
    let len := leNat ((b.drop 3).take 1)
    if b.length < 4 + len then none
    else
      match liveMembers n (b.drop (4 + len)) with
      | some l => some ((leNat (b.take 2), leNat ((b.drop 2).take 1), (b.drop 4).take len) :: l)
      | none => none

/-- A group write (R308): refused whole where a member does not belong to the group or the resulting written copy breaks the
group's rule. DEDUCED (log 68). -/
def State.groupWrite (s : State) (c : Caller) (b : Bytes) : Nat × State :=
  let count := leNat ((b.drop 2).take 1)
  if c.role < rExpert then (stRole, s)
  else if !s.liveMode then (stMode, s)
  else if b.length < 3 ∨ 1024 < b.length then (stType, s)
  else
    match liveMembers count (b.drop 3) with
    | none => (stType, s)
    | some l =>
      if leNat (b.take 2) ≠ 0x0401 ∨ count = 0 ∨ 8 < count then (stRange, s)
      else if l.any fun m => m.1 != 0x3400 || (m.2.1 != 0x0E && m.2.1 != 0x0F) then (stRange, s)
      else
        match l.findSome? fun m => (match odFind m.1 m.2.1 with | some r => r.refuses m.2.1 m.2.2 | none => some stRange) with
        | some e => (e, s)
        | none =>
          let v := l.foldl (fun x m => x.put m.2.1 (leNat m.2.2)) s.live
          if !v.consistent then (stRange, s)
          else (stOk, (s.setLive fun _ => v).event .liveWrite [0x0401, c.client, v.wLock, v.wUnlock])

/-- LIVE_GROUP_WRITE (R308). -/
def execLiveGroupWrite (sess : Nat) (b : Bytes) (s : State) : Result := .next (s.request sess fun c => s.groupWrite c b)

/-- LIVE_FIELD_TAKEUP (R307): a consistent written copy becomes the acting copy; otherwise the group is marked. -/
def execLiveFieldTakeup (s : State) : Result :=
  .next (
    if !s.live.pend then s
    else if s.live.consistent then
      (s.setLive fun l => { l with aLock := l.wLock, aUnlock := l.wUnlock, inconsistent := false, pend := false }).status
        spConfig (goodBits 0)
    else
      let s1 := (s.setLive fun l => { l with inconsistent := true, pend := false }).status spConfig (goodBits 1)
      if s.live.inconsistent then s1 else s1.event .liveTaken [s.live.aLock, s.live.aUnlock])

end Sys2Proof.Machine
end

