-- ==== Sys2Proof/Machine/EvrCmds.lean ====
section
/-! DEFINITION. The event recorder (R436 to R453): the ring, records and repeats, the mirror, posts, and the commands of
its table rows. -/

namespace Sys2Proof.Machine

/-- First word of the event ring (R436). -/
def ringBase : Nat := 0x8200000

/-- Word offset of a cursor (R438). -/
def curOfs (c : Nat) : Nat := c % 2 ^ 21

/-- A cursor moved on by words, with its wrap count. -/
def curAdd (c n : Nat) : Nat := (c + n) % 2 ^ 32

/-- Words that a record of LEN bytes occupies (R437). -/
def recWords (len : Nat) : Nat := (len + 15) / 16 * 2

/-- A record's header (R439). -/
def recHeader (len cls num number optime pcycle flags : Nat) : Bytes :=
  leBytes 2 len ++ leBytes 2 (cls * 4096 + num) ++ leBytes 4 number ++ leBytes 4 optime ++ leBytes 3 pcycle ++ leBytes 1 flags

/-- FLAGS of a record. -/
def recFlags (inlock trunc : Bool) (sev : Nat) : Nat := bit inlock 0 + bit trunc 3 + sev * 32

/-- The bytes of an own record (R439, R440): header, time block, payload; a record of class 0 has no time block. -/
def EvRec.bytes (r : EvRec) (number : Nat) : Bytes :=
  recHeader (recHead r.cls + r.payload.length) r.cls r.num number r.optime r.pcycle (recFlags r.inlock r.trunc r.sev)
    ++ (if r.cls = 0 then [] else leBytes 8 (BitVec.ofInt 64 r.tai).toNat ++ leBytes 4 0 ++ leBytes 4 r.optime) ++ r.payload

/-- The bytes of ring words from a cursor on. -/
def State.ringBytes (s : State) (c words : Nat) : Bytes := valueBytes (s.words (ringBase + curOfs c) words)

/-- Write bytes into the ring at a word offset, as GOOD BITS64 (R436). -/
def State.ringWrite (s : State) (ofs : Nat) (b : Bytes) : State := s.setWords (ringBase + ofs) (packWords 0xC4#8 b)

/-- Number of records from a word offset to the end of its segment, their first words read through the check code; behind one
that is uncorrectable no record of the segment is found (R448). DEDUCED (log 11). -/
def State.countRecords (s : State) : Nat → Nat → Nat × State
  | 0, _ => (0, s)
  | fuel + 1, ofs =>
    match s.eccRead (agDma mEvr) (ringBase + ofs) with
    | (none, t) => (0, t)
    | (some w, t) =>
      let len := w.val.toNat % 2 ^ 16
      if len < 16 then (0, t)
      else if 2048 ≤ ofs % 2048 + recWords len then (1, t)
      else
        let r := State.countRecords t fuel (ofs + recWords len)
        (r.1 + 1, r.2)

/-- The head enters the segment at a cursor: its old records are discarded and counted, and the tail moves to the start
of the following segment (R437). -/
def State.enterSegment (s : State) (c : Nat) : State :=
  let tail := s.get Reg.evrTail
  if tail = c ∨ curOfs tail / 2048 ≠ curOfs c / 2048 then s
  else
    let n := s.countRecords 1024 (curOfs tail)
    let s1 := n.2.set Reg.evrTail (curAdd tail (2048 - curOfs tail % 2048))
    { s1 with evr := { s1.evr with overwritten := s1.evr.overwritten + n.1 } }

/-- A PAD record over the rest of a segment. DEDUCED (log 11). -/
def State.ringPad (s : State) (c rest : Nat) : State :=
  let h := recHeader (rest * 8) 0 1 (Config.padNumber s.free).toNat (s.get Reg.evrOptime) (s.get Reg.evrPcycle)
    (recFlags s.inLock false (Config.ringSeverity 1).toNat)
  { s.ringWrite (curOfs c) (h ++ List.replicate (rest * 8 - 16) 0#8) with free := s.free + 1 }

/-- The place of a record of `n` words: a PAD where it does not fit in the segment (R437). -/
def State.ringPlace (s : State) (n : Nat) : Nat × State :=
  let c := s.get Reg.evrHead
  let rest := 2048 - curOfs c % 2048
  if n ≤ rest then (c, if rest = 2048 then s.enterSegment c else s)
  else
    let d := curAdd c rest
    (d, (s.ringPad c rest).enterSegment d)

/-- Commit a record: every word, then the head in one step (R437, R438). The cursor of the record too. -/
def State.ringPut (s : State) (b : Bytes) : Nat × State :=
  let n := recWords b.length
  let r := s.ringPlace n
  (r.1, (r.2.ringWrite (curOfs r.1) (b ++ List.replicate (n * 8 - b.length) 0#8)).set Reg.evrHead (curAdd r.1 n))

/-- A record that is still in the ring. -/
def State.inRing (s : State) (c : Nat) : Bool :=
  let head := s.get Reg.evrHead
  let tail := s.get Reg.evrTail
  decide ((head + 2 ^ 32 - c) % 2 ^ 32 ≤ (head + 2 ^ 32 - tail) % 2 ^ 32) && head != c

/-- Commit an own record and mirror it (R441, R446). -/
def State.commitOwn (s : State) (b : Nat → Bytes) : State :=
  let number := s.get Reg.evrNumber
  let bytes := b number
  let r := (s.incWrap Reg.evrNumber).ringPut bytes
  let s1 := { r.2 with evr := { r.2.evr with
    written := r.2.evr.written + 1, lastOwn := some (r.1, number, s.get Reg.evrPcycle) } }
  if s1.linkUp then s1.sendFrame ftMirror 0 true (wBits (1 + bytes.length * 2 ^ 16) :: packWords 0xC4#8 bytes) else s1

/-- A class-0 record of the recorder itself. -/
def State.commitRing (s : State) (num : Nat) (payload : Bytes) : State :=
  s.commitOwn fun number => recHeader (16 + payload.length) 0 num number (s.get Reg.evrOptime) (s.get Reg.evrPcycle)
    (recFlags s.inLock false (Config.ringSeverity num).toNat) ++ payload

/-- The cursor and NUMBER of the last own record where the record repeats it (R445), read through the check code. -/
def State.repeatOf (s : State) (r : EvRec) : Option (Nat × Nat) × State :=
  match s.evr.lastOwn with
  | none => (none, s)
  | some (c, number, pc) =>
    if r.cls = 0 ∨ s.inRing c = false ∨ pc ≠ s.get Reg.evrPcycle then (none, s)
    else
      let len := 32 + r.payload.length
      let a := ringBase + curOfs c
      match s.eccReads (agDma mEvr) a 4 with
      | (none, t) => (none, t)
      | (some h, t) =>
        let b := valueBytes h
        if leNat (b.take 2) ≠ len ∨ leNat ((b.drop 2).take 2) ≠ r.cls * 4096 + r.num ∨ (b.getD 15 0#8).toNat / 32 % 4 ≠ r.sev then
          (none, t)
        else
          match t.eccReads (agDma mEvr) (a + 4) (recWords len - 4) with
          | (none, u) => (none, u)
          | (some l, u) => (if (valueBytes l).take r.payload.length = r.payload then some (c, number) else none, u)

/-- Word 3 of a record in the ring (R445). -/
def State.word3 (s : State) (c : Nat) : Nat := (s.word (ringBase + (curOfs c + 3) % 2 ^ 21)).val.toNat

def State.setWord3 (s : State) (c v : Nat) : State := s.setWord (ringBase + (curOfs c + 3) % 2 ^ 21) (wBits v)

/-- A repeat (R445, R446): word 3 only, and an update to the partner. -/
def State.commitRepeat (s : State) (c number optime : Nat) : State :=
  let v := min 65535 (s.word3 c % 2 ^ 16 + 1) + optime * 2 ^ 32
  let s1 := s.setWord3 c v
  let s2 := { s1 with evr := { s1.evr with repeats := s1.evr.repeats + 1 } }
  if s2.linkUp then s2.sendFrame ftMirror 0 true [wBits 2, wBits number, wBits v] else s2

/-- The DROPPED record that precedes the first commit after refused posts (R444). -/
def State.commitDropped (s : State) : State :=
  let n := s.evr.dropped
  if n = 0 then s
  else (({ s with evr := { s.evr with dropped := 0 } }).set Reg.evrRefused 0).commitRing 2 (leBytes 4 (min n (2 ^ 32 - 1)))

/-- One own record or repeat (R444, R445); a repeat commits no record, and nothing precedes it. -/
def State.commitRec (s : State) (r : EvRec) : State :=
  match s.repeatOf r with
  | (some (c, number), t) => t.commitRepeat c number r.optime
  | (none, t) => t.commitDropped.commitOwn r.bytes

/-- The partner's device identity from its last MANIFEST frame (R447). -/
def State.partnerId (s : State) : Nat := match s.link.manifest with | some m => m.dev | none => 0

def State.heldId (s : State) : Nat :=
  s.get (Reg.evrPid 0) + s.get (Reg.evrPid 1) * 2 ^ 32 + s.get (Reg.evrPid 2) * 2 ^ 64 + s.get (Reg.evrPid 3) * 2 ^ 96

def State.setHeldId (s : State) (v : Nat) : State :=
  (((s.set (Reg.evrPid 0) v).set (Reg.evrPid 1) (v / 2 ^ 32)).set (Reg.evrPid 2) (v / 2 ^ 64)).set (Reg.evrPid 3) (v / 2 ^ 96)

/-- A mirrored record (R446, R447): a MIRROR_GAP before it where its NUMBER is not in sequence, a new series where the
identity differs. EWX DMA writes it; one that the MPU refuses is discarded (R408, R414, R415). DEDUCED (log 130). -/
def State.commitMirror (s : State) (b : Bytes) : State :=
  let number := leNat ((b.drop 4).take 4)
  let next := (s.get Reg.evrPnum + 1) % 2 ^ 32
  let s0 := s.commitDropped
  let s1 := if s.heldId ≠ s.partnerId then s0.setHeldId s.partnerId
    else if number = next then s0
    else
      let g := s0.commitRing 3 (leBytes 4 next ++ leBytes 4 ((number + 2 ^ 32 - next) % 2 ^ 32))
      { g with evr := { g.evr with gaps := g.evr.gaps + 1 } }
  let flags := (b.getD 15 0#8) ||| 2#8
  let n := recWords b.length
  let p := s1.ringPlace n
  let m := p.2.dmaCheck mEwx .write (ringBase + curOfs p.1) n
  let r := (m.2.set Reg.evrPnum number).ringPut (b.take 15 ++ flags :: b.drop 16)
  if !m.1 then m.2
  else { r.2 with evr := { r.2.evr with lastMirror := some (r.1, number), mirrored := r.2.evr.mirrored + 1 } }

/-- A repeat update from the partner (R446). -/
def State.commitUpdate (s : State) (number v : Nat) : State :=
  let drop : State := { s with evr := { s.evr with updDropped := s.evr.updDropped + 1 } }
  match s.evr.lastMirror with
  | none => drop
  | some (c, n) =>
    if n = number ∧ s.inRing c = true then
      match s.dmaCheck mEwx .write (ringBase + (curOfs c + 3) % 2 ^ 21) 1 with
      | (true, t) => t.setWord3 c v
      | (false, t) => t
    else drop

/-- RECORD_COMMIT (R438, R444): hardware records first, then posts, then mirrored records. -/
def execRecordCommit (s : State) : Result :=
  .next (
    if !s.functional then s
    else
      match s.evr.hwq with
      | r :: l => (({ s with evr := { s.evr with hwq := l } }).set Reg.evrHwq l.length).commitRec r
      | [] =>
        match s.evr.fifo with
        | r :: l => (({ s with evr := { s.evr with fifo := l } }).set Reg.evrFifo l.length).commitRec r
        | [] =>
          match s.evr.mirror with
          | .record b :: l => ({ s with evr := { s.evr with mirror := l } }).commitMirror b
          | .update n v :: l => ({ s with evr := { s.evr with mirror := l } }).commitUpdate n v
          | [] => s)

/-- MIRROR (R234, R446): a record or a repeat update joins the queue of mirrored records. -/
def execMirror (lane : Fin 2) (f : EwxFrame) (s : State) : Result :=
  .next (s.receive lane f ftMirror fun fr t =>
    let w (i : Nat) : Nat := (fr.payload.getD i ⟨0#64, 0#8⟩).val.toNat
    let item : MirrorIn := if w 0 % 4 = 1 then .record ((valueBytes (fr.payload.drop 1)).take (w 0 / 2 ^ 16 % 2 ^ 16))
      else .update (w 1) (w 2)
    if w 0 % 4 = 1 ∨ w 0 % 4 = 2 then { t with evr := { t.evr with mirror := t.evr.mirror ++ [item] } } else t)

/-- The record in the post window (R439, R444): the writer supplies LEN, CODE, severity, TRUNC and payload. -/
def State.windowRec (s : State) : EvRec :=
  let b := (List.range 256).flatMap fun k => leBytes 4 (s.get (Reg.evrPbuf k))
  let len := min 1024 (leNat (b.take 2))
  let code := leNat ((b.drop 2).take 2)
  let fl := b.getD 15 0#8
  { s.mkRec (code / 4096) (code % 4096) (fl.toNat / 32 % 4) ((b.take len).drop (recHead (code / 4096))) with trunc := fl.getLsbD 3 }

/-- A write of EVR.POST (R444): a record of a class that `OD 3A00h.01` suppresses is counted and not recorded (R443).
DEDUCED (log 91). -/
def State.evrPost (s : State) (w : Nat) : State :=
  if !w.testBit 31 then s
  else if (s.cfgNat 0x3A00 0x01 0).testBit s.windowRec.cls then
    { s with evr := { s.evr with suppressed := s.evr.suppressed + 1 } }
  else s.post s.windowRec

/-- POST (R444). -/
def execPost (w : BitVec 32) (s : State) : Result := .next (if s.runtime then s.evrPost w.toNat else s)

/-- OPERATING_TIME_SECOND (R441): a whole second of feed-domain power. DEDUCED (log 92). -/
def execOperatingTimeSecond (s : State) : Result :=
  .next (
    if s.powered && decide (1000000000 ≤ s.tmb.upTicks) then
      ({ s with tmb := { s.tmb with upTicks := s.tmb.upTicks - 1000000000 } }).incWrap Reg.evrOptime
    else s)

/-- Life-cycle erasure (R449): ERASED set and every byte past header and time block zeroed in the record at a word offset;
the words of the record. Where its first word cannot be read, the next record is sought at the next segment start
(R448); where only its second cannot, the flag in it is left. DEDUCED (log 91). -/
def State.eraseRecord (s : State) (ofs : Nat) : Nat × State :=
  let rest := 2048 - ofs % 2048
  match s.eccRead (agDma mEvr) (ringBase + ofs) with
  | (none, t) => (rest, t)
  | (some h, t) =>
    let b := valueBytes [h]
    let n := recWords (leNat (b.take 2))
    let keep := recHead (leNat ((b.drop 2).take 2) / 4096) / 8
    if n < 2 ∨ rest < n then (rest, t)
    else
      let u := match t.eccRead (agDma mEvr) (ringBase + ofs + 1) with
        | (some w, v) => let c := valueBytes [w]; v.ringWrite (ofs + 1) (c.take 7 ++ [(c.getD 7 0#8) ||| 4#8])
        | (none, v) => v
      (n, u.ringWrite (ofs + keep) (List.replicate ((n - keep) * 8) 0#8))

/-- Erase every record from a cursor to the head; the fuel exceeds the number of records that the ring can hold.
DEDUCED (log 91). -/
def State.eraseRing (s : State) : Nat → Nat → State
  | 0, _ => s
  | fuel + 1, c =>
    if c = s.get Reg.evrHead then s
    else
      let r := s.eraseRecord (curOfs c)
      if r.1 = 0 then s else State.eraseRing r.2 fuel (curAdd c r.1)

def State.lifeCycleErase (s : State) : State := s.eraseRing (2 ^ 20) (s.get Reg.evrTail)

end Sys2Proof.Machine
end

