-- ==== Sys2Proof/Machine/TaskCmds.lean ====
section
/-! DEFINITION. The commands of tasks (R118 to R137, R159, R164, R182): releases, snapshots, ends of cycle, output
instants, urgent tasks, and the write port. A command that comes when its event is not due leaves the state as it is. -/

namespace Sys2Proof.Machine

/-! Releases -/

/-- A release taken: the pair leaves WAIT, the snapshot begins (R124, R139). -/
def State.takeRelease (s : State) (n : Nat) (t : Int) : State :=
  let s1 := s.setTask n fun k =>
    { k with rel := some t, relWord := s.relTag t, startAt := none, ended := false, noPublish := false, outs := [], got := [],
             own := s.inControl, stores := [], awayAt := none, awayNs := 0, ready := false, late := false }
  ((s1.incWrap (Reg.trel n)).set (Reg.tstState n) tsSnapshot).wakePair (s.pairOf n) 2

/-- A trial cycle begins with its release (R182). -/
def State.takeTrial (s : State) (n : Nat) (t : Int) : State :=
  s.setTask n fun k =>
    { k with rel := some t, relWord := s.relTag t, startAt := none, ended := false, noPublish := false, outs := [], got := [],
             stores := [], ready := false }

/-- RELEASE (R118 to R120, R124, R129, R156); of a trial task, the primary distributes its snapshot and the standby
takes a trial cycle, which a cycle still under way skips (R182). DEDUCED (log 54). -/
def execRelease (task : Fin 16) (trial : Bool) (s : State) : Result :=
  let n := task.val
  .next (
    if trial then
      match s.trialDue n with
      | none => s
      | some t =>
        let s1 := s.setTask (n + 32) fun k => { k with lastRel := some t }
        if s.mode = mPrimary then
          match s1.takePoints false (n + 32) with
          | (some ws, u) => u.sendSnapshot (n + 32) (s.relTag t) ws
          | (none, u) => u
        else if s.openCycle (n + 32) then s1
        else s1.takeTrial (n + 32) t
    else
      match s.releaseDue n with
      | none => s
      | some t =>
        let s1 := s.flushWindow.setTask n fun k => { k with lastRel := some t }
        (if s.openCycle n then s1.skipRelease n else s1.takeRelease n t).peerMiss n t)

/-- A snapshot is complete: the task waits for its place, and starts when that is free (R124). -/
def State.snapshotDone (s : State) (n : Nat) : State :=
  let s1 := s.setTask n fun k => { k with ready := true }
  (if s.tstate n = tsSnapshot then s1.setTState n tsWaiting else s1).startLogic n

/-- The snapshots of one release instant are taken in the order of R121 (R124). -/
def State.snapshotFirst (s : State) (n : Nat) : Bool :=
  !cyclicTasks.any fun m => s.inSnapshot m && (s.task m).rel == (s.task n).rel && s.before m n

/-- SNAPSHOT_COMPLETE (R17, R124, R158): the snapshot is complete, and logic starts when the pair is free. A shadow cycle takes
the words that arrive and never reads this module's image, also after a change of roles. -/
def execSnapshotComplete (task : Fin 24) (trial : Bool) (s : State) : Result :=
  let n := task.val + if trial then 32 else 0
  .next (
    if (trial && !(s.isTrial n && s.mode == mStandby)) || (!trial && decide (16 ≤ n)) then s
    else if s.waits n then s.startLogic n
    else if !s.inSnapshot n then s
    else if s.mode = mStandby then (if s.snapHeld n then s.snapshotDone n else s)
    else if (s.task n).own && s.snapshotFirst n then
      match s.takePoints true n with
      | (some ws, u) => (u.sendSnapshot n (s.task n).relWord ws).snapshotDone n
      | (none, u) => u
    else s)

/-- END_OF_CYCLE (R126, R182). -/
def execEndOfCycle (task : Fin 24) (trial : Bool) (s : State) : Result :=
  let n := task.val + if trial then 32 else 0
  .next (if s.runningAt (s.place n) == some n then s.endCycle n false else s)

/-! Output instants -/

/-- The output instant of a task that TMB matches now, with its release (R118, R127). DEDUCED (log 42). -/
def State.outputDue (s : State) (n : Nat) : Option Int :=
  let r := s.releaseAtOrBefore n (s.now - s.offsetNs n)
  let t := s.outputOf n r
  if s.active && s.enabled n && s.matches t && (s.task n).lastOut != some t then some r else none

/-- A late cycle's outputs at an output instant after its end (R128). DEDUCED (log 42). -/
def State.publishLate (s : State) (n : Nat) : State :=
  match (s.task n).lateOuts with
  | none => s
  | some (rel, outs) =>
    let own := (s.task n).lateOwn
    let s1 := s.setTask n fun k => { k with lateOuts := none }
    let s2 := if own then s1.queueLate n outs rel s.now else s1
    let s3 := s2.publish outs rel own
    if s3.tstate n = tsLate ∧ (s3.task n).ended = true then s3.set (Reg.tstState n) tsIdle else s3

/-- What the output instant of release `r` does to the task's cycles (R124, R127, R128). DEDUCED (log 42). -/
def State.outputCycle (s : State) (n : Nat) (r : Int) : State :=
  let k := s.task n
  if k.rel ≠ some r then s.publishLate n
  else if k.ended then
    if k.noPublish then (s.set (Reg.tstState n) tsIdle).publishLate n
    else
      let s1 := (s.publish k.outs r k.own).set (Reg.tstState n) tsIdle
      match k.lateOuts with
      | some _ => ((s1.dropLate n).setTask n fun x => { x with lateOuts := none }).incSat (Reg.tstDisc n)
      | none => s1
  else if k.own = false ∧ s.inSnapshot n = true then
    ((((s.setTask n fun x => { x with rel := none }).incSat (Reg.tstAband n)).set (Reg.tstState n) tsIdle).event .cycleAbandoned
      [n]).publishLate n
  else (s.publishLate n).countLate n

/-- OUTPUT_INSTANT (R124, R127, R128, R391, R400); of a trial task: a cycle whose snapshot has not arrived is abandoned
and stays uncompared. Field variables are paced by cycles of the module in control (R23). -/
def execOutputInstant (task : Fin 16) (trial : Bool) (s : State) : Result :=
  let n := task.val
  .next (
    if trial then
      let m := n + 32
      let late := match (s.task m).rel with | some r => s.due (s.outputOf n r) | none => false
      if s.isTrial m && s.mode == mStandby && s.inSnapshot m && late then
        (s.setTask m fun x => { x with ended := true }).endTrialCycle m [] true
      else s
    else
      match s.outputDue n with
      | none => s
      | some r =>
        let s1 := s.setTask n fun k => { k with lastOut := some (s.outputOf n r) }
        let s2 := (s1.outputCycle n r).aoAtOutput n
        if (s.task n).own then s2.fskPaced n else s2)

/-! Urgent tasks -/

/-- URGENT_TRIGGER (R132, R133): the module's own receiver or software; `rec` is the record of R371 of a CAN source. -/
def execUrgentTrigger (task : Fin 8) (stamp : Int) (rec : List TW) (s : State) : Result :=
  let n := task.val + 16
  .next (s.ownTrigger n stamp (if s.get (Reg.utrigSrc n) = 1 then rec else []))

/-- URGENT_PENDING_DISPATCH (R121, R134). -/
def execUrgentPendingDispatch (pair : Fin 12) (s : State) : Result :=
  .next (
    s.each (s.placesOf pair) fun p t => t.runPending p)

/-- Budget at the floor in units of 10^-4 ns (R122, R137). -/
def State.budgetUnits (s : State) (n : Nat) : Int := (s.get (Reg.tbud n) : Int) * 15625

/-- The end of an urgent task at its budget (R137): what the comparator accepted before it is published; what the drain of
the stagger accepts after it is not. DEDUCED (log 15). -/
def State.cutOff (s : State) (n : Nat) : State :=
  let s1 := s.publishRest n
  match s1.drainPair (s1.place n / 2) with
  | (false, t) => t
  | (true, t) => (t.setTask n fun k => { k with published := k.stores.length }).endCycle n true

/-- URGENT_BUDGET_EXPIRY (R137): ended as if it had trapped, with code 8 and imm18 0x3FFFF in the event. -/
def execUrgentBudgetExpiry (task : Fin 8) (s : State) : Result :=
  let n := task.val + 16
  .next (
    match (s.task n).startAt with
    | some t =>
      if s.runningAt (s.place n) = some n ∧ s.budgetUnits n + 2000000 < (s.now - t) * 10000 then
        (s.event .urgentOverrun [n, trapExplicit, 0x3FFFF]).cutOff n
      else s
    | none => s)

/-- URGENT_STORE_PUBLISH (R164): the task's next accepted store to an output word. -/
def execUrgentStorePublish (task : Fin 8) (s : State) : Result :=
  let n := task.val + 16
  .next (if s.runningAt (s.place n) = some n then s.publishNext n else s)

/-- USOFT_WRITE (R132): by the supervisor pair in privileged mode. -/
def State.usoftWrite (s : State) (w : Nat) : State :=
  s.each ((List.range 8).filter fun b => w.testBit b) fun b t =>
    if t.get (Reg.utrigSrc (16 + b)) = 2 then t.ownTrigger (16 + b) t.now [] else t

def execUsoftWrite (w : BitVec 32) (s : State) : Result := .next (if s.runtime then s.usoftWrite w.toNat else s)

/-- WRITE_PORT_QUEUE_APPLY (R159): once every snapshot of the instant is complete, in arrival order. -/
def execWritePortQueueApply (s : State) : Result :=
  let s0 := s.flushWindow
  let s1 := { s0 with pimg := { s0.pimg with queue := [] } }
  .next (if s1.portHeld then s0 else s1.each s0.pimg.queue fun w t => t.applyWrite w)

/-! Freshness (R155) -/

/-- When a point's freshness limit runs out. DEDUCED (log 48). -/
def State.freshUntil (s : State) (b : Binding) : Int := SMap.get s.pimg.imageAt s.pimg.updAt b.point + (b.tmo : Int) * 1000000

/-- FRESHNESS_EXPIRY (R155): once for each silence of a CAN_RX or FSK_VAR binding, counted and
recorded in the class of the source; on a forced point without effect on the word. -/
def execFreshnessExpiry (point : BitVec 16) (s : State) : Result :=
  let p := point.toNat
  .next (
    match s.bindings.find? fun b => b.point == p && (b.kind == bkCanRx || b.kind == bkFskVar) && b.tmo != 0 with
    | none => s
    | some b =>
      if s.pimg.expired.contains p ∨ !s.due (s.freshUntil b) ∨ !s.runtime then s
      else
        let s1 := { s with pimg := { s.pimg with expired := p :: s.pimg.expired, expiries := s.pimg.expiries + 1 } }
        (s1.portRework 4 p fun w => ⟨w.val, mkTag qBad w.forced w.limit w.ty⟩).event
          (if b.kind = bkCanRx then .pointStaleCan else .pointStaleFsk) [p])

end Sys2Proof.Machine
end

