-- ==== Sys2Proof/Machine/BootOps.lean ====
section
/-! DEFINITION. Resets of the feed domain, the BOOT sequence and the hold-up domain (R10, R46 to R49, R454, R464, R467,
R468, R478). -/

namespace Sys2Proof.Machine

/-! Reset of the feed domain -/

/-- Fields whose Reset is "Kept" (R10). DESIGN CHOICE (log 3). -/
def keptFlds : List Fld :=
  [Reg.modePrev, Reg.modeCause, Reg.cntTrans, Reg.cntSafe, Reg.safeCount, Reg.resyncCount, Reg.evrHead, Reg.evrTail,
    Reg.evrNumber, Reg.evrPnum, Reg.evrOptime, Reg.evrPcycle, Reg.evrPid 0, Reg.evrPid 1, Reg.evrPid 2, Reg.evrPid 3,
    Reg.lcsPend, Reg.lcsTarget, Reg.tamperCount, Reg.tamperLog, Reg.aloss, Reg.bloss]

/-- Fields whose Reset is "Fuse" (R10). DESIGN CHOICE (log 4). -/
def fuseFlds : List Fld :=
  [Reg.lcsState, Reg.lcsUsed, Reg.lcsId 0, Reg.lcsId 1, Reg.lcsId 2, Reg.lcsId 3, Reg.kslotUsed, Reg.kslotActive,
    Reg.kslotRevoked, Reg.fwkeyRevoked, Reg.fwminMajor]

/-- Keys of the fields that a reset of the feed domain leaves. DESIGN CHOICE (log 19). -/
def heldKeys : List Nat := (keptFlds ++ fuseFlds).map Fld.key

/-- A reset of the feed domain (R10, R454, R478): registers take their reset values and blocks start anew; the hold-up
domain, fuses, MRAM and flash keep theirs. DESIGN CHOICE (log 19). -/
def State.feedReset (s : State) : State :=
  { s with
    csr := s.csr.filter fun e => heldKeys.contains e.1
    cfg := [], cores := [], pairs := []
    tmb := { hold := s.tmb.hold, holdPart := s.tmb.holdPart, upTicks := s.tmb.upTicks }
    evr := { lastOwn := s.evr.lastOwn, lastMirror := s.evr.lastMirror }
    md := { injAt := s.md.injAt }, link := {}, drv := {}, pimg := {}, can := [], launchRefused := 0, alp := {}
    tarn := { history := s.tarn.history }
    live := {}
    net := { nextSession := s.net.nextSession }
    ptp := {}
    xch := { flash0 := s.xch.flash0, flash1 := s.xch.flash1 }
    pwr := { wakeHold := s.pwr.wakeHold, holdLost := s.pwr.holdLost }
    lcs := { s.lcs with nonce := Config.nextNonce s.lcs.nonce % 2 ^ 64, driftCount := 0 }
    cvu := {}, mpu := {}, hwif := {} }

/-- An entry into BOOT by transition 1, 8 or 26 (R37, R47, R461): the wake source is recorded in step 1.
DESIGN CHOICE (log 19). -/
def State.enterBoot (s : State) (num cause src : Nat) : State :=
  if s.mode ∉ transFrom num then s
  else
    let m0 := s.mode
    let t := if num = 1 then 0 else s.now
    let feeds := (s.get Reg.feedA, s.get Reg.feedB)
    let s1 := ((s.feedReset.set Reg.feedA feeds.1).set Reg.feedB feeds.2).set Reg.bootStep 1
    let s2 := ((s1.set Reg.modePrev m0).set Reg.modeCause cause).incWrap Reg.cntTrans
    (s2.recordWake src 0xF t).event .transition [num, cause, m0, mBoot]

/-! Firmware (R467, R468) -/

/-- The file in a firmware slot. -/
def State.fwFile (s : State) (slot : Nat) : Bytes := if slot = 0 then s.lcs.fw0 else s.lcs.fw1

/-- A firmware file verifies (R103, R468). -/
def State.fwOk (s : State) (f : Bytes) : Bool :=
  let l := fileField f 148 4
  let key := (f.drop 48).take 97
  (List.range 4).any (fun k => !(s.get Reg.fwkeyRevoked).testBit k && SMap.find s.lcs.fwHash k == some (Config.sha384 key))
    && decide (f.length = l + 96) && decide (l ≤ 256 + 9 * 786432) && Config.ecdsaOk key (Config.sha384 (f.take l)) (f.drop l)
    && decide (s.get Reg.fwminMajor ≤ fileField f 1 1)
    && ((f.drop 8).take (min 8 (fileField f 4 1))).any (fun b => b.toNat == hwIssue)

/-- A firmware slot is tried (R48, R103, R266): verified, its words written to the supervisor store, and accepted where they
read back as written. -/
def State.tryFirmware (s : State) (slot : Nat) (fallback back : Bool) : Bool × State :=
  let f := s.fwFile slot
  if s.lcs.flashBad.testBit slot ∨ !s.fwOk f then (false, s)
  else
    let s1 := s.setWords 0x2000000 (codeWords ((f.take (fileField f 148 4)).drop 256))
    if back then (false, s1)
    else
      let s2 := ((s1.set Reg.bootFwslot slot).setFlag Reg.bootFwfallback fallback).set Reg.ownfwRel (fileField f 0 2)
      (true, s2.set Reg.ownfwClass (fileField f 2 2))

/-- BOOT step 5 (R48, R103): the runtime data part written as zeros; the selected slot, else the other one. -/
def State.bootFirmware (s : State) (env : BootEnv) : Bool × State :=
  let a := s.lcs.bootSel % 2
  let r := (s.clearWords 0x20C0000 0x2100000).tryFirmware a false (env.fwBack.getLsbD a)
  if r.1 then r else r.2.tryFirmware (1 - a) true (env.fwBack.getLsbD (1 - a))

/-! The steps -/

/-- BOOT step 3 (R462, R464, R484): the position strap, the cell, and the hold-up domain's state or what stands in for it.
DEDUCED (log 92). -/
def State.bootHold (s : State) (env : BootEnv) : State :=
  let p := if env.pos then 1 else 0
  let s0 := (s.set Reg.blwPos p).set Reg.mnbAddr (0x58 + p)
  let s1 := (s0.setFlag Reg.holdv (!s.pwr.holdLost)).set Reg.cellMv env.cellMv.toNat
  let s2 := if env.cellMv.toNat < 2700 then s1.event .cellLow [env.cellMv.toNat] else s1
  if !s.pwr.holdLost then s2
  else
    let r := Config.ringScan (s.words 0x8200000 2097152)
    let s3 := (s2.set Reg.evrOptime s.lcs.copyOptime).set Reg.evrPcycle (s.lcs.copyPcycle + 1)
    let s4 := ((s3.set Reg.evrHead r.1).set Reg.evrTail r.2.1).set Reg.evrNumber r.2.2
    s4.event .holdupLost []

/-- BOOT step 6 (R478): SRAM tested; data SRAM is value 0, tag 0x00. DESIGN CHOICE (log 8). -/
def State.bootMarch (s : State) : State := (s.clearWords 0 0x400000).clearWords 0x1000000 0x1400000

/-- A failed March test (R106, R107): the syndrome that the failing word gives is counted and captured.
DEDUCED (log 18). -/
def State.marchFailed (s : State) (a : BitVec 32) (f : BitVec 80) : State :=
  if f = 0#80 then s else s.eccNote (agLoad 12) (areaCode (areaOf a.toNat)) a.toNat (eccKind f) (syndrome f 0#32)

/-- BOOT step 8 (R46, R93): a cluster below the floor at maximum voltage is reported. -/
def State.bootSpeed (s : State) (l : List (Fin 3 × BitVec 16)) : State :=
  s.each (l.filter fun e => decide (e.2.toNat < 640)) fun e t =>
    let t1 := ((t.setRail e.1.val 900).set (Reg.vltBias e.1.val) 3).set (Reg.spdSpeed e.1.val) e.2.toNat
    (t1.set (Reg.spdBelow e.1.val) 1).event .belowFloor [e.1.val, e.2.toNat]

/-- BOOT step 9 (R339, R461): the hold-up clock into the time base; where the TCXO cross-check passes, PTP starts. -/
def State.bootTime (s : State) (bad : Bool) : State :=
  let s1 := if bad then s.set Reg.tmbFault 1 else (s.set Reg.ptpEn 1).set Reg.tmbPll 1
  if s.pwr.holdLost then { s1 with pwr := { s1.pwr with holdLost := false, wakeHold := none } }
  else
    let h := s.tmb.hold
    let s2 := { s1 with tmb := s1.tmb.setTime (h / 32768 % 2 ^ 48) (h % 32768 * 1000000000 / 32768) }
    let s3 := match s.pwr.wakeHold with
      | some v => s2.setHalves Reg.wakeAtl Reg.wakeAth (holdNs v)
      | none => s2
    ({ s3 with pwr := { s3.pwr with wakeHold := none } }).setTimeState 1

/-- Bank of a retentive word in the banks, one bit each. -/
def bankBit (a : Nat) : Nat :=
  if 0x8000000 ≤ a ∧ a < 0x8020000 then 1 else if 0x8020000 ≤ a ∧ a < 0x8040000 then 2 else 0

/-- Retentive words that step 10 reads: the configuration area and the banks' headers and used words (R193, R194), whose
lengths are `n`. -/
def bootReads (n : List (Option Nat)) (a : Nat) : Bool :=
  [0, 1].any (fun k => decide ((retBank k).1 ≤ a) && decide (a < (retBank k).1 + 16 + ((n.getD k none).getD 0)) &&
      decide (a < (retBank k).1 + (retBank k).2))
    || (decide (0x8040000 ≤ a) && decide (a < 0x8058000))

/-- Every word of those is read through the check code; a bank with an uncorrectable one is noted (R194, R513). -/
def State.bootBanks (s : State) : State :=
  let r0 := s.readValue ((retBank 0).1 + 2)
  let r1 := r0.2.readValue ((retBank 1).1 + 2)
  r1.2.each ((r1.2.upsets.map (·.1)).filter (bootReads [r0.1, r1.1])) fun a t =>
    match t.eccRead (agLoad 12) a with
    | (some _, u) => u
    | (none, u) => { u with xch := { u.xch with bankUe := u.xch.bankUe ||| bankBit a } }

/-- The split mask shows at a unit and in the status of both its cores (R224, R226). -/
def State.splitPair (s : State) (u : Nat) : State :=
  let b := s.isSplit u
  let f (t : State) (k : Bool) : State := t.setCore u k { t.core u k with split := b }
  let s1 := s.setFlag (Reg.ustSplit u) b
  if b then f (f s1 false) true else s1

/-- BOOT step 10 (R194, R226, R305, R465, R472, R513): retentive words read, the configuration taken, the tamper log copied, a
DTLS key pair made where there is none. DEDUCED (log 91). -/
def State.bootStore (s : State) : State :=
  let s1 := s.bootBanks.bootCopy
  let s2 := if s1.cfgValid then { s1 with cfg := if s1.curCopy = 0 then s1.cfg0 else s1.cfg1 }
    else s1.event .configInvalid [s1.curCopy, s1.generation]
  let s3 := (s2.set Reg.splitMask (s2.odNat 0x3200 1)).set Reg.splitLock 1
  let s4 := (s3.each (List.range 12) fun u t => t.splitPair u).applyAll
  let s5 := (s4.each s4.lcs.tamperLog fun v t => t.event .tamper [v]).set Reg.tamperLog 0
  let s6 := { s5 with lcs := { s5.lcs with tamperLog := [] } }
  if s6.lcs.certKey.isEmpty then
    let k := Config.newKey s6.free
    { s6 with lcs := { s6.lcs with certKey := k, cert := Config.selfCert k }, free := s6.free + 1 }
  else s6

/-- BOOT step 11 (R171, R173, R266, R512): the image of the boot slot record; a failed image is recorded. -/
def State.bootImage (s : State) : State :=
  let r := s.readValue bootRec
  let slot := r.1.getD 0 % 2
  let f := r.2.flashImage slot
  let s0 := r.2.set Reg.xchActive slot
  let ok := s.signatureOk f && sectionsOk f && !s.lcs.flashBad.testBit (2 + slot)
  match (if ok then Image.ofFile f else none) with
  | some m => (((s0.fillSlot slot m).takeImage slot []).noteUndefined (some m)).set Reg.bootImgslot (slot + 1)
  | none => ((s0.set Reg.bootImgslot 0).takeImage slot []).event .bootStepFailed [11]

/-- BOOT step 12 (R37): the manifest of the image that step 11 loaded. -/
def State.bootManifest (s : State) : State :=
  match s.imgOf s.activeSlot with
  | some m => if s.get Reg.bootImgslot = 0 ∨ s.manifestOk m then s else s.set Reg.bootMfref 1
  | none => s

/-- BOOT step 13: the lanes that train (R231). -/
def State.bootLanes (s : State) (env : BootEnv) : State :=
  s.each ([(0, env.laneA), (1, env.laneB)].filter fun e => !s.flag (Reg.laneTrained e.1)) fun e t =>
    if e.2 then
      let t1 := (t.set (Reg.laneTrained e.1) 1).incWrap (Reg.laneTrains e.1)
      { t1 with link := { t1.link with training := t1.link.training.filter (· != e.1) } }
    else t.event .bootStepFailed [13, e.1]

/-- A step of BOOT with what it finds: true where it passes (R46, R48, R49).
DEDUCED (log 18). DESIGN CHOICE (log 20). -/
def State.bootDo (s : State) (env : BootEnv) : Nat → Bool × State
  | 3 => (true, s.bootHold env)
  | 4 => (!missed env.spInj, s.injections [(12, env.spInj)])
  | 5 => s.bootFirmware env
  | 6 => match env.march with | some e => (false, s.marchFailed e.1 e.2) | none => (true, s.bootMarch)
  | 7 =>
    let l := (List.finRange 12).map fun u => (u.val, (((env.pairInj.find? fun e => e.1 == u).map (·.2)).getD {}))
    (!l.any fun e => missed e.2, s.injections l)
  | 8 => (!env.slow.any fun e => decide (e.2.toNat < 640), s.bootSpeed env.slow)
  | 9 => (!env.time, s.bootTime env.time)
  | 10 => (true, ((s.fixedRegions.holdString).cvuTest env.cvu.toNat).bootStore)
  | 11 => (true, s.bootImage)
  | 12 => (true, s.bootManifest)
  | 13 => (!env.iface, s.bootLanes env)
  | _ => (true, s)

/-- The next step is in progress (R47); in step 13 both lanes train (R231). -/
def State.bootEnter (s : State) (n : Nat) : State :=
  let s1 := s.set Reg.bootStep n
  if n = 13 then { s1 with link := { s1.link with training := [0, 1] } } else s1

/-- The step of BOOT in progress ends: the next one, or transition 5 (R47, R49). -/
def State.bootStep1 (s : State) (env : BootEnv) : State :=
  let n := s.get Reg.bootStep
  let r := s.bootDo env n
  if r.2.mode ≠ mBoot then r.2
  else if r.1 then r.2.bootEnter (n + 1)
  else (r.2.bootFailed n).transit 5 0x04

/-- BOOT ends (R47 to R49): the steps that remain, then transition 3, 4 or 5; at transition 3 a closed intent switch is
taken (R492). DESIGN CHOICE (log 19). -/
def State.bootEnd (s : State) (env : BootEnv) : State :=
  let t := s.each (List.range 14) fun _ u => if u.mode = mBoot ∧ u.get Reg.bootStep < 14 then u.bootStep1 env else u
  if t.mode ≠ mBoot then t
  else if t.flag Reg.bootMfref then t.statusAll.transit 4 0x05
  else
    let u := t.statusAll.transit 3 0x03
    if u.flag Reg.intentSw then u.noteIntent else u

/-- A tick in BOOT: a step up to the twelfth may have been passed (R36, R47). DESIGN CHOICE (log 104). -/
def State.bootTick (s : State) : State :=
  let n := s.get Reg.bootStep
  if s.mode = mBoot ∧ n ≤ 12 ∧ Config.bootAdvance n s.tmb.raw = true then
    let r := s.bootDo (Config.bootFound s.tmb.raw) n
    if r.1 = true ∧ r.2.mode = mBoot then r.2.bootEnter (n + 1) else s
  else s

end Sys2Proof.Machine
end

