-- ==== Sys2Proof/Machine/JoinOps.lean ====
section
/-! DEFINITION. The conditions of a join and of a start (R40, R41, R259), and what starts, joins and the abort of SYNC do
(R242, R252, R255, R345). -/

namespace Sys2Proof.Machine

/-! Join -/

/-- Parts of a firmware manifest (R258). -/
def fmRelease (b : Bytes) : Nat := fileField b 0 2
def fmClass (b : Bytes) : Nat := fileField b 2 2
def fmTested (b : Bytes) : List Nat := (List.range (min 16 (fileField b 5 1))).map fun k => fileField b (16 + 2 * k) 2

/-- An image accepts a firmware release and a hardware issue (R259): by its manifest where this module holds it.
DESIGN CHOICE (log 23). -/
def State.imgAccepts (s : State) (ident release issue : Nat) : Bool :=
  match ([s.xch.imgA, s.xch.imgB].filterMap id).find? fun m => m.ident == ident with
  | some m => m.issues.contains issue && decide (m.fwLo ≤ release) && decide (release ≤ m.fwHi)
  | none => Config.imageAccepts ident release issue

/-- Rows 0x02 and 0x03 between two firmware manifests. -/
def fmClassOk (a b : Bytes) : Bool := fmClass a == fmClass b
def fmReleaseOk (a b : Bytes) : Bool :=
  fmRelease a == fmRelease b || ((fmTested a).contains (fmRelease b) && (fmTested b).contains (fmRelease a))

/-- Identities of the valid images in a MANIFEST frame, and of this module's own. -/
def Manifest.idents (m : Manifest) : List Nat := (if m.aValid then [m.idA] else []) ++ (if m.bValid then [m.idB] else [])
def State.ownIdents (s : State) : List Nat := ([0, 1].filter s.slotValid).map s.slotIdent

/-- The partner reports PRIMARY or SOLO over the link. -/
def State.partnerControls (s : State) : Bool := s.partnerMode == mPrimary || s.partnerMode == mSolo

/-- The first join check that fails, 0 for none (R40, R259). DESIGN CHOICE (log 23). DEDUCED (log 114). -/
def State.joinRefusal (s : State) : Nat :=
  match s.link.manifest with
  | none => if s.partnerControls then 2 else 1
  | some m =>
    let own := s.ownManifest
    let rel := s.get Reg.ownfwRel
    if !s.partnerControls then 1
    else if !fmClassOk own m.bytes then 2
    else if !fmReleaseOk own m.bytes then 3
    else if !m.idents.all (fun i => s.imgAccepts i rel hwIssue) then 4
    else if s.flag Reg.bootMfref then 5
    else if m.mask ≠ s.get Reg.splitMask then 6
    else if s.md.latched then 7
    else if !s.ownIdents.all (fun i => s.imgAccepts i (fmRelease m.bytes) m.issue) then 8
    else 0

/-- The checks of R259 on the module in control (R228, R259): of the manifest of a joining module against the own one and the
committed split mask. DEDUCED (log 114). -/
def State.joinerOk (s : State) : Bool :=
  match s.link.manifest with
  | none => false
  | some m =>
    let own := s.ownManifest
    fmClassOk own m.bytes && fmReleaseOk own m.bytes && m.idents.all (fun i => s.imgAccepts i (s.get Reg.ownfwRel) hwIssue)
      && s.ownIdents.all (fun i => s.imgAccepts i (fmRelease m.bytes) m.issue)
      && m.split == s.odNat 0x3200 1

/-- What an auto-join refusal depends on (R259). DESIGN CHOICE (log 22). -/
def State.joinView (s : State) : JoinView :=
  ⟨s.partnerMode, s.link.manifest,
    [s.slotIdent 0, s.slotIdent 1, s.get Reg.xchAvalid, s.get Reg.xchBvalid, s.get Reg.ownfwRel, s.get Reg.ownfwClass, s.get Reg.splitMask]⟩

/-- A refused join (R259). -/
def State.joinRefused (s : State) (code : Nat) : State := (s.set Reg.joinref code).event .joinRefused [code]

/-- Transition 6, with the join alignment of R345. -/
def State.join (s : State) (cause : Nat) : State :=
  (match s.tmb.pairOff with
   | some off => if s.alignable then s.runtimeStep (-off) 2 0 else s
   | none => s).transit 6 cause

/-! Start -/

/-- The partner is known not to be in control and not in SAFE while driving (R41). -/
def State.partnerClear (s : State) : Bool :=
  if s.linkUp then
    (match s.link.hb with
     | some h => h.mode != mPrimary && h.mode != mSolo && !(h.mode == mSafe && h.drive)
     | none => false)
  else !s.togglePresent

/-- The start conditions (R41). DEDUCED (log 25). -/
def State.startOk (s : State) : Bool :=
  !s.flag Reg.bootMfref && !s.lcsHolds && s.slotValid s.activeSlot && s.cfgValid && s.restartOk && s.partnerClear

/-- Transition 7, with the restart of R195. -/
def State.start (s : State) (cause : Nat) : State := s.noteGenerations.restart.transit 7 cause

/-- The partner has taken transition 24 from PRIMARY (R37): what its report shows of it. DEDUCED (log 106). -/
def PartnerHb.tripped (h : PartnerHb) : Bool :=
  h.mode == mSafe && h.drive && h.was == mPrimary && (h.cause == 0x16 || h.cause == 0x1B)

/-- A start that meets its conditions: at once without the partner's heartbeat, otherwise by a claim (R242).
DESIGN CHOICE (log 22). -/
def State.claimStart (s : State) (cause : Nat) : State :=
  if s.linkUp then
    let s1 := s.sendRole 1 0 0
    { s1 with link := { s1.link with claimOwn := some s.now, claimCause := cause } }
  else s.start cause

/-! Abort of SYNC -/

/-- SYNC is aborted on the module in SYNC (R255): reason coded as BLW.SYNCSTAT.ABORT, and the partner is told.
DEDUCED (log 61). -/
def State.syncFail (s : State) (reason cause : Nat) : State :=
  if s.mode ≠ mSync then s
  else
    let s1 := (s.set Reg.syncAbort reason).event .syncAborted [reason]
    (s1.sendSyncCtl (s1.get Reg.syncPhase) 4 reason 0 0).transit 10 cause

/-- A commit set or exchange pending on the partner (R39). STANDBY and PRIMARY hold the same ones (R299, R187); no frame tells
a module in ISOLATED, SYNC or SOLO of its partner's. DESIGN CHOICE (log 103). -/
def State.partnerHeld (s : State) : Bool :=
  (s.mode == mSolo || (s.mode == mIsolated || s.mode == mSync) && s.partnerControls) && (match s.link.hb with | some h => h.holds | none => false)

/-- What is pending before a Weir or exchange instant on either module refuses a command (R39). -/
def State.heldBack (s : State) : Bool := s.setPending || s.exchPending || s.partnerHeld

end Sys2Proof.Machine
end

