-- ==== Sys2Proof/Machine/SyncOps.lean ====
section
/-! DEFINITION. SYNC (R252 to R255): what the module in control sends in each phase, and what the module in SYNC makes of
it. -/

namespace Sys2Proof.Machine

/-! Sending -/

/-- SYNC data is no longer sent. -/
def State.syncStop (s : State) : State :=
  (({ (s.each s.link.held fun e t => t.store e.1 e.2) with link := { s.link with sendPhase := 0, goAt := none, held := [], phase2Dirty := false } }).setSyncDirty []).syncWindow

/-- Payloads of SYNCDATA frames (R234): at most 1,022 words each, from a word address or item offset up. -/
def syncParts (area : Nat) : Nat → Nat → List TW → List (List TW)
  | 0, _, _ => []
  | _, _, [] => []
  | fuel + 1, a, l => (wBits (area + a * 2 ^ 32) :: l.take 1022) :: syncParts area fuel (a + 1022) (l.drop 1022)

def State.sendSyncData (s : State) (area a : Nat) (l : List TW) : State :=
  s.sendSet ftSyncdata 0 (syncParts area (l.length / 1022 + 1) a l)

/-- Slots whose image the partner lacks (R252, phase 1). -/
def State.syncSlots (s : State) : List Nat :=
  [0, 1].filter fun k => s.slotValid k && !s.lcs.flashBad.testBit (2 + k) &&
    (match s.link.manifest with
     | some m => if k = 0 then !(m.aValid && m.idA == s.slotIdent 0) else !(m.bValid && m.idB == s.slotIdent 1)
     | none => true)

/-- The phase 2 items (R252) with the slot flags and the boot slot record. DEDUCED (log 61). -/
def State.syncItems (s : State) : List TW × State :=
  let d := s.readValue cfgDir
  let a := cfgCopy s.curCopy + 2
  let m := d.2.dmaCheck mEwx .read a 3
  let r := if m.1 then m.2.eccReads (agDma mEwx) a 3 else (none, m.2)
  let h := (r.1.getD [zeroWord, zeroWord, zeroWord]).map fun w => w.val.toNat
  (Config.encSync2 s.cfg s.pimg.forces
    ((List.range 24).map fun n => (n, s.get (Reg.tstConsec n), s.get (Reg.tskip n)))
    ([s.generation, d.1.getD 0 / 2 % 4, s.activeSlot, s.get Reg.xchRollbk, s.get Reg.xchAvalid, s.get Reg.xchBvalid] ++ h), r.2)

def State.sendItems (s : State) : State :=
  let r := s.syncItems
  ({ r.2 with link := { r.2.link with phase2Dirty := false } }).sendSyncData 2 0 r.1

/-- Retentive banks in use (R252, phase 4): first word and length. -/
def State.syncBanks (s : State) : List (Nat × Nat) :=
  ([0, 1].filter fun k => k == s.activeSlot || s.flag Reg.xchRollbk).map fun k =>
    ((retBank k).1, 16 + (match s.imgOf k with | some m => m.retUsed | none => 0))

/-- A word that EWX DMA reads, as a master of the MPU and through the check code (R107, R408): nothing where it is refused
or uncorrectable. -/
def State.ewxRead (s : State) (a : Nat) : Option TW × State :=
  match s.dmaCheck mEwx .read a 1 with
  | (true, t) => t.eccRead (agDma mEwx) a
  | (false, t) => (none, t)

/-- Words from an address on, in the runs that are left when those that EWX DMA does not get are taken out (R107, R267, R415).
DEDUCED (log 39). -/
def State.readRuns (s : State) (a n : Nat) : List (Nat × List TW) × State :=
  (List.range n).foldl (fun r i =>
    match r.2.ewxRead (a + i) with
    | (some w, t) =>
      (match r.1 with
       | (b, l) :: rest => if b + l.length = a + i then ((b, l ++ [w]) :: rest, t) else ((a + i, [w]) :: r.1, t)
       | [] => ([(a + i, [w])], t))
    | (none, t) => (r.1, t)) ([], s)

/-- Words of an area in SYNCDATA frames. -/
def State.sendRuns (s : State) (area a n : Nat) : State :=
  let r := s.readRuns a n
  r.2.each r.1.reverse fun e t => t.sendSyncData area e.1 e.2

/-- The dirty words, each with its area and address. -/
def State.sendDirty (s : State) : State :=
  (s.each s.link.dirty fun a t => t.sendRuns (if areaOf a = .retentive then 1 else 0) a 1).setSyncDirty []

/-- A tracking pass (R252, phase 5). -/
def State.syncPass (s : State) : State :=
  let s1 := if s.link.phase2Dirty then s.sendItems else s
  let s2 := (s1.sendDirty).incSat Reg.syncPasses
  s2.sendSyncCtl 5 2 0 (s2.get Reg.syncPasses) 0

/-- A phase begins on the module that sends: SYNCCTL, and the phase's data. -/
def State.syncSend (s : State) (p : Nat) : State :=
  let s0 := if p = 1 then (s.set Reg.syncPasses 0).setSyncDirty [] else s
  let s1 := ({ s0 with link := { s0.link with sendPhase := p } }).syncWindow.sendSyncCtl p 1 0 0 0 |>.event .syncPhase [p]
  match p with
  | 1 => s1.each s1.syncSlots fun k t => t.sendObject 1 (t.flashImage k)
  | 2 => s1.sendItems
  | 3 => s1.sendRuns 0 0 4194304
  | 4 => s1.each s1.syncBanks fun b t => t.sendRuns 1 b.1 b.2
  | _ => s1.syncPass

/-- No frame of SYNC waits for its ACK. -/
def State.syncAcked (s : State) : Bool :=
  !(s.link.acks.any fun a => a.ty == ftSyncdata || a.ty == ftSyncctl || a.ty == ftObject)

/-! Receiving -/

/-- A word that EWX DMA writes; a refused one changes nothing (R408, R415). -/
def State.ewxWrite (s : State) (a : Nat) (w : TW) : State :=
  match s.dmaCheck mEwx .write a 1 with
  | (true, t) => t.setWord a w
  | (false, t) => t

/-- SYNCDATA words (R234, R252). -/
def State.syncWords (s : State) (area : Nat) : Nat → List TW → State
  | _, [] => s
  | a, w :: l =>
    let t := match area with
      | 0 => if areaOf a = .data then s.ewxWrite a w else s
      | 1 => if areaOf a = .retentive then s.ewxWrite a w else s
      | 2 => { s with link := { s.link with sync2 := SMap.set s.link.sync2 a w } }
      | _ => s
    State.syncWords t area (a + 1) l

/-- The force table of the partner (R166, R252). A point with a source binding is no part of the tracked data: its forced word
is written here, and one whose force is gone keeps its word as a removal leaves it (R167). -/
def State.takeForces (s : State) (forces : List (Nat × TW)) : State :=
  let gone := s.pimg.forces.filter fun e => (SMap.find forces e.1).isNone
  let src (p : Nat) : Bool := s.bindings.any fun b => b.point == p && b.isSource
  let s1 := { s with pimg := { s.pimg with forces := forces } }
  let s2 := s1.each (gone.filter fun e => src e.1) fun e t => t.portWrite 2 e.1 (lowerQ e.2 qUncertain)
  (s2.each (forces.filter fun e => src e.1) fun e t => t.portWrite 2 e.1 e.2).statusForces

/-- The configuration, forces, counts, slots and boot slot record of the partner (R252); a change of the active slot is
reported to it (R259). -/
def State.takeItems (s : State) : State :=
  match Config.decSync2 (s.link.sync2.map fun e => e.2) with
  | none => { s with link := { s.link with sync2 := [] } }
  | some (cfg, forces, counts, n) =>
    let v (i : Nat) : Nat := n.getD i 0
    let slot := v 2 % 2
    let s1 := { s with link := { s.link with sync2 := [] }, cfg := cfg }
    let new := 1 - s.curCopy
    let s2 := s1.writeCopy new (v 0) (BitVec.ofNat 64 (v 6)).toInt (v 7) (v 8) cfg
    let s3 := ((s2.writeDir new (v 1) (v 0)).useCopy new (v 0) true).bootSlotRecord slot
    let s4 := s3.each [0, 1] fun k t => if v (4 + k) = 0 ∧ t.slotValid k then (t.emptySlot k).sendManifest else t
    let s5 := ((s4.set Reg.xchRollbk (v 3)).showFree.takeImage slot [] (slot != s.activeSlot)).applyAll
    let s6 := s5.takeForces forces
    let s7 := s6.each counts fun e t => (t.set (Reg.tstConsec e.1) e.2.1).set (Reg.tskip e.1) e.2.2
    if slot = s.activeSlot then s7 else s7.sendManifest

/-- An image copied in phase 1 (R175, R252, R259). -/
def State.takeSyncImage (s : State) (f : Bytes) : State :=
  let slot := match sectionOf f 1 with | some b => fileField b 0 1 % 2 | none => 0
  let s1 := (s.setFlashFile (2 + slot) f).markFlash (2 + slot) false
  let bad (t : State) : State := (((t.emptySlot slot).sendManifest).joinRefused 9).syncFail 7 0x0B
  match s1.loadCheck slot f with
  | .error e => bad (s1.event .loadResult ((e.1 : Int) :: e.2))
  | .ok m =>
    let r := (s1.fillSlot slot m).slotCheck slot m
    if r.1 then (r.2.noteUndefined (some m)).sendManifest else bad (r.2.event .loadResult [0x0D])

/-- The module in SYNC takes a SYNCCTL frame (R234, R252 to R255). -/
def State.syncControl (s : State) (phase kind reason : Nat) (b : Int) : State :=
  let items (t : State) : State := if t.link.sync2.isEmpty then t else t.takeItems
  match kind with
  | 1 =>
    let s1 := (s.set Reg.syncPhase phase).event .syncPhase [phase]
    if phase = 3 then
      let s2 := items s1
      { s2 with link := { s2.link with phase3At := some s2.now } }
    else s1
  | 2 => (items s).incSat Reg.syncPasses
  | 3 =>
    let s1 := { (items s).set Reg.syncPhase 6 with link := { (items s).link with goAt := some b } }
    s1.discardPend.pendTrans 9 0x0A b
  | _ => ((s.set Reg.syncAbort reason).event .syncAborted [reason]).transit 10 0x0B

end Sys2Proof.Machine
end

