-- ==== Sys2Proof/Machine/LinkCmds.lean ====
section
/-! DEFINITION. The commands of the lanes, the role line and the evidence of the partner (R231 to R241), of ECHO, ACK and
MANIFEST frames, and of extraction intent (R256). -/

namespace Sys2Proof.Machine

/-! Frames -/

/-- A frame that passes the checks of R232 and R234. -/
def frameOf (f : EwxFrame) : Option Frame :=
  if frameCrc f.words ≠ f.crc then none
  else
    match parseFrame f.words with
    | some fr => if payloadOk fr.ty fr.payload then some fr else none
    | none => none

/-- A payload word as a number, and as an instant. -/
def Frame.num (f : Frame) (i : Nat) : Nat := (f.payload.getD i ⟨0#64, 0#8⟩).val.toNat
def Frame.time (f : Frame) (i : Nat) : Int := (f.payload.getD i ⟨0#64, 0#8⟩).val.toInt

/-- BLW and EWX take frames (R231): from ISOLATED to SAFE. DESIGN CHOICE (log 5). -/
def State.linkRuns (s : State) : Bool := decide (mIsolated ≤ s.mode) && !s.hwif.pins

/-- A received frame of a type whose payload `p` accepts; a valid frame of another kind is left to its own command.
DEDUCED (log 58). -/
def State.onFrame (s : State) (lane : Nat) (f : EwxFrame) (ty : Nat) (p : Frame → Bool) (k : Frame → State → State) : State :=
  let mine := match frameOf f with
    | some fr => fr.ty == ty && p fr
    | none => true
  if s.linkRuns && mine then s.receive lane f ty k else s

/-! HEARTBEAT -/

/-- Lanes that hold block lock. -/
def State.trainedLanes (s : State) : List Nat := [0, 1].filter fun l => s.flag (Reg.laneTrained l)

/-- HEARTBEAT_SEND (R231, R233, R237): every 100 µs on each lane; a lane comes up by the frames that it carries, so the
frames go out on every lane that holds block lock. DEDUCED (log 59). -/
def execHeartbeatSend (s : State) : Result :=
  let due := match s.link.hbSentAt with | some t => s.due (t + 100000) | none => true
  .next (
    if s.linkRuns && due then
      let q := s.nextSeq ftHeartbeat
      let p := s.heartbeatPayload
      let s1 := (s.bumpSeq ftHeartbeat).each s.trainedLanes fun l t => t.putFrame l ftHeartbeat q true false p
      { s1 with link := { s1.link with hbSentAt := some s.now } }
    else s)

/-- An ECHO request for a lane (R233, R344). DEDUCED (log 59). -/
def State.sendEcho (s : State) (lane : Nat) : State :=
  let n := s.link.echoNum % 65536
  let s1 := s.sendFrame ftEcho 0 false [wBits (n * 2 ^ 16), wTime s.now, wTime 0, wTime 0]
  { s1 with link := { s1.link with echoNum := n + 1, echoAt := SMap.set s1.link.echoAt lane s.now } }

/-- Each valid HEARTBEAT (R231, R239, R259, R344): the lane is up, the settle interval ends; a lane that comes up gets the
MANIFEST frame and an ECHO request. -/
def State.hbCopy (s : State) (lane : Nat) : State :=
  let was := s.laneUp lane
  let s1 := { s with link := { s.link with
    hbA := if lane = 0 then some s.now else s.link.hbA, hbB := if lane = 1 then some s.now else s.link.hbB
    settleAt := none } }
  let s2 := s1.setLane lane true
  if was then s2 else (if s2.runtime then s2.sendManifest else s2).sendEcho lane

/-- The content of a HEARTBEAT (R234). -/
def Frame.heartbeat (f : Frame) (now : Int) : PartnerHb :=
  let v := f.num 0
  { mode := v % 8, drive := v.testBit 3, inctrl := v.testBit 4, pendNum := v / 32 % 32, pendAt := f.time 1,
    intent := v.testBit 10, laneA := v.testBit 11, laneB := v.testBit 12, toggle := v.testBit 13, inlock := v.testBit 14,
    cause := v / 2 ^ 16 % 256, at_ := now, holds := Config.partnerPending now }

/-- A report, with the mode that the partner reported before the present one. -/
def PartnerHb.after (h : PartnerHb) (last : Option PartnerHb) : PartnerHb :=
  match last with
  | some l => { h with was := if l.mode = h.mode then l.was else l.mode }
  | none => h

/-- The partner has left STANDBY, or no longer answers (R37, R250): transition 16, and 25 where the own test has failed. -/
def State.partnerLeft (s : State) (cause : Nat) : State :=
  let s1 := s.transit 16 cause
  if s.get Reg.diagOwn = 2 ∧ s.link.test.isSome = true then s1.latch 0x15 0 else s1

/-- A module in STANDBY acts on the mode and pending transition of its partner (R37, R238, R243). -/
def State.hbStandby (s : State) (h : PartnerHb) (sent : Int) : State :=
  if h.tripped then s.transit 22 0x1A
  else if h.mode ≠ mStandby ∧ h.mode ≠ mPrimary ∧ h.mode ≠ mSolo then s.autoPend 12 0x0E (s.boundaryAfter s.now)
  else if h.pendNum = 17 then s.autoPend 12 0x0E h.pendAt
  else
    match s.link.swap with
    | some w =>
      if h.pendNum = 15 ∧ h.pendAt = w.b ∧ w.confirmed = false then
        ({ s with link := { s.link with swap := some { w with confirmed := true } } }).pendTrans 11 0x1C w.b
      else s
    | none =>
      match s.link.swapDone with
      | some b =>
        if sent ≤ b ∨ s.link.reversalAt.isSome = true then s
        else if h.mode = mStandby then
          (if h.pendNum = 0 then { s with link := { s.link with reversalAt := some (s.boundaryAfter s.now) } } else s)
        else { s with link := { s.link with swapDone := none } }
      | none => s

/-- The first valid copy of a HEARTBEAT: the partner's report (R50), and what follows from it in the present mode. A frame
sent before this module's last transition reports nothing of what came after and is not acted on. DEDUCED (log 60). -/
def State.hbFirst (s : State) (fr : Frame) : State :=
  let h := (fr.heartbeat s.now).after s.link.hb
  let ctl := h.mode = mPrimary ∨ h.mode = mSolo
  let s1 := ({ s with link := { s.link with hb := some h },
                      md := { s.md with ctlSeen := if ctl then some s.now else s.md.ctlSeen } })
  let s2 := (((s1.set Reg.modePartner h.mode).set Reg.modePvalid 1).statusPartner).refreshLock
  let s3 := if s2.link.rlOwed && !s2.togglePresent && toggles h.mode h.drive then
      (({ s2 with link := { s2.link with rlOwed := false } }).set Reg.evRlfault 1).event .roleLineFault [h.mode]
    else s2
  if fr.sent < s3.md.modeAt then s3
  else
    let drives := decide (mStandby ≤ h.mode ∧ h.mode ≤ mSolo) || (h.mode == mSafe && h.drive)
    let s4 := if drives then s3 else s3.startRamps
    if s4.mode = mStandby then s4.hbStandby h fr.sent
    else if s4.mode = mPrimary then
      let s5 := if s4.link.sendPhase ≠ 0 ∧ h.mode ≠ mSync then s4.syncStop else s4
      if h.mode = mStandby ∨ h.mode = mPrimary then s5 else s5.partnerLeft 0x0E
    else if s4.mode = mSync then (if ctl then s4 else s4.syncFail 1 0x0B)
    else if s4.mode = mSolo ∧ h.mode = mSync ∧ s4.link.sendPhase = 0 then (if s4.joinerOk then s4.syncSend 1 else s4)
    else if s4.link.sendPhase ≠ 0 ∧ h.mode ≠ mSync ∧ !(s4.link.sendPhase == 6 && h.mode == mStandby) then s4.syncStop
    else s4

/-- HEARTBEAT (R231, R234, R238, R344). -/
def execHeartbeat (lane : Fin 2) (f : EwxFrame) (s : State) : Result :=
  .next (
    match frameOf f with
    | some fr =>
      if fr.ty = ftHeartbeat ∧ s.linkRuns = true ∧ s.flag (Reg.laneTrained lane.val) = true then
        (s.hbCopy lane.val).onFrame lane.val f ftHeartbeat (fun _ => true) fun r t =>
          (t.pairOffset (t.now - r.sent - t.get (Reg.ewxLat lane.val))).hbFirst r
      else s
    | none => s.onFrame lane.val f ftHeartbeat (fun _ => true) fun _ t => t)

/-! Lanes -/

/-- LANE_DOWN (R231): no valid HEARTBEAT on the lane for 300 µs. -/
def execLaneDown (lane : Fin 2) (s : State) : Result :=
  let at_ := if lane.val = 0 then s.link.hbA else s.link.hbB
  .next (
    match at_ with
    | some t => if s.linkRuns && s.due (t + 300000) then s.setLane lane.val false else s
    | none => s)

/-- A lane drops block lock and trains (R231); a module whose BOOT failed step 4 or 5 trains none. -/
def State.trainLane (s : State) (lane : Nat) : State :=
  if !s.linkRuns ∨ s.md.romOnly = true ∨ s.link.training.contains lane = true then s
  else ({ s with link := { s.link with training := lane :: s.link.training } }).set (Reg.laneTrained lane) 0

/-- LANE_TRAINING (R231): the lane loses block lock. -/
def execLaneTraining (lane : Fin 2) (s : State) : Result := .next (s.trainLane lane.val)

/-- RETRAIN of a lane (R262): refused while the other lane is down. -/
def State.retrain (s : State) (lane : Nat) : State :=
  if s.laneUp (1 - lane) ∧ s.linkRuns = true ∧ s.md.romOnly = false then (s.trainLane lane).set (Reg.laneRetrain lane) 1 else s

/-- LANE_RETRAIN (R262). -/
def execLaneRetrain (lane : Fin 2) (s : State) : Result := .next (s.retrain lane.val)

/-- LANE_TRAINED (R231, R262): block lock of a lane in training, from BOOT step 13 on; the types' sequence numbers start anew where the other lane has none either. -/
def execLaneTrained (lane : Fin 2) (s : State) : Result :=
  let l := lane.val
  .next (
    if s.functional && s.link.training.contains l then
      let s1 := ((s.set (Reg.laneTrained l) 1).set (Reg.laneRetrain l) 0).incWrap (Reg.laneTrains l)
      { s1 with link := { s1.link with
        training := s1.link.training.filter (· != l), seen := if s.flag (Reg.laneTrained (1 - l)) then s1.link.seen else [] } }
    else s)

/-- EWEOX_FRAME_DISCARD (R232, R234): counted by what fails; a valid frame is not discarded. -/
def execEweoxFrameDiscard (lane : Fin 2) (f : EwxFrame) (s : State) : Result :=
  .next (s.onFrame lane.val f 0 (fun _ => false) fun _ t => t)

/-! Evidence of the partner (R237 to R241) -/

/-- Neither heartbeat nor toggle (R238). -/
def State.noEvidence (s : State) : State :=
  if s.mode = mStandby then ((s.set Reg.evTakeover 1).startRamps).autoPend 13 0x0C (s.boundaryAfter s.now)
  else if s.mode = mPrimary then s.partnerLeft 0x0E
  else s

/-- A targeted self-test ends without a result where the partner's part in it is not known (R251). -/
def State.testEnds (s : State) : State :=
  match s.link.test with
  | some _ => if s.testActs then s else ({ s with link := { s.link with test := none } }).set Reg.diagState 0
  | none => s

/-- The instant of the last valid HEARTBEAT on either lane. -/
def State.lastHb (s : State) : Option Int :=
  match s.link.hbA, s.link.hbB with
  | some a, some b => some (max a b)
  | some a, none => some a
  | none, b => b

/-- HEARTBEAT_ABSENT (R238, R239): no heartbeat on either lane for 300 µs. -/
def execHeartbeatAbsent (s : State) : Result :=
  .next (
    match s.lastHb with
    | some t =>
      if s.linkRuns && s.flag Reg.modePvalid && s.due (t + 300000) then
        let s1 := ((((s.setLane 0 false).setLane 1 false).set Reg.modePvalid 0).statusPartner).testEnds
        if s1.mode = mSync then s1.syncFail 2 0x0B
        else if s1.mode = mStandby ∨ s1.mode = mPrimary then
          (if s1.togglePresent then { s1 with link := { s1.link with settleAt := some s1.now } } else s1.noEvidence)
        else s1.syncStop
      else s
    | none => s)

/-- SETTLE_INTERVAL_EXPIRY (R238, R239): 120 µs have passed with the toggle still present. -/
def execSettleIntervalExpiry (s : State) : Result :=
  .next (
    match s.link.settleAt with
    | some t =>
      if s.due (t + 120000) && s.togglePresent then
        let s1 := { s with link := { s.link with settleAt := none } }
        if s1.mode = mStandby then (s1.set Reg.evSplitev 1).yields 20 0x10
        else if s1.mode = mPrimary then s1.partnerLeft 0x10
        else s1
      else s
    | none => s)

/-- TOGGLE_ABSENT (R237 to R239): no edge for 300 µs; with a heartbeat a role-line fault, within the settle interval the row
without heartbeat and toggle. -/
def execToggleAbsent (s : State) : Result :=
  .next (
    match s.link.edgeAt with
    | some t =>
      if s.linkRuns && s.togglePresent && s.due (t + 300000) then
        let s1 := (s.set Reg.modeToggle 0).set Reg.evToggle 0
        if s1.mode ≠ mStandby ∧ s1.mode ≠ mPrimary then s1
        else if s1.linkUp then
          (match s1.link.hb with
           | some h =>
             if toggles h.mode h.drive then (s1.set Reg.evRlfault 1).event .roleLineFault [h.mode]
             else { s1 with link := { s1.link with rlOwed := true } }
           | none => s1)
        else if s1.link.settleAt.isSome then ({ s1 with link := { s1.link with settleAt := none } }).noEvidence
        else s1
      else s
    | none => s)

/-- PARTNER_TOGGLE_EDGE (R237). -/
def execPartnerToggleEdge (s : State) : Result :=
  .next (
    if s.linkRuns then
      let s1 := { s with link := { s.link with edgeAt := some s.now, rlOwed := false } }
      (s1.set Reg.modeToggle 1).set Reg.evToggle 1
    else s)

/-- EXIT (R37, R245, R250): the ramp starts; the standby takes control at the next boundary, or follows into SAFE driving;
the primary of a standby that leaves goes on alone. -/
def State.exitFrame (s : State) (fr : Frame) : State :=
  let v := fr.num 0
  let m0 := v % 8
  let num := v / 2 ^ 16 % 32
  let s1 := s.startRamps
  if s1.mode = mStandby then
    if num = 24 then s1.transit 22 0x1A
    else if num ≠ 15 ∧ (m0 = mPrimary ∨ m0 = mSolo) then
      let s2 := if s1.link.test.isSome ∧ s1.get Reg.diagPart = 0 then s1.set Reg.diagPart 2 else s1
      s2.autoPend 12 0x0E (s2.boundaryAfter s2.now)
    else s1
  else if s1.mode = mPrimary then
    if m0 = mStandby then
      let c := v / 256 % 256
      let s2 := if s1.link.test.isSome ∧ s1.get Reg.diagPart = 0 ∧ (c = 0x11 ∨ c = 0x15) then
          s1.set Reg.diagPart (if c = 0x15 then 2 else 1)
        else s1
      s2.partnerLeft 0x0E
    else s1
  else if s1.mode = mSync then (if m0 = mPrimary ∨ m0 = mSolo then s1.syncFail 1 0x0B else s1)
  else s1

/-- EXIT. -/
def execExit (lane : Fin 2) (f : EwxFrame) (s : State) : Result :=
  .next (s.onFrame lane.val f ftExit (fun _ => true) fun fr t => t.exitFrame fr)

/-! MANIFEST, ECHO, ACK -/

/-- A MANIFEST frame's content (R234). -/
def Frame.manifest (f : Frame) : Manifest :=
  let w := f.num 6
  { bytes := valueBytes (f.payload.take 6), issue := w % 256, split := w / 2 ^ 8 % 4096, active := w / 2 ^ 20 % 2,
    aValid := w.testBit 21, bValid := w.testBit 22, idA := f.num 7, idB := f.num 8,
    dev := f.num 9 + f.num 10 * 2 ^ 64, mask := Config.partnerMask (w / 2 ^ 8 % 4096) f.sent }

/-- A load that the other module of a pair has failed empties the idle slot here too, whichever role it has by then (R175). -/
def State.partnerSlot (s : State) (m : Manifest) : State :=
  let held := if s.idleSlot = 0 then m.aValid else m.bValid
  if held then s.loadPartner
  else if s.mode = mPrimary ∧ s.xch.loadAt.isSome = true then s.loadFail 0x0E
  else if s.xch.handed = true ∧ s.get Reg.xchState = 3 then ((s.emptySlot s.idleSlot).setXch 12 0).sendManifest
  else s

/-- MANIFEST (R175, R258, R259). DEDUCED (log 52). -/
def execManifest (lane : Fin 2) (f : EwxFrame) (s : State) : Result :=
  .next (s.onFrame lane.val f ftManifest (fun _ => true) fun fr t =>
    let m := fr.manifest
    let t1 := { t with link := { t.link with manifest := some m } }
    ((t1.set Reg.pfwRel (fmRelease m.bytes)).set Reg.pfwClass (fmClass m.bytes)).partnerSlot m)

/-- Each valid copy of an ECHO reply gives the latency of its lane (R234, R344). -/
def State.echoCopy (s : State) (lane : Nat) (fr : Frame) : State :=
  if (fr.num 0).testBit 0 then
    s.set (Reg.ewxLat lane) (min ((s.now - fr.time 1 - (fr.time 3 - fr.time 2)) / 2).toNat 65535)
  else s

/-- ECHO (R233, R234, R344): a request is answered, a reply gives a latency. DEDUCED (log 59). -/
def execEcho (lane : Fin 2) (f : EwxFrame) (s : State) : Result :=
  let s0 := match frameOf f with
    | some fr => if fr.ty = ftEcho ∧ s.linkRuns = true ∧ s.flag (Reg.laneTrained lane.val) = true then s.echoCopy lane.val fr else s
    | none => s
  .next (s0.onFrame lane.val f ftEcho (fun _ => true) fun fr t =>
    let v := fr.num 0
    if v.testBit 0 then t
    else
      t.sendFrame ftEcho 0 false [wBits (1 + v / 2 ^ 16 % 65536 * 2 ^ 16), wTime (fr.time 1), wTime t.now, wTime t.now])

/-- ECHO_SEND (R344): once a second on a lane that is up. -/
def execEchoSend (lane : Fin 2) (s : State) : Result :=
  let due := match SMap.find s.link.echoAt lane.val with | some t => s.due (t + 1000000000) | none => true
  .next (if s.linkRuns && s.laneUp lane.val && due then s.sendEcho lane.val else s)

/-- ACK (R233). -/
def execAck (lane : Fin 2) (f : EwxFrame) (s : State) : Result :=
  .next (s.onFrame lane.val f ftAck (fun _ => true) fun fr t =>
    let ty := fr.num 0 % 256
    let seq := fr.num 0 / 2 ^ 32
    { t with link := { t.link with acks := t.link.acks.filter fun a => !(a.ty == ty && a.seq == seq) } })

/-- A force change that cannot reach the partner is withdrawn here too. -/
def State.forceLost (s : State) (b : Bytes) : State :=
  match Config.decForce b with
  | some (p, w, at_, client) =>
    { s with pimg := { s.pimg with changes := s.pimg.changes.filter fun x => !(x == ForceChange.mk p w at_ client) } }
  | none => s

/-- The operation of an OBJECT frame given up fails (R235): an image transfer or load in PRIMARY, a commit set's check, a force
change, the completion of a yearling run. DEDUCED (log 113). -/
def State.objectLost (s : State) (p : List TW) : State :=
  let kind := ((p.getD 0 ⟨0#64, 0#8⟩).val.toNat) % 16
  if kind = 1 then
    if s.mode = mPrimary ∧ (s.get Reg.xchState = 1 ∨ s.get Reg.xchState = 2) then (s.dropTransfer.loadFail 0x0E).sendManifest else s
  else if kind = 2 then
    if s.mode = mPrimary ∧ s.tarn.state = 2 ∧ s.tarn.passed = false then
      s.setFails (s.failingRules ((s.tarn.reqSeq + 1) % 2 ^ 32 == s.tarn.seq) false)
    else s
  else if kind = 3 then s.forceLost ((valueBytes (p.drop 1)).take ((p.getD 0 ⟨0#64, 0#8⟩).val.toNat / 2 ^ 32))
  else if kind = 4 ∧ s.mode = mStandby then (({ s with xch := { s.xch with ran := false } }).setXch 10 0).event .trialEnded [0]
  else s

/-- The operation that an Ack frame given up belongs to fails (R235): SYNC on both modules, an object.
DEDUCED (log 61, 113). -/
def State.ackGivenUp (s : State) (ty seq : Nat) (p : List TW) : State :=
  let s1 := s.event .ackGivenUp [ty, seq]
  let sync := ty = ftSyncdata ∨ ty = ftSyncctl ∨ ty = ftObject
  if sync ∧ s1.mode = mSync then s1.syncFail 6 0x0B
  else if sync ∧ s1.link.sendPhase ≠ 0 then (s1.sendSyncCtl s1.link.sendPhase 4 6 0 0).syncStop
  else if ty = ftObject then s1.objectLost p
  else s1

/-- ACK_RETRY_EXPIRY (R233): the frame is sent again after 20 µs, on the lanes that are up, and given up after 8 attempts. -/
def execAckRetryExpiry (ty : BitVec 8) (seq : BitVec 32) (s : State) : Result :=
  let is (a : AckWait) : Bool := a.ty == ty.toNat && a.seq == seq.toNat
  .next (
    match s.link.acks.find? is with
    | none => s
    | some a =>
      if !s.due (a.at_ + 20000) then s
      else if 8 ≤ a.tries then
        ({ s with link := { s.link with acks := s.link.acks.filter fun x => !is x } }).ackGivenUp a.ty a.seq a.payload
      else
        let lanes := if dupType a.ty then s.lanesUp else if s.laneUp a.lane then [a.lane] else s.lanesUp
        let s1 := (s.each lanes fun l t => t.putFrame l a.ty a.seq (dupType a.ty) a.last a.payload).incSat Reg.ewxRetx
        { s1 with link := { s1.link with
          acks := s1.link.acks.map fun x => if is x then { x with at_ := s.now, tries := x.tries + 1 } else x } })

/-! Extraction intent (R256) -/

/-- INTENT_TAKEN (R256, R261, R492): the intent switch has been closed for 1 ms; in ISOLATED the intent is recorded and
auto-join suspended; BOOT ignores the switch. DEDUCED (log 24). -/
def execIntentTaken (s : State) : Result :=
  .next (
    if !s.functional then s
    else if s.mode = mBoot then s.set Reg.intentSw 1
    else
      let s2 := (s.set Reg.intentSw 1).noteIntent
      if s2.mode = mPrimary then s2.autoPend 17 0x13 (s2.boundaryAfter s2.now)
      else if s2.mode = mStandby then s2.yields 20 0x13
      else if s2.mode = mSync then s2.syncFail 5 0x13
      else if s2.mode = mSolo then s2.transit 25 0x13
      else s2)

end Sys2Proof.Machine
end

