-- ==== Sys2Proof/Machine/LcsCmds.lean ====
section
/-! DEFINITION. The commands of the hold-up domain, firmware, keys and the life cycle (R462 to R480). -/

namespace Sys2Proof.Machine

/-! Hourly and daily work -/

/-- CELL_MEASUREMENT (R462): an hour after BOOT or after the last one; below 2.7 V an event.
DESIGN CHOICE (log 6). DEDUCED (log 93). -/
def execCellMeasurement (mv : BitVec 16) (s : State) : Result :=
  .next (
    if s.runtime && decide (s.pwr.cellAt + 3600000000000 ≤ (s.tmb.raw : Int)) then
      let s1 := ({ s with pwr := { s.pwr with cellAt := s.tmb.raw } }).set Reg.cellMv mv.toNat
      if mv.toNat < 2700 then s1.event .cellLow [mv.toNat] else s1
    else s)

/-- COUNTER_COPY (R464): after an hour of operating time. DEDUCED (log 92). -/
def execCounterCopy (s : State) : Result :=
  .next (
    if s.runtime && decide (s.lcs.copyOptime + 3600 ≤ s.get Reg.evrOptime) then
      { s with lcs := { s.lcs with copyOptime := s.get Reg.evrOptime, copyPcycle := s.get Reg.evrPcycle } }
    else s)

/-- TAMPER_OPENING (R465): the cover, or the seal loop. DEDUCED (log 93). -/
def execTamperOpening (cover : Bool) (s : State) : Result :=
  let s1 := s.incSat Reg.tamperCount
  .next (
    if s.powered then
      let s2 := if cover then s1.set Reg.tamperCover 1 else s1
      s2.event .tamper [if cover then 1 else 0]
    else if s1.lcs.tamperLog.length < 8 then
      ({ s1 with lcs := { s1.lcs with tamperLog := s1.lcs.tamperLog ++ [(s1.tmb.hold : Int)] } }).set Reg.tamperLog
        (s1.lcs.tamperLog.length + 1)
    else s1)

/-- The file of a flash slot (R473): firmware 0 and 1, program image 2 and 3. -/
def State.flashFile (s : State) (k : Nat) : Bytes := if k < 2 then s.fwFile k else s.flashImage (k - 2)

/-- ROLLING_CHECK (R473): one flash slot a day, in turn; `rot` is what the slot holds where that is no longer what was
written. An empty slot is not checked. DEDUCED (log 90). -/
def execRollingCheck (rot : Option Bytes) (s : State) : Result :=
  .next (
    if !s.runtime ∨ !s.due (s.lcs.rollAt + 86400000000000) then s
    else
      let k := s.lcs.rollNext % 4
      let s1 := match rot with | some b => s.setFlashFile k b | none => s
      let f := s1.flashFile k
      let bad := !f.isEmpty && !(if k < 2 then s1.fwOk f else s1.signatureOk f)
      let s2 := { s1 with lcs := { s1.lcs with
        rollNext := (k + 1) % 4, rollAt := s.now, rollDone := if k = 3 then s.now else s1.lcs.rollDone } }
      if bad then ((s2.markFlash k true).detected 13).event .slotCheckFailed [k] else s2)

/-- HOLDUP_DOMAIN_LOSS (R464): in STORE, the cell and both feeds absent: every Kept field, the hold-up clock and the
counters are lost. DEDUCED (log 92). -/
def execHoldupDomainLoss (s : State) : Result :=
  .next (
    if s.powered then s
    else
      let s1 := { s with
        csr := s.csr.filter fun e => !(keptFlds.map Fld.key).contains e.1
        tmb := { s.tmb with hold := 0, holdPart := 0 }
        pwr := { s.pwr with holdLost := true, wakeHold := none }
        evr := { s.evr with lastOwn := none, lastMirror := none }
        lcs := { s.lcs with tamperLog := [] } }
      s1)

/-! Firmware (R469) -/

/-- A refusal by role, then by mode. -/
def State.gate (s : State) (c : Caller) (role : Nat) (modes : List Nat) : Nat :=
  if c.role < role then stRole else if !modes.contains s.mode then stMode else stOk

/-- A firmware file into the slot that is not running. DESIGN CHOICE (log 95). -/
def State.firmwareWrite (s : State) (c : Caller) (b : Bytes) : Nat × State :=
  let g := s.gate c rExpert [mIsolated, mStandby, mPrimary, mSolo]
  if g ≠ stOk then (g, s)
  else
    let k := 1 - s.get Reg.bootFwslot
    let ok := s.fwOk b
    let s1 := (s.setFlashFile k (if ok then b else [])).markFlash k false
    let s2 := { s1 with lcs := { s1.lcs with fwValid := putBit s1.lcs.fwValid k ok } }
    let s3 := (s2.event .firmwareWritten [k, if ok then 1 else 0, c.client]).sendManifest
    (if ok then stOk else stRefused, s3)

/-- FIRMWARE_TRANSFER: the whole file of a segmented transfer. -/
def execFirmwareTransfer (sess : Nat) (b : Bytes) (s : State) : Result := .next (s.request sess fun c => s.firmwareWrite c b)

/-- The slot for the next BOOT. -/
def State.firmwareSelect (s : State) (c : Caller) (v : Nat) : Nat × State :=
  let g := s.gate c rExpert [mIsolated]
  if g ≠ stOk then (g, s)
  else if 1 < v then (stRange, s)
  else if !s.lcs.fwValid.testBit v ∨ s.lcs.flashBad.testBit v then (stRefused, s)
  else (stOk, { s with lcs := { s.lcs with bootSel := v } }.event .firmwareSelected [v, c.client])

/-- BOOT_FIRMWARE_SLOT. -/
def execBootFirmwareSlot (sess : Nat) (slot : BitVec 8) (s : State) : Result :=
  .next (s.request sess fun c => s.firmwareSelect c slot.toNat)

/-- The running major release. -/
def State.runningMajor (s : State) : Nat := s.get Reg.ownfwRel / 256

/-- The fuse thermometer of 32 bits goes up to a release, never down. DESIGN CHOICE (log 95). -/
def State.raiseMin (s : State) (v : Nat) : State := s.set Reg.fwminMajor (max (s.get Reg.fwminMajor) (min v 32))

/-- LCS.FWMIN.MAJOR up to the running major release. -/
def State.minimumRaise (s : State) (c : Caller) : Nat × State :=
  let g := s.gate c rExpert [mIsolated]
  if g ≠ stOk then (g, s)
  else if !([0, 1].all fun k => s.lcs.fwValid.testBit k && decide (s.runningMajor ≤ s.fwRelease k / 256)) then (stRefused, s)
  else (stOk, (s.raiseMin s.runningMajor).event .fwMinRaised [s.runningMajor, c.client])

/-- RAISE_FIRMWARE_MINIMUM. -/
def execRaiseFirmwareMinimum (sess : Nat) (s : State) : Result := .next (s.request sess fun c => s.minimumRaise c)

/-! Keys (R471, R472) -/

/-- The active slot holds an unrevoked key. -/
def State.keyActive (s : State) : Bool :=
  let a := s.get Reg.kslotActive
  decide (a < 8) && !(s.get Reg.kslotRevoked).testBit a

/-- The hash of the key in the key store goes into the next unused fuse slot, which becomes active. -/
def State.writeKeySlot (s : State) : State :=
  let k := s.get Reg.kslotUsed
  if 8 ≤ k then s
  else
    let s1 := { s with lcs := { s.lcs with keyHash := SMap.set s.lcs.keyHash k (Config.sha384 s.lcs.imageKey) } }
    (s1.set Reg.kslotUsed (k + 1)).set Reg.kslotActive k

/-- Enrolment of a program-image key. -/
def State.enrol (s : State) (c : Caller) (b : Bytes) : Nat × State :=
  let g := s.gate c rExpert [mIsolated]
  let st := s.get Reg.lcsState
  if g ≠ stOk then (g, s)
  else if b.length ≠ 97 then (stType, s)
  else if (st ≠ 1 ∧ st ≠ 2) ∨ s.keyActive = true ∨ 8 ≤ s.get Reg.kslotUsed then (stRefused, s)
  else (stOk, (({ s with lcs := { s.lcs with imageKey := b } }).writeKeySlot).event .keyEnrolled [s.get Reg.kslotUsed, c.client])

/-- IMAGE_KEY_ENROLMENT. -/
def execImageKeyEnrolment (sess : Nat) (b : Bytes) (s : State) : Result := .next (s.request sess fun c => s.enrol c b)

/-- The trust anchor is replaced and every session closes. -/
def State.anchorWrite (s : State) (c : Caller) (b : Bytes) : Nat × State :=
  let g := s.gate c rExpert [mIsolated]
  if g ≠ stOk then (g, s)
  else if b.length < 1 ∨ 4096 < b.length then (stType, s)
  else (stOk, (({ s with lcs := { s.lcs with anchor := b } }).event .anchorReplaced [c.client]).closeSessions fun _ => true)

/-- TRUST_ANCHOR. -/
def execTrustAnchor (sess : Nat) (b : Bytes) (s : State) : Result := .next (s.request sess fun c => s.anchorWrite c b)

/-- The module's certificate, for the same public key. -/
def State.certWrite (s : State) (c : Caller) (b : Bytes) : Nat × State :=
  let g := s.gate c rExpert [mIsolated]
  if g ≠ stOk then (g, s)
  else if b.length < 1 ∨ 4096 < b.length then (stType, s)
  else if !Config.certSameKey s.lcs.certKey b then (stRefused, s)
  else (stOk, { s with lcs := { s.lcs with cert := b } }.event .certificateReplaced [c.client])

/-- MODULE_CERTIFICATE. -/
def execModuleCertificate (sess : Nat) (b : Bytes) (s : State) : Result := .next (s.request sess fun c => s.certWrite c b)

/-! Life-cycle changes (R474 to R477) -/

/-- The authorisation that a transition needs (R475): 0 none exists, 1 an EXPERT session, 2 Dvorham. -/
def lifeAuth (used m t : Nat) : Nat :=
  if t = 4 ∧ m ≠ 4 then 1
  else if 23 ≤ used then 0
  else if m = 0 ∧ t = 1 then 2
  else if (m = 0 ∨ m = 1 ∨ m = 3) ∧ t = 2 then 1
  else if m = 2 ∧ t = 3 then 2
  else 0

/-- What the signature of a request covers (R476). -/
def State.lifeMessage (s : State) (t : Nat) : Bytes := s.deviceId ++ leBytes 1 t ++ leBytes 8 s.lcs.nonce

/-- A request's bytes are in order, and authorised. -/
def State.lifeOk (s : State) (b : Bytes) : Bool :=
  let t := fileField b 0 1
  let auth := lifeAuth (s.get Reg.lcsUsed) (s.get Reg.lcsState) t
  let key := Config.serviceKey s.lcs.serviceHash
  fileField b 1 1 == 0xA5 && fileField b 2 2 == 0 && fileField b 4 8 == s.lcs.nonce && !s.flag Reg.lcsPend
    && (if auth = 1 then b.length == 12
        else auth == 2 && b.length == 108 && Config.sha384 key == s.lcs.serviceHash
          && Config.ecdsaOk key (Config.sha384 (s.lifeMessage t)) (b.drop 12))

/-- Revoke the active image-key slot. -/
def State.revokeKey (s : State) : State :=
  if s.keyActive then
    (s.set Reg.kslotRevoked (putBit (s.get Reg.kslotRevoked) (s.get Reg.kslotActive) true)).event .keyRevoked [s.get Reg.kslotActive]
  else s

/-- Write the life-cycle entry that TARGET names. -/
def State.writeEntry (s : State) : State :=
  if s.flag Reg.lcsPend ∧ s.get Reg.lcsUsed < 24 then
    (s.set Reg.lcsUsed (s.get Reg.lcsUsed + 1)).set Reg.lcsState (s.get Reg.lcsTarget)
  else s

/-- One step of a change (R477). -/
def State.lifeStep (s : State) (k : Nat) : State :=
  let s1 := match k with
    | 2 => s.revokeKey.writeEntry
    | 3 =>
      { s.clearWords 0x8000000 0x8200000 with
        cfg0 := [], cfg1 := []
        lcs := { s.lcs with imageKey := [], anchor := [], cert := [], certKey := [], copyOptime := 0, copyPcycle := 0 } }
    | 4 =>
      let t := s.lifeCycleErase
      t.commitRec (t.evRec .lifeCycleChange [s.get Reg.lcsState])
    | 5 =>
      ({ s with xch := { s.xch with flash0 := none, flash1 := none }, tarn := { s.tarn with history := [] } }).clearWords bootRec
        (bootRec + 1)
    | 6 => (s.set Reg.lcsPend 0).enterBoot 8 0x19 8
    | _ => s
  { s1 with lcs := { s1.lcs with steps := if k = 6 then 0 else k } }

/-- The steps from the first incomplete one on; `upto` is the last one that completes before a collapse of the feed
domain, 6 for no collapse. DEDUCED (log 94). -/
def State.lifeRun (s : State) (upto : Nat) : State :=
  s.each ((List.range 7).filter fun k => decide (s.lcs.steps < k) && decide (k ≤ upto)) fun k t => t.lifeStep k

/-- A change request (R476): accepted or refused, the nonce changes. DEDUCED (log 94). -/
def State.lifeRequest (s : State) (c : Caller) (b : Bytes) (upto : Nat) : Nat × State :=
  let g := s.gate c rExpert [mIsolated]
  let next (t : State) : State := { t with lcs := { t.lcs with nonce := Config.nextNonce t.lcs.nonce % 2 ^ 64 } }
  if g ≠ stOk then (g, next s)
  else if b.length ≠ 12 ∧ b.length ≠ 108 then (stType, next s)
  else if !s.lifeOk b then (stRefused, (next s).event .lifeCycleRequest [fileField b 0 1, c.client])
  else
    let s1 := ((next s).set Reg.lcsPend 1).set Reg.lcsTarget (fileField b 0 1)
    (stOk, ({ s1 with lcs := { s1.lcs with steps := 1 } }).lifeRun upto)

/-- LIFE_CYCLE_CHANGE (R476, R477). DEDUCED (log 94). -/
def execLifeCycleChange (sess : Nat) (b : Bytes) (upto : Fin 7) (s : State) : Result :=
  .next (s.request sess fun c => s.lifeRequest c b upto.val)

/-- LIFE_CYCLE_CHANGE_RESUME (R477): after BOOT, in ISOLATED with PEND at 1. DEDUCED (log 94). -/
def execLifeCycleChangeResume (upto : Fin 7) (s : State) : Result :=
  .next (if s.runtime ∧ s.mode = mIsolated ∧ s.flag Reg.lcsPend = true then s.lifeRun upto.val else s)

/-! LCS.CMD (R480) -/

/-- A write of LCS.CMD with GO: it acts only in ISOLATED. DEDUCED (log 94). -/
def State.lcsCommand (s : State) (op : Nat) : State :=
  if s.mode ≠ mIsolated ∨ !s.runtime then s
  else
    match op with
    | 1 => s.writeEntry
    | 2 => s.revokeKey
    | 3 => s.writeKeySlot
    | 4 => s.raiseMin s.runningMajor
    | _ => s

/-- WRITE_LIFE_CYCLE_ENTRY. -/
def execWriteLifeCycleEntry (s : State) : Result := .next (s.lcsCommand 1)
/-- REVOKE_IMAGE_KEY_SLOT. -/
def execRevokeImageKeySlot (s : State) : Result := .next (s.lcsCommand 2)
/-- WRITE_IMAGE_KEY_SLOT. -/
def execWriteImageKeySlot (s : State) : Result := .next (s.lcsCommand 3)
/-- RAISE_FWMIN. -/
def execRaiseFwmin (s : State) : Result := .next (s.lcsCommand 4)

end Sys2Proof.Machine
end

