-- ==== Sys2Proof/Machine/ModeCmds.lean ====
section
/-! DEFINITION. The commands of the modes (R37 to R53): supply, BOOT, mode commands, autonomous transitions, latching
faults, and the pending transition. -/

namespace Sys2Proof.Machine

/-! Supply and BOOT -/

/-- The feeds' presence, in the register and in status point 0xFF03. -/
def State.setFeed (s : State) (f : Nat) (on : Bool) : State :=
  let s1 := s.setFlag (if f = 0 then Reg.feedA else Reg.feedB) on
  s1.status spFeeds (goodBits (s1.get Reg.feedA + 2 * s1.get Reg.feedB))

def State.setFeedVolts (s : State) (va vb : BitVec 16) : State := (s.set Reg.feedVa va.toNat).set Reg.feedVb vb.toNat

/-- SUPPLY_RETURN (R461, R463): the supply-return comparator reports at least one feed. -/
def execSupplyReturn (a b : Bool) (s : State) : Result :=
  .next (
    if s.mode = mStore ∧ (a || b) = true then
      let s1 := ({ s with pwr := { s.pwr with wakeHold := some s.tmb.hold } }).incWrap Reg.evrPcycle
      ((s1.setFlag Reg.feedA a).setFlag Reg.feedB b).enterBoot 1 0x01 1
    else s)

/-- BOOT_END (R46 to R49). DESIGN CHOICE (log 20). -/
def execBootEnd (env : BootEnv) (s : State) : Result := .next (if s.mode = mBoot then s.bootEnd env else s)

/-- FEED_DOMAIN_COLLAPSE (R37, R438): transition 2; records still waiting are lost. -/
def execFeedDomainCollapse (s : State) : Result :=
  .next (
    if !s.powered then s
    else
      let s1 := (({ s with hwif := {} }.setFlag Reg.feedA false).setFlag Reg.feedB false).discardPend.transit 2 0x02
      { s1 with evr := { s1.evr with hwq := [], fifo := [], mirror := [] } })

/-- FEEDS_LOW_WARNING (R463): both feeds below 16.0 V, once until a feed returns. -/
def execFeedsLowWarning (va vb : BitVec 16) (s : State) : Result :=
  .next (
    if s.functional ∧ s.pwr.warned = false ∧ va.toNat < 16000 ∧ vb.toNat < 16000 then
      let s1 := s.setFeedVolts va vb
      ({ s1 with pwr := { s1.pwr with warned := true } }).event .feedsLow [va.toNat, vb.toNat]
    else s)

/-- SINGLE_FEED_LOSS (R486): feed 0 A or 1 B, with both voltages. -/
def execSingleFeedLoss (f : Fin 2) (va vb : BitVec 16) (s : State) : Result :=
  .next (
    if s.functional ∧ s.flag (if f.val = 0 then Reg.feedA else Reg.feedB) = true then
      (((s.setFeed f false).setFeedVolts va vb).incSat (if f.val = 0 then Reg.aloss else Reg.bloss)).event .feedLost
        [f.val, va.toNat, vb.toNat]
    else s)

/-- SINGLE_FEED_RETURN (R486). -/
def execSingleFeedReturn (f : Fin 2) (va vb : BitVec 16) (s : State) : Result :=
  .next (
    if s.functional ∧ s.flag (if f.val = 0 then Reg.feedA else Reg.feedB) = false then
      let s1 := (s.setFeed f true).setFeedVolts va vb
      ({ s1 with pwr := { s1.pwr with warned := false } }).event .feedReturned [f.val, va.toNat, vb.toNat]
    else s)

/-! Mode commands (R52) -/

/-- The count of failed joins and the suspension of auto-join end at a join, start or restart command (R43, R44). -/
def State.resetRetries (s : State) : State :=
  { s with md := { s.md with retryCount := 0, autoSusp := false, retryAt := none } }

/-- A command refused in the present mode or by what is pending (R39, R53); `held` is whether a pending set or exchange
refuses it too. DEDUCED (log 16). -/
def State.modeBars (s : State) (modes : List Nat) (held : Bool) : Bool :=
  !modes.contains s.mode || s.md.pend.isSome || s.lcsHolds || (held && s.heldBack)

/-- JOIN. DESIGN CHOICE (log 22). -/
def State.cmdJoin (s : State) : Nat × State :=
  if s.modeBars [mIsolated] true then (stRefused, s)
  else
    let s1 := s.resetRetries
    if s1.joinRefusal = 0 then (stOk, s1.join 0x06) else (stRefused, s1.joinRefused s1.joinRefusal)

/-- START. DESIGN CHOICE (log 22). -/
def State.cmdStart (s : State) : Nat × State :=
  if s.modeBars [mIsolated] false then (stRefused, s)
  else
    let s1 := s.resetRetries
    if s1.startOk then (stOk, s1.claimStart 0x08) else (stRefused, s1.noteWarm)

/-- ISOLATE: transition 10, 17 or 20. -/
def State.cmdIsolate (s : State) : Nat × State :=
  if s.modeBars [mSync, mStandby, mPrimary] true then (stRefused, s)
  else if s.mode = mSync then (stOk, s.syncFail 4 0x12)
  else if s.mode = mStandby then (stOk, s.transit 20 0x12)
  else (stOk, s.atBoundary 17 0x12)

/-- An armed request of a session. DEDUCED (log 17). -/
def State.armOf (s : State) (sess : Nat) : Option Int := (s.md.arms.find? fun a => a.1 == sess).map fun a => a.2

/-- ISOLATE_SOLO: arms, confirms, or is refused (R52). DEDUCED (log 17). -/
def State.cmdIsolateSolo (s : State) (sess : Nat) : Nat × State :=
  let arm (t : State) : State :=
    ({ t with md := { t.md with arms := (sess, t.now) :: t.md.arms } }).event .isolateSoloArmed [sess]
  if s.modeBars [mSolo] false then (stRefused, s)
  else
    match s.armOf sess with
    | none => (stOk, arm s)
    | some t =>
      if s.now < t + 1000000000 then (stRefused, s)
      else if t + 10000000000 < s.now then (stOk, arm (s.disarm fun i => i == sess))
      else
        let s1 := { s with md := { s.md with arms := s.md.arms.filter fun a => a.1 != sess } }
        if s1.heldBack then (stRefused, s1) else (stOk, s1.atBoundary 19 0x12)

/-- SWAP (R243): a proposal that names the next boundary at least 1 ms ahead. -/
def State.cmdSwap (s : State) : Nat × State :=
  if s.modeBars [mPrimary] true ∨ s.partnerMode ≠ mStandby ∨ !s.link.disagreed.isEmpty ∨ s.link.swap.isSome then (stRefused, s)
  else
    let b := s.boundaryAfter (s.now + 999999)
    let q := s.nextSeq ftRole
    let s1 := s.sendRole 2 0 b
    (stOk, { s1 with link := { s1.link with swap := some { seq := q, b := b } } })

/-- RESTART. -/
def State.cmdRestart (s : State) : Nat × State :=
  if s.modeBars [mIsolated] false then (stRefused, s) else (stOk, s.enterBoot 8 0x19 8)

/-- SAFE: transition 21, 24 or 25. -/
def State.cmdSafe (s : State) : Nat × State :=
  if s.modeBars [mIsolated, mSync, mStandby, mPrimary, mSolo] false then (stRefused, s)
  else (stOk, s.transit (if s.mode = mPrimary then 24 else if s.mode = mSolo then 25 else 21) 0x1B)

/-- Minimum role of a mode command. DEDUCED (log 16). -/
def modeRole (v : Nat) : Nat := if v = 4 then rExpert else if v = 5 ∨ v = 7 then rOperate else rEngineer

/-- A mode command in a session (R52, R53): every one is recorded with the client identity and the mode.
DEDUCED (log 16). -/
def State.modeCommand (s : State) (sess : Nat) (c : Caller) (v : Nat) : Nat × State :=
  if v < 1 ∨ 7 < v then (stRange, (s.disarm fun i => i == sess).event .commandRefused [v, c.client, s.mode])
  else if c.role < modeRole v then (stRole, s.event .commandRefused [v, c.client, s.mode])
  else
    let s0 := if v = 4 then s else s.disarm fun i => i == sess
    let r := match v with
      | 1 => s0.cmdJoin
      | 2 => s0.cmdStart
      | 3 => s0.cmdIsolate
      | 4 => s0.cmdIsolateSolo sess
      | 5 => s0.cmdSwap
      | 6 => s0.cmdRestart
      | _ => s0.cmdSafe
    (r.1, r.2.event (if r.1 = stOk then .commandAccepted else .commandRefused) [v, c.client, s.mode])

/-- JOIN. -/
def execJoin (sess : Nat) (s : State) : Result := .next (s.ask sess fun c => s.modeCommand sess c 1)
/-- START. -/
def execStart (sess : Nat) (s : State) : Result := .next (s.ask sess fun c => s.modeCommand sess c 2)
/-- ISOLATE. -/
def execIsolate (sess : Nat) (s : State) : Result := .next (s.ask sess fun c => s.modeCommand sess c 3)
/-- ISOLATE_SOLO. -/
def execIsolateSolo (sess : Nat) (s : State) : Result := .next (s.ask sess fun c => s.modeCommand sess c 4)
/-- SWAP. -/
def execSwap (sess : Nat) (s : State) : Result := .next (s.ask sess fun c => s.modeCommand sess c 5)
/-- RESTART. -/
def execRestart (sess : Nat) (s : State) : Result := .next (s.ask sess fun c => s.modeCommand sess c 6)
/-- SAFE. -/
def execSafe (sess : Nat) (s : State) : Result := .next (s.ask sess fun c => s.modeCommand sess c 7)

/-- ISOLATE_SOLO_LAPSE (R52): 10 s without confirmation. -/
def execIsolateSoloLapse (sess : Nat) (s : State) : Result :=
  .next (
    match s.armOf sess with
    | some t => if t + 10000000000 < s.now then s.disarm fun i => i == sess else s
    | none => s)

/-! Authenticated reset (R45) -/

/-- The reset object: transition 26 when both values equal the module's own; any other write is a reset attempt. -/
def State.authReset (s : State) (c : Caller) (count cause : Nat) : Nat × State :=
  if c.role < rExpert then (stRole, s.event .resetAttempt [count, cause, c.client])
  else if s.mode = mSafe ∧ s.md.pend = none ∧ count = s.get Reg.safeCount ∧ cause = s.get Reg.modeCause then
    (stOk, s.enterBoot 26 0x18 9)
  else (stRefused, s.event .resetAttempt [count, cause, c.client])

/-- AUTHENTICATED_RESET (R45). -/
def execAuthenticatedReset (sess : Nat) (count : BitVec 32) (cause : BitVec 8) (s : State) : Result :=
  .next (s.ask sess fun c => s.authReset c count.toNat cause.toNat)

/-! Requests of the supervisor pair (R51) -/

/-- Cause codes of a transition (R37). -/
def transCauses (num : Nat) : List Nat :=
  match num with
  | 6 => [0x06, 0x07]
  | 7 => [0x08, 0x09]
  | 8 => [0x19]
  | 9 => [0x0A]
  | 10 => [0x0B, 0x12, 0x13]
  | 11 | 15 => [0x1C]
  | 12 => [0x0E]
  | 13 => [0x0C]
  | 14 => [0x11]
  | 16 => [0x0E, 0x10]
  | 17 => [0x12, 0x13]
  | 18 => [0x0F]
  | 19 => [0x12]
  | 20 => [0x10, 0x12, 0x13]
  | 21 => [0x1B]
  | 22 => [0x1A]
  | 24 => [0x1B]
  | 25 => [0x1B, 0x13]
  | _ => []

/-- Both lanes are lost while the partner's toggle is present, and for longer than the settle interval (R239). -/
def State.linkLost (s : State) : Bool := !s.linkUp && s.togglePresent && s.link.settleAt.isNone

/-- The trigger of a requested transition is present (R37). -/
def State.triggerHolds (s : State) (num cause : Nat) : Bool :=
  if cause = 0x13 then s.flag Reg.intentSeen
  else
    match num with
    | 6 => s.joinRefusal == 0
    | 7 => s.startOk
    | 9 => s.link.goAt.isSome
    | 10 => cause == 0x12 || !s.linkUp || !s.partnerControls
    | 11 => (match s.link.swap with | some w => w.confirmed | none => false)
    | 15 => (match s.link.swap with | some w => w.accepted | none => false)
    | 12 => s.linkUp && !s.partnerControls
    | 13 => !s.linkUp && !s.togglePresent
    | 14 => s.get Reg.diagOwn == 1 && s.get Reg.diagPart == 1
    | 16 => if cause = 0x10 then s.linkLost else s.partnerMode != mStandby
    | 18 => s.partnerMode == mStandby
    | 19 => s.md.arms.any fun a => decide (a.2 + 1000000000 ≤ s.now) && decide (s.now ≤ a.2 + 10000000000)
    | 20 => cause == 0x12 || s.linkLost
    | 22 => (match s.link.hb with | some h => h.tripped | none => false)
    | _ => true

/-- Refused by an order rule (R39): a pending transition, and for join, swap and isolate a pending set or exchange.
DEDUCED (log 25). -/
def State.orderBars (s : State) (num cause : Nat) : Bool :=
  s.md.pend.isSome || s.lcsHolds || (s.heldBack && (cause == 0x06 || num == 11 || num == 15 || cause == 0x12))

/-- Transitions that take effect at a boundary (R37). -/
def transAtBoundary (num : Nat) : Bool :=
  num == 11 || num == 12 || num == 13 || num == 14 || num == 15 || num == 17 || num == 18 || num == 19

/-- A write of PWR.MODEREQ with GO (R37, R51). DEDUCED (log 124). -/
def State.modeRequest (s : State) (w : Nat) : State :=
  if !w.testBit 31 then s
  else
    let target := w % 8
    let cause := w / 256 % 256
    let s1 := s.set Reg.reqLasttgt target
    match (List.range 27).find? fun n =>
        (transFrom n).contains s.mode && transTo n == target && (transCauses n).contains cause with
    | none => s1.set Reg.reqRefused 1
    | some n =>
      if s.orderBars n cause ∨ !s.triggerHolds n cause then (if n = 7 then s1.noteWarm else s1).set Reg.reqRefused 1
      else if n = 6 then s1.join cause
      else if n = 7 then s1.claimStart cause
      else if n = 8 then s1.enterBoot 8 cause 8
      else if n = 9 then (match s.link.goAt with | some b => s1.pendTrans 9 cause b | none => s1)
      else if n = 10 then s1.syncFail (if cause = 0x12 then 4 else if cause = 0x13 then 5 else if s.linkUp then 1 else 2) cause
      else if transAtBoundary n then s1.atBoundary n cause
      else s1.transit n cause

/-- MODE_REQUEST (R51): a write of PWR.MODEREQ by the supervisor pair in privileged mode. -/
def execModeRequest (w : BitVec 32) (s : State) : Result := .next (if s.runtime then s.modeRequest w.toNat else s)

/-! Autonomous transitions (R43, R44) -/

/-- Auto-join and auto-start act after this entry into ISOLATED (R43, R44). R44 lets auto-join wait for 10 s after an entry by
cause 0x0B or 0x10; auto-start waits with it. DEDUCED (log 24, 25). DESIGN CHOICE (log 132). -/
def State.autoActs (s : State) : Bool :=
  s.mode == mIsolated && !s.flag Reg.lcsPend && !s.md.autoSusp && s.md.retryAt.isNone && s.md.pend.isNone && s.link.claimOwn.isNone &&
    (s.md.isoNum == 3 || (s.md.isoNum == 10 && s.md.isoCause == 0x0B) || (s.md.isoNum == 20 && s.md.isoCause == 0x10 && s.linkUp))

/-- AUTO_JOIN (R43, R259): an unchanged refusal is neither checked nor recorded again. DESIGN CHOICE (log 22). -/
def execAutoJoin (s : State) : Result :=
  .next (
    if !s.autoActs ∨ s.odNat 0x2000 7 = 0 ∨ s.md.refused = some s.joinView then s
    else if s.joinRefusal = 0 then s.join 0x07
    else
      let s1 := s.joinRefused s.joinRefusal
      { s1 with md := { s1.md with refused := some s.joinView } })

/-- AUTO_START (R43): the solo-start wait has passed since the entry and since a partner was last seen in control.
DEDUCED (log 24). -/
def execAutoStart (s : State) : Result :=
  let wait : Int := (s.odNat 0x2000 8 : Int) * 1000000
  let seen := match s.md.ctlSeen with | some t => s.due (t + wait) | none => true
  .next (
    if s.autoActs ∧ s.odNat 0x2000 7 = 2 ∧ s.due (s.md.isoAt + wait) = true ∧ seen = true ∧ (s.md.isoNum = 20 → s.joinRefusal = 0) then
      (if s.startOk then s.claimStart 0x09 else s.noteWarm)
    else s)

/-- AUTO_JOIN_RETRY_WAIT (R44). -/
def execAutoJoinRetryWait (s : State) : Result :=
  .next (
    match s.md.retryAt with
    | some t => if s.due t then { s with md := { s.md with retryAt := none } } else s
    | none => s)

/-! Latching faults and the boundary -/

/-- Rows of R266 whose reaction is a latching fault, numbered from the top as `OD 5000h.03` does. DEDUCED (log 21). -/
def latchRows : List Nat := [1, 2, 3, 4, 5, 6, 8, 10, 11, 12]

/-- LATCHING_FAULT (R38, R217, R266): a detection by its row of R266; one of the lockstep rows is captured, and its KIND is
one of that row; a time-base fault and an MPU fault show in their blocks. DEDUCED (log 21). -/
def execLatchingFault (d : Detection) (s : State) : Result :=
  let k := d.kind.toNat
  .next (
    if d.row.val ≤ 5 then
      if s.functional ∧ !s.isSplit d.unit ∧ 1 ≤ k ∧ k ≤ 12 ∧ lockRowOf k d.unit = d.row.val then s.tokenFault d.unit k d.iaddr d.priv d.addr.toNat d.lanes 0#72
      else s
    else if d.row.val = 10 ∧ s.functional = true then s.timeFault
    else if d.row.val = 11 ∧ s.functional = true then s.mpuFaultLatch
    else if latchRows.contains d.row.val then s.latch 0x17 d.row.val
    else s)

/-- PENDING_TRANSITION_BOUNDARY (R37): the transition takes effect; a standby that takes control with a safety-related
task at its skip limit trips at once (R131). What the final window of SYNC held takes effect at B before it (R254). -/
def execPendingTransitionBoundary (s : State) : Result :=
  .next (
    match s.md.pend with
    | some p =>
      if !s.due p.at_ then s
      else
        let s1 := s.flushWindow.transit p.num p.cause
        if s.mode = mStandby then s1.skipCheck else s1
    | none => s)

end Sys2Proof.Machine
end

