-- ==== Sys2Proof/Machine/PtpCmds.lean ====
section
/-! DEFINITION. The commands of the time base and of PTP (R336 to R352). -/

namespace Sys2Proof.Machine

/-! Time base -/

/-- TIME_MONITOR_WINDOW (R340): `count` ns of the time base passed in 64 crystal cycles; the copies of the counter differ;
the multiplier has lost its lock. DEDUCED (log 82). -/
def execTimeMonitorWindow (count : BitVec 32) (differ pllLost : Bool) (s : State) : Result :=
  .next (
    if !s.functional then s
    else
      let want : Int := 1953125 + 1953125 * s.rate / 2 ^ 40
      let dev : Int := count.toNat - want
      let bad := decide (2 * 1953125 < 1000 * dev.natAbs)
      let ppm := (saturate (-32768) 32767 (dev * 1000000 / 1953125)).1
      let s1 := s.set Reg.monDev (BitVec.ofInt 16 ppm).toNat
      let run := if bad then min 4 (s.get Reg.tmbMonrun + 1) else 0
      let s2 := s1.set Reg.tmbMonrun run
      let s3 := if bad then s2.incSat Reg.monFails else s2
      let s4 := if pllLost then s3.set Reg.tmbPll 0 else s3
      let copies := differ || s.tmb.sec != s.tmb.copySec || s.tmb.ns != s.tmb.copyNs
      if copies || pllLost || run == 4 then (if s4.flag Reg.tmbFault then s4 else s4.timeFault) else s4)

/-- A write of TMB.STEPCTL (R345, R356). -/
def State.stepctlWrite (s : State) (w : Nat) : State :=
  let s1 := if w.testBit 1 then s.set Reg.stepRefused 0 else s
  if w.testBit 0 then s1.stepGo (w / 16 % 4) (if w / 16 % 4 = 3 then s.tmb.armClient else 0) else s1

/-- TIME_STEP (R345, R346). -/
def execTimeStep (w : BitVec 32) (s : State) : Result := .next (if s.functional then s.stepctlWrite w.toNat else s)

/-- An armed step (R345). -/
def State.stepArm (s : State) (c : Caller) : Nat × State :=
  if c.role < rExpert then (stRole, s)
  else if s.mode ≠ mIsolated then (stMode, s)
  else
    let s1 := s.set Reg.tmbArmed 1
    (stOk, { s1 with tmb := { s1.tmb with armClient := c.client } }.event .stepArmed [c.client])

/-- ARM_ONE_STEP (R345). -/
def execArmOneStep (sess : Nat) (s : State) : Result := .next (s.request sess fun c => s.stepArm c)

/-- RATE_WRITE (R336). -/
def execRateWrite (w : BitVec 32) (s : State) : Result := .next (if s.functional then s.rateWrite w.toNat else s)

/-- A read of TMB.NOWSL latches S, N and F (R337). -/
def State.timeLatch (s : State) : State :=
  (((s.set Reg.nowsl s.tmb.sec).set Reg.nowsh (s.tmb.sec / 2 ^ 32)).set Reg.nowns s.tmb.ns).set Reg.nowfr s.tmb.frac

/-- TIME_LATCH_READ (R337). -/
def execTimeLatchRead (s : State) : Result :=
  .next (
    if s.functional then
      let s1 := s.timeLatch
      s1.emit (.read 0xF0060001 (goodInt (s1.get Reg.nowsl)))
    else s)

/-! PTP messages -/

/-- A PTP message in a frame on a port: queue 3, multicast (R313, R347). -/
def State.ptpPut (s : State) (p : Nat) (launch : Option Int) (m : Bytes) : State :=
  let ty := ptpType m
  let peer := ty == 2 || ty == 3
  let pcp := s.get Reg.ptpPcp
  let f :=
    if s.get Reg.ptpMap = 0 then
      s.etherFrame p (if peer then [0x01#8, 0x80#8, 0xC2#8, 0#8, 0#8, 0x0E#8] else [0x01#8, 0x1B#8, 0x19#8, 0#8, 0#8, 0#8]) pcp 0x88F7 m
    else
      let port := be16 (if ty < 8 then 319 else 320)
      let dst := if peer then 0xE000006B else 0xE0000181
      let udp := port ++ port ++ be16 (8 + m.length) ++ be16 0 ++ m
      s.etherFrame p ([0x01#8, 0x00#8, 0x5E#8] ++ (leBytes 3 (dst % 2 ^ 23)).reverse) pcp 0x0800 (s.ipPacket 17 (s.addrOf p) dst udp)
  ({ s with free := s.free + 1 }).netPut p ⟨3, launch, f, []⟩

def State.nextPtpSeq (s : State) : State := { s with ptp := { s.ptp with seq := (s.ptp.seq + 1) % 65536 } }

/-- An answer to Delay_Req on a port in MASTER, and to Pdelay_Req in every mode (R347, R349). -/
def State.ptpAnswer (s : State) (p : Nat) (m : Bytes) (t : Int) : State :=
  let who := (m.drop 20).take 10
  if ptpType m = 1 then
    if s.portState p = 6 ∧ s.get Reg.ptpProfile = 0 then
      s.ptpPut p none (s.ptpMsg p 9 0 (ptpCorr m) (ptpSeq m) 3 s.logDelay (ptpStamp t ++ who))
    else s
  else if s.get Reg.ptpProfile = 1 then s.ptpPut p none (s.ptpMsg p 3 0 (ptpCorr m) (ptpSeq m) 5 127 (ptpStamp t ++ who))
  else s

/-- A PTP message received on a port at a MAC timestamp. -/
def State.ptpReceive (s : State) (p : Nat) (m : Bytes) (raw : Int) : State :=
  let ty := ptpType m
  let t := s.rxStamp p raw
  if !s.ptpReads m then s
  else if ty = 12 ∨ ty = 13 then s.ptpDiscard 1
  else
    let s1 := s.ptpDiscard (badTlvs 64 ((m.take (beNat m 2 2)).drop (ptpLen ty)))
    match ty with
    | 0 => s1.ptpSync p m t
    | 1 => s1.ptpAnswer p m t
    | 2 => s1.ptpAnswer p m t
    | 3 => s1.ptpPdelayResp p m t
    | 8 => s1.ptpFollowUp p m
    | 9 => s1.ptpDelayResp p m
    | 10 => s1.ptpPdelayFollowUp p m
    | 11 => s1.ptpAnnounce p m
    | _ => s1

/-- PTP_MESSAGE_RECEIVE (R342, R347 to R351): the message and the timestamp that the MAC took. -/
def execPtpMessageReceive (port : Fin 2) (m : Bytes) (raw : Int) (s : State) : Result :=
  .next (if s.functional then s.ptpReceive port m raw else s)

/-- ANNOUNCE_RECEIPT_TIMEOUT (R342). -/
def execAnnounceReceiptTimeout (port : Fin 2) (s : State) : Result :=
  .next (if s.functional ∧ s.flag Reg.ptpEn = true then s.ptpTimeout port else s)

/-- SYNC_TRANSMIT (R349): a Sync with the next whole multiple of the sync interval as its launch time, once. -/
def execSyncTransmit (port : Fin 2) (s : State) : Result :=
  .next (
    let p := port.val
    let t := gridCeil s.syncNs 0 s.now
    let queued := (s.netQueue p).any fun f => f.queue == 3 && f.launch == some t
    if !s.inControl ∨ s.portState p ≠ 6 ∨ queued = true then s
    else
      let s1 := s.nextPtpSeq
      s1.ptpPut p (some t) (s1.ptpMsg p 0 0 0 s1.ptp.seq 0 s.logSync (List.replicate 10 0#8)))

/-- An interval of a port's messages has passed since the last one (R347). -/
def State.intervalOver (s : State) (last : SMap Nat) (p n : Nat) : Bool :=
  match SMap.find last p with
  | some t => decide (t + n ≤ s.tmb.run)
  | none => true

/-- ANNOUNCE_TRANSMIT (R347, R349): once an announce interval; own data with clockClass 248 and timeSource 0xA0, or the
master's with one step more. -/
def execAnnounceTransmit (port : Fin 2) (s : State) : Result :=
  .next (
    let p := port.val
    if !s.inControl ∨ s.portState p ≠ 6 ∨ s.intervalOver s.ptp.annAt p s.announceNs = false then s
    else
      let own := (s.ownRank, 0, 0xA0)
      let d : List Nat × Nat × Nat := if s.ownBetter then own else
        match s.bestMaster with
        | some b => (b.rank, b.rank.getD 6 0 + 1, b.source)
        | none => own
      let be (n v : Nat) : Bytes := (leBytes n v).reverse
      let g (i : Nat) : Nat := d.1.getD i 0
      let body := List.replicate 10 0#8 ++ be 2 (s.get Reg.ptpUtc) ++ [0#8] ++ be 1 (g 0) ++ be 1 (g 1) ++ be 1 (g 2) ++ be 2 (g 3)
        ++ be 1 (g 4) ++ be 8 (g 5) ++ be 2 d.2.1 ++ be 1 d.2.2
      let s0 := { s with ptp := { s.ptp with annAt := SMap.set s.ptp.annAt p s.tmb.run } }
      let s1 := (if s0.get (Reg.ptpPort p) = 6 then s0 else s0.ptpDecide).nextPtpSeq
      s1.ptpPut p none (s1.ptpMsg p 11 (8 + 4 * s.get Reg.ptpUtcValid) 0 s1.ptp.seq 5 s.logAnnounce body))

/-- DELAY_REQUEST_TRANSMIT (R347, R349, R351): Delay_Req from a port that follows a master, Pdelay_Req with peer delay, once
the least interval has passed. -/
def execDelayRequestTransmit (port : Fin 2) (s : State) : Result :=
  .next (
    let p := port.val
    let k := s.portState p
    let s0 := { s with ptp := { s.ptp with reqAt := SMap.set s.ptp.reqAt p s.tmb.run } }
    let s1 := s0.nextPtpSeq
    if !s.functional ∨ s.flag Reg.ptpEn = false ∨ s.intervalOver s.ptp.reqAt p (logNs s.logDelay) = false then s
    else if s.get Reg.ptpProfile = 1 then
      s1.ptpPut p none (s1.ptpMsg p 2 0 (-(s.asym p) * 65536) s1.ptp.seq 5 127 (List.replicate 20 0#8))
    else if k = 8 ∨ k = 9 then
      s1.ptpPut p none (s1.ptpMsg p 1 0 (-(s.asym p) * 65536) s1.ptp.seq 1 127 (List.replicate 10 0#8))
    else s)

end Sys2Proof.Machine
end

