-- ==== Sys2Proof/Machine/XchCmds.lean ====
section
/-! DEFINITION. The commands of program exchange (R175, R180 to R192, R199, R201). A command that the partner of a pair
hands on after accepting it (`partner`) is run on the standby's side. -/

namespace Sys2Proof.Machine

/-- A command's mode: `modes` for the module itself, STANDBY for one that the partner hands on. -/
def State.xchMode (s : State) (partner : Bool) (modes : List Nat) : Bool :=
  if partner then s.mode == mStandby else modes.contains s.mode

/-- A transfer, load, yearling run, pre-copy or window is in progress: commands that would disturb it are refused.
DESIGN CHOICE (log 109). -/
def State.xchBusy (s : State) : Bool :=
  let k := s.get Reg.xchState
  k == 1 || k == 2 || (decide (4 ≤ k) && decide (k ≤ 8) && k != 6)

/-- The image of the idle slot, if it holds a valid one. -/
def State.idleImg (s : State) : Option Image := if s.slotValid s.idleSlot then s.imgOf s.idleSlot else none

/-- An enabled task in either image that the configuration or the image marks safety-related (R185, R280). -/
def State.safetyImages (s : State) : Bool :=
  [s.activeImg, s.idleImg].any fun g => (s.taskPars g).any fun t =>
    t.safety || (match g with | some m => (match m.taskOf t.num with | some d => d.safety | none => false) | none => false)

/-- LOAD (R175). DEDUCED (log 51). -/
def State.xchLoad (s : State) (partner : Bool) : Except Nat State :=
  if !s.xchMode partner [mIsolated, mPrimary] ∨ s.xchBusy then .error 0x0C else .ok s.loadIdle

/-- The task set of an image is admitted under a configuration (R116, R122, R123). -/
def State.admits (s : State) (g : Image) : Bool :=
  let l := s.taskPars (some g)
  (l.all fun t => t.limits (s.get Reg.splitMask)) && admitted l (s.get Reg.splitMask)

/-- The same under the companion set that goes with it. -/
def State.admitsWith (s : State) (companion : Bool) (g : Image) : Bool :=
  (if companion && s.tarn.state == 4 then { s with cfg := s.candidate } else s).admits g

/-- ACTIVATE (R123, R199): a task set that the configuration now does not admit is refused. DEDUCED (log 55). -/
def State.xchActivate (s : State) : Except Nat State :=
  let slot := s.idleSlot
  let ret (l : List MapEntry) : List MapEntry := l.filter fun e => areaOf e.dst == .retentive
  let done (t : State) : State := (((t.takeImage slot []).bootSlotRecord slot).event .activated [slot]).sendManifest
  if s.mode ≠ mIsolated ∨ s.xchBusy then .error 0x0C
  else
    match s.idleImg with
    | none => .error 0x09
    | some m =>
      match s.activeImg with
      | none => if s.admits m then .ok (done (s.headerInvalid slot)) else .error 0x07
      | some a =>
        if m.pred ≠ a.ident ∧ a.pred ≠ m.ident then .error 0x08
        else if !s.admits m then .error 0x07
        else
          let l := ret (if m.pred = a.ident then m.fwd else a.rev)
          let s1 := (s.applyMap m l).headerCurrent slot m
          .ok ((done s1).each (l.filter fun e => e.log) fun e t => t.event .mapReport [e.decl])

/-- The tasks of the trial set: the active ones, and each trial task at the lowest priority on its pair (R180). -/
def State.trialSet (s : State) (m : Image) : List TaskPar :=
  s.taskPars s.activeImg ++ (s.taskPars (some m)).map fun t =>
    { t with num := t.num + 32, pair := match m.taskOf t.num with | some d => d.pair | none => t.pair }

/-- Report entries of the tasks that are not tried (R180). DEDUCED (log 54). -/
def State.notTried (s : State) (m : Image) : List RepEntry :=
  (m.tasks.filter fun d => s.odNat (0x2110 + d.task) 1 == 0).flatMap fun d =>
    d.outs.map fun o => ⟨o.1, 0x40, 0, 0, ⟨0#64, 0#8⟩, ⟨0#64, 0#8⟩, 0⟩

/-- A yearling run begins; the standby applies the map in a pre-copy, after which stores to its sources become dirty (R181).
DEDUCED (log 110). -/
def State.trialBegin (s : State) (m : Image) : State :=
  let s1 := { s with xch := { s.xch with
    trialGen := s.generation, trial := (s.taskPars (some m)).map (fun (t : TaskPar) => (t.num, (0, 0))), ran := false, void := false,
    take := none, takeAt := none, report := s.notTried m, overPoints := [] } }
  let s2 := if s.mode = mStandby then
      let u := s1.applyMap m m.fwd
      { u with xch := { u.xch with take := some [] } }
    else s1
  ((((s2.set Reg.xchDiff 0).set Reg.trialDone 0).showReport).setXch 4 0).event .trialStarted [m.ident]

/-- TRIAL_START (R180). -/
def State.xchTrialStart (s : State) (partner : Bool) : Except Nat State :=
  if !s.xchMode partner [mPrimary] ∨ s.xchBusy ∨ (!partner ∧ s.partnerMode ≠ mStandby) ∨ s.setPending ∨ s.exchPending then .error 0x0C
  else
    match s.idleImg, s.activeImg with
    | some m, some a =>
      let same := match s.link.manifest with
        | some p => if s.idleSlot = 0 then p.aValid && p.idA == m.ident else p.bValid && p.idB == m.ident
        | none => false
      if !same then .error 0x09
      else if m.pred ≠ a.ident then .error 0x08
      else if !admitted (s.trialSet m) (s.get Reg.splitMask) then .error 0x07
      else .ok (s.trialBegin m)
    | _, _ => .error 0x09

/-- TRIAL_ABORT (R184). -/
def State.xchTrialAbort (s : State) (partner : Bool) : Except Nat State :=
  let k := s.get Reg.xchState
  if !s.xchMode partner [mPrimary, mStandby] ∨ (k ≠ 4 ∧ k ≠ 5) then .error 0x0C else .ok s.endTrial

/-- The pre-copy begins: the whole map is applied, and later stores to its sources become dirty (R186).
DEDUCED (log 53). -/
def State.exchBegin (s : State) (m : Image) (x : Exch) : State :=
  let s1 := { s with xch := { s.xch with exch := some x } }
  ((s1.applyMap m s1.exchMap).setDirty []).setXch 7 0 |>.event .exchangeAccepted [if x.rollback then 1 else 0, x.client]

/-- No set is pending, other than a companion set that the request flags (R185). -/
def State.companionOk (s : State) (companion : Bool) : Bool :=
  !s.setPending || (companion && s.tarn.companion)

/-- EXCHANGE (R185). -/
def State.xchExchange (s : State) (partner companion : Bool) (client seq diff : Nat) (earliest : Int) : Except Nat State :=
  if !s.xchMode partner [mPrimary] ∨ (!partner ∧ s.partnerMode ≠ mStandby) ∨ s.exchPending ∨ s.xchBusy ∨ !s.xch.ran ∨ s.xch.void
      ∨ !s.companionOk companion then .error 0x0C
  else
    match s.idleImg, s.activeImg with
    | some m, some a =>
      if seq ≠ s.get Reg.repSeq ∨ diff ≠ s.get Reg.xchDiff then .error 0x0A
      else if m.pred ≠ a.ident then .error 0x08
      else if !s.admitsWith companion m then .error 0x07
      else .ok (s.exchBegin m ⟨false, companion, client, earliest, false, [], false, false⟩)
    | _, _ => .error 0x09

/-- EXCHANGE_ABORT (R190): before W. -/
def State.xchAbort (s : State) (partner : Bool) : Except Nat State :=
  if !s.xchMode partner [mPrimary] ∨ !s.exchPending ∨ s.drv.window.isSome then .error 0x0C else .ok (s.endExchange 0)

/-- ROLLBACK (R191). DEDUCED (log 53). -/
def State.xchRollback (s : State) (partner companion : Bool) (client seq diff : Nat) (earliest : Int) : Except Nat State :=
  if !s.xchMode partner [mPrimary] ∨ (!partner ∧ s.partnerMode ≠ mStandby) ∨ s.exchPending ∨ s.xchBusy ∨ !s.flag Reg.xchRollbk
      ∨ !s.companionOk companion then .error 0x0C
  else
    match s.idleImg, s.activeImg with
    | some m, some a =>
      if seq ≠ 0 ∨ diff ≠ 0 then .error 0x0A
      else if a.pred ≠ m.ident then .error 0x08
      else if !s.admitsWith companion m then .error 0x07
      else .ok (s.exchBegin m ⟨true, companion, client, earliest, false, [], false, false⟩)
    | _, _ => .error 0x09

/-- RELEASE (R192). -/
def State.xchRelease (s : State) (partner : Bool) : Except Nat State :=
  if !s.xchMode partner [mIsolated, mPrimary, mSolo] ∨ s.xchBusy then .error 0x0C
  else .ok (((s.set Reg.xchRollbk 0).headerInvalid s.idleSlot).showFree.event .slotReleased [s.idleSlot])

/-- A command's record: client, mode, identities of both slots (R201), and its outcome. -/
def State.xchDone (s : State) (c : Caller) (op : Nat) (role : Nat) (partner : Bool) (r : Except Nat State) : Nat × State :=
  let args (e : Nat) : List Int := [op, c.client, s.mode, s.slotIdent 0, s.slotIdent 1, e]
  if !partner ∧ s.lcsHolds then (stRefused, s.event .commandRefused (args 0))
  else if !partner ∧ c.role < role then (stRole, s.event .commandRefused (args 0))
  else
    match r with
    | .error e => (stRefused, (s.set Reg.xchErr e).event .commandRefused (args e))
    | .ok t => (stOk, t.event .commandAccepted (args 0))

/-- An exchange command of a client (R201), by its value. DEDUCED (log 51). -/
def State.xchCommand (s : State) (c : Caller) (partner : Bool) (op : Nat) (companion : Bool) (seq diff : Nat) (earliest : Int) :
    Nat × State :=
  let strict := if s.safetyImages then rExpert else rEngineer
  match op with
  | 1 => s.xchDone c 1 rEngineer partner (s.xchLoad partner)
  | 2 => s.xchDone c 2 rEngineer partner s.xchActivate
  | 3 => s.xchDone c 3 rEngineer partner (s.xchTrialStart partner)
  | 4 => s.xchDone c 4 rEngineer partner (s.xchTrialAbort partner)
  | 5 => s.xchDone c 5 strict partner (s.xchExchange partner companion c.client seq diff earliest)
  | 6 => s.xchDone c 6 rEngineer partner (s.xchAbort partner)
  | 7 => s.xchDone c 7 strict partner (s.xchRollback partner companion c.client seq diff earliest)
  | 8 => s.xchDone c 8 rEngineer partner (s.xchRelease partner)
  | _ => (stRange, s.event .commandRefused [op, c.client, s.mode, s.slotIdent 0, s.slotIdent 1, 0])

/-- A command on this module: a client's request in a session, or the partner's. DEDUCED (log 52). -/
def State.xchRequest (s : State) (sess : Nat) (partner : Bool) (f : Caller → Nat × State) : State :=
  if !s.runtime then s
  else if partner then (f ⟨rExpert, 0⟩).2
  else s.ask sess f

/-- LOAD. -/
def execLoad (sess : Nat) (partner : Bool) (s : State) : Result :=
  .next (s.xchRequest sess partner fun c => s.xchCommand c partner 1 false 0 0 0)

/-- PARTNER_LOAD_REPORT_TIMEOUT (R175). DEDUCED (log 52). -/
def execPartnerLoadReportTimeout (s : State) : Result :=
  .next (
    match s.xch.loadAt with
    | some t => if s.due (t + 5000000000) then s.loadFail 0x0E else s
    | none => s)

/-- ACTIVATE. -/
def execActivate (sess : Nat) (s : State) : Result := .next (s.xchRequest sess false fun c => s.xchCommand c false 2 false 0 0 0)

/-- TRIAL_START. -/
def execTrialStart (sess : Nat) (partner : Bool) (s : State) : Result :=
  .next (s.xchRequest sess partner fun c => s.xchCommand c partner 3 false 0 0 0)

/-- TRIAL_ABORT. -/
def execTrialAbort (sess : Nat) (partner : Bool) (s : State) : Result :=
  .next (s.xchRequest sess partner fun c => s.xchCommand c partner 4 false 0 0 0)

/-- EXCHANGE: report sequence, differing points, earliest instant and companion flag of the request. -/
def execExchange (sess : Nat) (partner companion : Bool) (seq : BitVec 16) (diff : BitVec 32) (earliest : Int) (s : State) : Result :=
  .next (s.xchRequest sess partner fun c => s.xchCommand c partner 5 companion seq.toNat diff.toNat earliest)

/-- EXCHANGE_ABORT. -/
def execExchangeAbort (sess : Nat) (partner : Bool) (s : State) : Result :=
  .next (s.xchRequest sess partner fun c => s.xchCommand c partner 6 false 0 0 0)

/-- ROLLBACK. -/
def execRollback (sess : Nat) (partner companion : Bool) (seq : BitVec 16) (diff : BitVec 32) (earliest : Int) (s : State) : Result :=
  .next (s.xchRequest sess partner fun c => s.xchCommand c partner 7 companion seq.toNat diff.toNat earliest)

/-- RELEASE_SLOT. -/
def execReleaseSlot (sess : Nat) (partner : Bool) (s : State) : Result :=
  .next (s.xchRequest sess partner fun c => s.xchCommand c partner 8 false 0 0 0)

/-- The window of the trial state (R181, R187): at B − 20 µs of a boundary that qualifies, with a dirty load that fits.
DEDUCED (log 110). -/
def State.takeWindow (s : State) (l : List Nat) (b : Int) : State :=
  let r := (l.filter (dirtyRet s.takeMap)).length
  if s.qualifies = true ∧ l.length - r + 40 * r ≤ 700 then
    let u := s.each l fun a t => t.copyTake a
    { u with xch := { u.xch with take := some [], takeAt := some b } }
  else s

/-- TRIAL_STATE_TAKE (R181): at B − 20 µs the standby copies the words that are still dirty, and at B trial cycles may begin; words
stored to in the window put the boundary off. DEDUCED (log 110). -/
def execTrialStateTake (s : State) : Result :=
  .next (
    if s.mode ≠ mStandby ∨ s.get Reg.xchState ≠ 4 then s
    else
      match s.xch.take, s.xch.takeAt with
      | some l, none => (match s.windowDue with | some b => s.takeWindow l b | none => s)
      | some l, some b =>
        if !s.due b then s
        else
          let s1 := { s with xch := { s.xch with takeAt := none } }
          if l.isEmpty then ({ s1 with xch := { s1.xch with take := none } }).setXch 5 0 else s1
      | none, _ => s)

/-- PRECOPY_FIRST_PASS_END (R186). DEDUCED (log 53). -/
def execPrecopyFirstPassEnd (s : State) : Result :=
  .next (
    match s.xch.exch with
    | some x =>
      if x.firstPass then s
      else ({ s with xch := { s.xch with exch := some { x with firstPass := true } } }).weirArm 1 x.earliest
    | none => s)

/-- URGENT_END_KEEP_COPY (R189): the stores to KEEP sources are copied, the others are lost and recorded, the pair
takes the new slot, and a task of the new image that has waited for the copy starts. DEDUCED (log 42). -/
def execUrgentEndKeepCopy (pair : Fin 12) (s : State) : Result :=
  let here := (s.placesOf pair).filter fun p => s.xch.keep.contains p && !s.urgentAt p
  .next (
    if here.isEmpty then s
    else
      let s1 := s.each s.xch.keepStores fun e t =>
        match mapEntryOf s.xch.keepMap e.1 with
        | some (m, i) => if m.kind = 1 then t.store (m.dst + i) e.2 else t.event .mapReport [m.decl, e.1]
        | none =>
          if s.xch.keepMap.any fun m => m.kind == 4 && decide (m.src ≤ e.1) && decide (e.1 < m.src + m.len) then t.event .mapReport [0, e.1]
          else t
      let left := s.xch.keep.filter fun p => !here.contains p
      let s2 := { s1 with xch := { s1.xch with keep := left, keepStores := [], keepMap := if left.isEmpty then [] else s1.xch.keepMap } }
      s2.each here fun p t =>
        let u := (t.onPlace p fun c => { c with slot := s.activeSlot == 1 }).runPending p
        match u.nextWaiting p with | some n => u.startLogic n | none => u)

end Sys2Proof.Machine
end

