-- ==== Sys2Proof/Machine/VopOps.lean ====
section
/-! DEFINITION. VOP services (R283 to R290, R324 to R332, R450, R451): writes by object, segmented transfers, event reads,
requests and their responses. -/

namespace Sys2Proof.Machine

/-! Writes -/

/-- Modes in which an object is written, where its chapter restricts them (R290). DEDUCED (log 65). -/
def odModes (r : OdRow) (i k : Nat) : List Nat :=
  let all := [mIsolated, mSync, mStandby, mPrimary, mSolo, mSafe]
  if r.acc = .st ∨ i = 0x2140 ∨ (0x6000 ≤ i ∧ i < 0x6100) then [mIsolated, mPrimary, mSolo]
  else if r.acc = .lv then [mIsolated, mSync, mStandby, mPrimary, mSolo]
  else if i = 0x1200 ∨ i = 0x3200 ∨ i = 0x3400 ∨ (i = 0x2C00 ∧ k ≠ 1) then [mIsolated]
  else if i = 0x2C00 then [mIsolated, mStandby, mPrimary, mSolo]
  else if i = 0x2B00 ∧ k = 4 then [mIsolated, mPrimary]
  else all

/-- Lane retrain (R263): refused whole where it would take the last lane. DEDUCED (log 78). -/
def State.retrainMask (s : State) (v : Nat) : Nat × State :=
  let lanes := [0, 1].filter fun l => v.testBit l
  if lanes.any fun l => !(s.laneUp (1 - l)) || lanes.contains (1 - l) then (stRefused, s)
  else (stOk, s.each lanes fun l t => t.retrain l)

/-- An exchange request's 16 bytes (R201); flags that the spec does not define are refused. DESIGN CHOICE (log 111). -/
def State.xchBytes (s : State) (c : Caller) (b : Bytes) : Nat × State :=
  let f (o n : Nat) : Nat := leNat ((b.drop o).take n)
  if b.length ≠ 16 then (if c.role < rEngineer then stRole else stType, s)
  else if 1 < f 1 1 ∧ rEngineer ≤ c.role ∧ s.lcsHolds = false then (stRange, s.event .commandRefused [f 0 1, c.client, s.mode, s.slotIdent 0, s.slotIdent 1, 0])
  else s.xchCommand c false (f 0 1) (f 1 1 == 1) (f 2 2) (f 4 4) (BitVec.ofNat 64 (f 8 8)).toInt

/-- The effect of a write of an object that needs no more than role, mode, type and range. DEDUCED (log 65, 75). -/
def State.plainWrite (s : State) (c : Caller) (i k : Nat) (b : Bytes) : Nat × State :=
  let v := leNat b
  if i = 0x3200 then (stOk, s.injectionStart v)
  else if i = 0x3300 then s.retrainMask v
  else if i = 0x3400 then s.stepArm c
  else if i = 0x2800 then (stOk, s.set Reg.vioValid 0)
  else if i = 0x2140 then (if k = 2 then s.forceRemove c v else s.forceRemoveAll c)
  else if i = 0x1200 ∧ k = 6 then s.enrol c b
  else if i = 0x1200 ∧ k = 7 then s.anchorWrite c b
  else if i = 0x1200 ∧ k = 8 then s.certWrite c b
  else if i = 0x2C00 ∧ k = 1 then s.firmwareWrite c b
  else if i = 0x2C00 ∧ k = 2 then s.firmwareSelect c v
  else if i = 0x2C00 then s.minimumRaise c
  else if 0x8000 ≤ i ∧ i < 0x8100 then (stOk, s.canRecoverWrite ((i - 0x8000) / 16))
  else if 0x8200 ≤ i ∧ i < 0x8280 then (stOk, s.aiClear ((i - 0x8200) / 16))
  else (stRefused, s)

/-- A write of an object in a session (R287, R288, R290). The image transfer is segmented only (R201); requests other
than reads are refused while a life-cycle change is in progress (R477). DEDUCED (log 25, 65). -/
def State.odWrite (s : State) (sess : Nat) (c : Caller) (i k : Nat) (b : Bytes) : Nat × State :=
  match odFind i k with
  | none => (stNoObject, s)
  | some r =>
    if r.acc = .ro then (stReadOnly, s)
    else if i = 0x2000 ∧ k = 4 ∧ r.ty.encodes b = true then s.modeCommand sess c (leNat b)
    else if i = 0x2000 ∧ k = 5 ∧ b.length = 5 then s.authReset c (leNat (b.take 4)) (leNat (b.drop 4))
    else if i = 0x2000 ∧ k = 5 then ((if c.role < rExpert then stRole else stType), s.event .resetAttempt [0, 0, c.client])
    else if i = 0x2B00 ∧ k = 5 then s.xchBytes c b
    else if s.lcsHolds then (stRefused, s)
    else if i = 0x1200 ∧ k = 3 then s.lifeRequest c b 6
    else if r.acc = .st then s.stageWrite c r i k b
    else if r.acc = .lv then s.liveWrite c r i k b
    else if r.acc = .rb then s.forceRequest c ((i - 0x6000) * 256 + k) b
    else if c.role < r.role then (stRole, s)
    else if !(odModes r i k).contains s.mode then (stMode, s)
    else if i = 0x4000 then s.commitBytes c b
    else if i = 0x4020 then s.groupWrite c b
    else
      match r.refuses k b with
      | some e => (e, s)
      | none => s.plainWrite c i k b

/-! Segmented transfers (R174, R330) -/

/-- SEG_INIT: the total length, with the role and mode rules of a write. DEDUCED (log 25, 75). -/
def State.segInit (s : State) (sess : Nat) (c : Caller) (i k : Nat) (b : Bytes) : Nat × State :=
  let image := i = 0x2B00 ∧ k = 4
  if b.length ≠ 4 then (stType, s)
  else if s.net.transfer.isSome then (stBusy, s)
  else
    match odFind i k with
    | none => (stNoObject, s)
    | some r =>
      if r.acc = .ro then (stReadOnly, s)
      else if c.role < r.role then (stRole, s)
      else if !(odModes r i k).contains s.mode then (stMode, s)
      else if s.lcsHolds ∨ (image ∧ (s.flag Reg.xchFree = false ∨ (4 ≤ s.get Reg.xchState ∧ s.get Reg.xchState ≤ 8))) then (stRefused, s)
      else if leNat b = 0 then (stRange, s)
      else
        let s1 := { s with net := { s.net with transfer := some (Transfer.mk sess i k (leNat b) [] 0 s.now) } }
        if image then
          (stOk, ((({ s1 with xch := { s1.xch with ran := false } }).setFlashFile (2 + s.idleSlot) []).set Reg.xchState 1).showFree)
        else (stOk, s1)

/-- In PRIMARY the bytes of an image go to a partner in STANDBY as they come, in whole words (R174, R234).
DEDUCED (log 63). -/
def State.forwardSegment (s : State) (t : Transfer) (old : Nat) : State :=
  let hi := if t.got.length = t.total then t.total else t.got.length / 8 * 8
  let lo := old / 8 * 8
  if t.index ≠ 0x2B00 ∨ t.sub ≠ 4 ∨ s.mode ≠ mPrimary ∨ s.partnerMode ≠ mStandby ∨ hi ≤ lo then s
  else
    (s.sendSet ftObject 0 (objectParts 1 t.total t.parts [(t.got.take hi).drop lo])) |> fun u =>
      { u with net := { u.net with transfer := some { t with parts := t.parts + 1 } } }

/-- SEG_DATA: an offset equal to the bytes already received. DEDUCED (log 75). -/
def State.segData (s : State) (sess : Nat) (i k : Nat) (b : Bytes) : Nat × State :=
  match s.net.transfer with
  | none => (stAbandoned, s)
  | some t =>
    let n := t.got.length
    if t.session ≠ sess then (stBusy, s)
    else if t.index ≠ i ∨ t.sub ≠ k then (stAbandoned, s)
    else if b.length < 5 ∨ 1020 < b.length then (stType, s)
    else if leNat (b.take 4) ≠ n then (stSequence, s)
    else if t.total < n + (b.length - 4) then (stRange, s)
    else
      let u : Transfer := { t with got := t.got ++ b.drop 4, at_ := s.now }
      (stOk, ({ s with net := { s.net with transfer := some u } }).forwardSegment u n)

/-- SEG_END: the write, when every byte has come. DEDUCED (log 75). -/
def State.segEnd (s : State) (sess : Nat) (c : Caller) (i k : Nat) (b : Bytes) : Nat × State :=
  match s.net.transfer with
  | none => (stAbandoned, s)
  | some t =>
    if t.session ≠ sess then (stBusy, s)
    else if t.index ≠ i ∨ t.sub ≠ k then (stAbandoned, s)
    else if !b.isEmpty then (stProtocol, s)
    else if t.got.length ≠ t.total then (stRange, s.dropTransfer)
    else
      let s1 := { s with net := { s.net with transfer := none } }
      if i = 0x2B00 ∧ k = 4 then (stOk, (((s1.setFlashFile (2 + s.idleSlot) t.got).markFlash (2 + s.idleSlot) false).set Reg.xchState 0).showFree)
      else s1.odWrite sess c i k t.got

/-! EVENT_READ (R448, R450, R451) -/

/-- What an event read has found so far: cursor and offset to go on at, record bytes, flags LOST 1, END 2, SCAN 4,
DAMAGED 8. DEDUCED (log 79). -/
structure EvScan where
  cursor : Nat
  offset : Nat
  bytes : Bytes
  flags : Nat

/-- Skip a damaged run, not past the head. DEDUCED (log 79). -/
def State.skipTo (s : State) (c n : Nat) : Nat :=
  let left := (s.get Reg.evrHead + 2 ^ 32 - c) % 2 ^ 32
  curAdd c (min n left)

/-- Records from a cursor on, until the head, a full response, or 65,536 records; a record with a damaged word is skipped, by
its LEN where the first word can be read, else to the next segment (R448). DEDUCED (log 79). -/
def State.scanEvents (s : State) (classes origins : Nat) : Nat → EvScan → EvScan × State
  | 0, x => ({ x with flags := x.flags ||| 4 }, s)
  | fuel + 1, x =>
    let c := x.cursor
    if c = s.get Reg.evrHead then ({ x with flags := x.flags ||| 2 }, s)
    else
      let a := ringBase + curOfs c
      match s.eccRead (agLoad 12) a with
      | (none, s1) =>
        State.scanEvents s1 classes origins fuel
          { x with cursor := s.skipTo c (2048 - curOfs c % 2048), offset := 0, flags := x.flags ||| 8 }
      | (some h, s1) =>
        let len := h.val.toNat % 65536
        let n := recWords len
        if len < 16 ∨ 2048 < curOfs c % 2048 + n then
          State.scanEvents s1 classes origins fuel
            { x with cursor := s.skipTo c (2048 - curOfs c % 2048), offset := 0, flags := x.flags ||| 8 }
        else
          match s1.eccReads (agLoad 12) (a + 1) (n - 1) with
          | (none, s2) =>
            State.scanEvents s2 classes origins fuel { x with cursor := s.skipTo c n, offset := 0, flags := x.flags ||| 8 }
          | (some l, s2) =>
            let hb := valueBytes (h :: l)
            let rec_ := (hb.take len).drop x.offset
            let partner := (hb.getD 15 0#8).getLsbD 1
            let wanted := classes.testBit (leNat ((hb.drop 2).take 2) / 4096) && origins.testBit (if partner then 1 else 0)
            if !wanted then State.scanEvents s2 classes origins fuel { x with cursor := curAdd c n, offset := 0 }
            else if x.bytes.length + rec_.length ≤ 1016 then
              State.scanEvents s2 classes origins fuel { x with cursor := curAdd c n, offset := 0, bytes := x.bytes ++ rec_ }
            else if x.bytes.isEmpty then ({ x with offset := x.offset + 1016, bytes := rec_.take 1016 }, s2)
            else (x, s2)

/-- An event read's response data. DEDUCED (log 79). -/
def State.eventRead (s : State) (b : Bytes) : Nat × Bytes × State :=
  let f (o n : Nat) : Nat := leNat ((b.drop o).take n)
  if b.length ≠ 12 ∨ f 9 3 ≠ 0 then (stProtocol, [], s)
  else
    let tail := s.get Reg.evrTail
    let size := (s.get Reg.evrHead + 2 ^ 32 - tail) % 2 ^ 32
    let lost := decide (size < (f 0 4 + 2 ^ 32 - tail) % 2 ^ 32)
    let x : EvScan := if lost then ⟨tail, 0, [], 1⟩ else ⟨f 0 4, f 4 2, [], 0⟩
    let r := s.scanEvents (f 6 2) (f 8 1) 65536 x
    (stOk, leBytes 4 r.1.cursor ++ leBytes 2 r.1.offset ++ leBytes 1 r.1.flags ++ [0#8] ++ r.1.bytes, r.2)

/-! Requests -/

/-- The highest role of a session's identity (R324, R472). DEDUCED (log 73). -/
def State.roleLimit (s : State) (x : Session) : Option Nat :=
  if x.maxRole = rExpert then some rExpert
  else
    ((List.range 32).find? fun e => leNat ((s.od 0x1110 e).take 8) == x.client).map fun e => leNat ((s.od 0x1110 e).drop 8)

/-- SESSION_OPEN (R324); a second one is refused, since the role is fixed, and so is one on VOP-C (R332).
DEDUCED (log 73). -/
def State.sessionOpen (s : State) (x : Session) (b : Bytes) : Nat × Bytes × State :=
  let v := leNat b
  let client := leBytes 8 x.client
  if x.role.isSome ∨ b.length ≠ 1 ∨ 3 < v then (stProtocol, [], s)
  else
    match s.roleLimit x with
    | some m =>
      if v ≤ m then
        (stOk, client ++ leBytes 1 v, (s.setSession x.id fun y => { y with role := some v }).event .sessionOpened [x.id, x.client, v])
      else (stRole, [], s.event .roleRefused [x.id, x.client, v])
    | none => (stRole, [], s.event .roleRefused [x.id, x.client, v])

/-- READ of an object (R286): a point of the process image is read through the check code; one that is uncorrectable gives
no data (R107, R267). DEDUCED (log 75). -/
def State.vopRead (s : State) (i k : Nat) : Nat × Bytes × State :=
  let p := (i - 0x6000) * 256 + k
  let r := if 0x6000 ≤ i ∧ i < 0x6100 then s.eccRead (agLoad 12) p else (some zeroWord, s)
  if r.1.isNone then (stRefused, [], r.2)
  else
    match r.2.odRead i k with
    | .ok b => (stOk, b.take 1024, r.2)
    | .error e => (e, [], r.2)

/-- A service executed: status, response data, state. `x` is none on VOP-C. DEDUCED (log 75). -/
def State.vopServe (s : State) (svc : Nat) (r : VopReq) (x : Option Session) : Nat × Bytes × State :=
  let i := r.index.toNat
  let k := r.sub.toNat
  let plain (a : Nat × State) : Nat × Bytes × State := (a.1, [], a.2)
  if !r.wellFormed ∨ 1024 < r.data.length ∨ (6 ≤ svc ∧ (i ≠ 0 ∨ k ≠ 0)) then (stProtocol, [], s)
  else if svc = 6 then (match x with | some y => s.sessionOpen y r.data | none => (stRefused, [], s))
  else
    match s.caller r.sess with
    | none => (stProtocol, [], s)
    | some c =>
      match svc with
      | 1 =>
        if !r.data.isEmpty then (stProtocol, [], s)
        else s.vopRead i k
      | 2 => plain (s.odWrite r.sess c i k r.data)
      | 3 => if x.isNone then (stRefused, [], s) else plain (s.segInit r.sess c i k r.data)
      | 4 => if x.isNone then (stRefused, [], s) else plain (s.segData r.sess i k r.data)
      | 5 => if x.isNone then (stRefused, [], s) else plain (s.segEnd r.sess c i k r.data)
      | 7 => s.eventRead r.data
      | 8 => if r.data.isEmpty then (stOk, [], s) else (stProtocol, [], s)
      | _ => (stProtocol, [], s)

/-- A response (R326). -/
def vopResponse (svc : Nat) (r : VopReq) (status : Nat) (b : Bytes) : Bytes :=
  [1#8] ++ leBytes 1 (svc + 128) ++ leBytes 2 r.id.toNat ++ leBytes 2 r.index.toNat ++ leBytes 1 r.sub.toNat ++ [0#8]
    ++ leBytes 2 status ++ leBytes 2 b.length ++ b

/-- A request is taken (R327, R328): dropped where 64 wait, answered from what is kept, BUSY where 4 are outstanding, else
executed. `kept` and `keep` are the responses that the session keeps, `send` emits one. DEDUCED (log 76). -/
def State.vopTake (s : State) (svc : Nat) (r : VopReq) (x : Option Session) (kept : List (Nat × Bytes))
    (keep : List (Nat × Bytes) → State → State) (send : Bytes → State → State) : State :=
  if 64 ≤ r.waiting then { s with net := { s.net with vopDropped := s.net.vopDropped + 1 } }
  else
    match kept.find? fun e => e.1 == r.id.toNat with
    | some e => send e.2 s
    | none =>
      if 4 ≤ r.outstanding then send (vopResponse svc r stBusy []) s
      else
        let a := s.vopServe svc r x
        let b := vopResponse svc r a.1 a.2.1
        send b (keep (((r.id.toNat, b) :: kept).take 16) a.2.2)

/-- A response in a session (R313, R323, R326): its message, and the datagram of class VOP that carries it.
DESIGN CHOICE (log 116). -/
def State.vopSend (s : State) (x : Session) (b : Bytes) : State :=
  let p := Config.dtlsPeer x.id
  let src := s.addrOf x.port
  let dst := p.toNat / 2 ^ 16 % 2 ^ 32
  let ip := s.ipPacket 17 src dst (udpPacket src dst 47240 (p.toNat % 2 ^ 16) (Config.dtlsRecord x.id s.free b))
  ({ s with free := s.free + 1 }.emit (.vop x.id b)).classSend x.port 1 (leBytes 6 (p.toNat / 2 ^ 48)).reverse
    (s.odNat 0x2500 0x23) 0x0800 ip

/-- A request in a DTLS session: the session does not idle, and the load that the request meets stands (R325, R327).
DEDUCED (log 76). -/
def State.vopRequest (s : State) (svc : Nat) (r : VopReq) : State :=
  match s.session r.sess with
  | none => s
  | some x =>
    if !s.runtime then s
    else
      let s1 := { s with net := { s.net with waiting := r.waiting } }
      (s1.setSession x.id fun y => { y with lastReq := s.now, out := r.outstanding }).vopTake svc r (some x) x.kept
        (fun l t => t.setSession x.id fun y => { y with kept := l }) (fun b t => t.vopSend x b)

end Sys2Proof.Machine
end

