-- ==== Sys2Proof/Machine/Csr.lean ====
section
/-! DEFINITION. The CSR window as a master sees it (R8 to R11, R104): what a read returns, and what a write does. -/

namespace Sys2Proof.Machine

/-! Reads -/

/-- A read of a CSR: bits [31:0], and what reading does (R337, R366). DEDUCED (log 36). -/
def State.csrRead (s : State) (a : Nat) : Nat × State :=
  match canWindow a with
  | some (n, o) => s.readWindow n o
  | none =>
    if a = 0xF0060001 then
      let t := s.timeLatch
      (t.csrValue a, t)
    else (s.csrValue a, s)

/-! Writes -/

/-- A write to the registers of a CAN channel (R364 to R366, R380, R383). DEDUCED (log 84). -/
def State.canWrite (s : State) (n o w : Nat) : State :=
  let cfg := s.flag (Reg.canCfgen n)
  if o = 0 then
    let on := w.testBit 8 && (s.mode == mIsolated || s.weirOpen)
    let s1 := s.setFlag (Reg.canCfgen n) on
    if w.testBit 4 then s1.canRecoverWrite n else s1
  else if o ≤ 3 then
    if cfg then (s.fieldsWrite (Reg.canBase n + o) w).setChan n fun c => { c with newTiming := true } else s
  else if o = 0x20 then s.selectObject n (w % 256)
  else if 0x21 ≤ o ∧ o < 0x37 then s.writeWindow n o w
  else if o = 0x40 then s.txPost n (w % 2 ^ 22)
  else if 0x400 ≤ o ∧ o < 0x600 then (if cfg then s.fieldsWrite (Reg.canBase n + o) w else s)
  else s

/-- A write to a task's registers (R117). DEDUCED (log 36). -/
def State.taskWrite (s : State) (a w : Nat) : State :=
  if a % 16 ≤ 9 ∧ s.flag Reg.drvActive = true ∧ s.weirOpen = false then s.incSat Reg.drvIgnw else s.fieldsWrite a w

/-- A write of PWR.AVSCTL (R92, R94): one that would set TARGET below 656 or HYST above 64 is ignored; FIXV
changes only in ISOLATED, and takes effect at once. -/
def State.avsWrite (s : State) (w : Nat) : State :=
  if w % 65536 < 656 ∨ 64 < w / 65536 % 256 then s
  else
    let s1 := (s.set Reg.avsTarget (w % 65536)).set Reg.avsHyst (w / 65536 % 256)
    if s.mode = mIsolated then (s1.setFlag Reg.avsFixv (w.testBit 24)).fixRails else s1

/-- A write of XCH.CMD (R200): the runtime submits a command that it has checked. DEDUCED (log 53). -/
def State.xchWrite (s : State) (w : Nat) : State :=
  if w.testBit 31 then
    (s.xchCommand ⟨rExpert, 0⟩ false (w % 16) false (s.get Reg.repSeq) (s.get Reg.xchDiff) 0).2
  else s

/-- A write by the debug access port that the MPU has permitted (R413, R421): the MPU, MNB and DBG blocks name no writer,
but for the staging registers and the command of the MPU (R417); every other block names the supervisor pair or
privileged code, which the port is not. DEDUCED (log 89). -/
def State.dbgWrite (s : State) (a w : Nat) : State :=
  let b := a / 0x10000
  if b = 0xF00F ∨ b = 0xF010 ∨ (b = 0xF00C ∧ (a % 0x10000 = 0 ∨ 5 < a % 0x10000)) then s.fieldsWrite a w else s

/-- A write of a CSR that the MPU has permitted, by unit `who` (R8, R9, R104, R413): the blocks' own writer rules admit
the supervisor pair, and a core pair for the registers that R412 names. PWR.AVSFIX.VOLT keeps and reads back the word
written, and the rail alone is limited to 680 to 900 mV, where R112 does not say which of the two is.
DEDUCED (log 36, 98). DESIGN CHOICE (log 133). -/
def State.csrWrite (s : State) (who a w : Nat) : State :=
  let o := a % 0x10000
  let b := a / 0x10000 - 0xF000
  if who < 12 then s.pairCsrWrite who a w
  else if who ≠ 12 then s.dbgWrite a w
  else if b = 9 then s.canWrite (o / 0x1000) (o % 0x1000) w
  else if b = 2 ∧ 0x100 ≤ o ∧ o < 0x280 then s.taskWrite a w
  else if b = 0xD ∧ 0x100 ≤ o ∧ o < 0x140 then s.engineWrite a w
  else if b = 0xA ∧ 0x200 ≤ o ∧ o < 0x280 then (if o % 16 = 4 ∧ w.testBit 8 then s.aiClear ((o - 0x200) / 16) else s)
  else
    match a with
    | 0xF0000009 => if w.testBit 31 then s.lcsCommand (w % 16) else s
    | 0xF0010102 => s.modeRequest w
    | 0xF0010210 => s.avsWrite w
    | 0xF0010211 => (s.fieldsWrite a w).fixRails
    | 0xF0020002 =>
      let s1 := (s.setFlag Reg.dozeEn (w.testBit 0)).set Reg.dozeMinidle (w / 65536)
      if w / 256 % 256 < 30 then s1 else s1.set Reg.dozeLead (w / 256)
    | 0xF0020003 => s.weirWrite w
    | 0xF0020010 => s.usoftWrite w
    | 0xF0030008 =>
      let s1 := s.set Reg.injPair w
      if w.testBit 31 then s1.injectionStart (w % 16) else s1
    | 0xF0050000 => if w.testBit 2 then s.retrain 0 else s
    | 0xF0050001 => if w.testBit 2 then s.retrain 1 else s
    | 0xF0060000 => (s.fieldsWrite a w).refreshLock
    | 0xF0060005 => s.rateWrite w
    | 0xF0060008 => s.stepctlWrite w
    | 0xF0070000 => (s.fieldsWrite a w).ptpDecide
    | 0xF00C0001 => s.mpuRuleWrite w (min 255 s.heldAccesses)
    | 0xF00C0004 => s.set Reg.mpuWattr (w - (w &&& 0x88))
    | 0xF00E0007 => s.evrPost w
    | 0xF0110001 => s.xchWrite w
    | _ => s.fieldsWrite a w

/-- CSR_WRITE (R9): a write by the supervisor pair in privileged mode or by a core pair's stub, which the MPU checks; a
refused one takes the trap MPU_VIOLATION, a latching fault in privileged mode (R83, R98, R100, R415).
DEDUCED (log 98). -/
def execCsrWrite (unit : Fin 13) (a w : BitVec 32) (s : State) : Result :=
  .next (
    if !s.functional ∨ areaOf a.toNat ≠ .csr then s
    else
      let c := s.mpuCheck ⟨unit, .write, true, a.toNat, 0, false, false⟩
      if c.1 then c.2.csrWrite unit a.toNat w.toNat else (c.2.onPlace (coreKey unit false) fun x => x.enterTrap ⟨trapMpu, 0#18, a, 0#24⟩).latch 0x17 12)

end Sys2Proof.Machine
end

