-- ==== Sys2Proof/Machine/HwifCmds.lean ====
section
/-! DEFINITION. The commands of the maintenance bus, boundary scan and the debug access port (R494 to R500). -/

namespace Sys2Proof.Machine

/-! Maintenance bus -/

/-- The bus is served from BOOT step 3 onward, while the feed domain is powered (R494). -/
def State.mnbServed (s : State) : Bool :=
  (decide (mIsolated ≤ s.mode) || (s.mode == mBoot && decide (3 ≤ s.get Reg.bootStep))) && !s.hwif.pins

/-- The word that the view shows at a word offset (R495); none at an offset that the table does not name. -/
def State.mnbView (s : State) (o : Nat) : Option Nat :=
  if o = 0x00 then some (s.csrValue 0xF0010100)
  else if o = 0x04 then some (s.csrValue 0xF0010104)
  else if o = 0x08 then some (s.csrValue 0xF0010000)
  else if o = 0x0C then some (s.csrValue 0xF0010001)
  else if o = 0x10 then some (s.csrValue 0xF0000000)
  else if 0x14 ≤ o ∧ o < 0x24 then some (s.get (Reg.lcsId (o / 4 - 5)))
  else if o = 0x24 then some (s.csrValue 0xF004000E)
  else if o = 0x28 then some (s.csrValue 0xF0010002)
  else if o = 0x2C then
    some (s.get Reg.intentSw + 2 * s.get Reg.tamperCover + 4 * s.get Reg.evToggle + 8 * s.get Reg.tmbLock)
  else none

/-- The pointer after a byte (R495). -/
def mnbNext (p : Nat) : Nat := if p = 0x4F then 0 else (p + 1) % 256

/-- Read one byte at the pointer: a word is latched at its first byte. -/
def State.mnbReadByte (s : State) : Byte × State :=
  let p := s.hwif.ptr
  let s1 := { s with hwif := { s.hwif with ptr := mnbNext p } }
  match s.mnbView (p / 4 * 4) with
  | none => (if 0x40 ≤ p ∧ p < 0x50 then Config.mnbMailRead p else 0xFF#8, s1)
  | some v =>
    let w := if p % 4 = 0 then v else s.hwif.latch
    (BitVec.ofNat 8 (w / 256 ^ (p % 4)), { s1 with hwif := { s1.hwif with latch := w } })

def State.mnbReadBytes (s : State) : Nat → Bytes × State
  | 0 => ([], s)
  | n + 1 =>
    let r := s.mnbReadByte
    let t := State.mnbReadBytes r.2 n
    (r.1 :: t.1, t.2)

/-- Take one data byte: at the mailbox offsets it is held until STOP, elsewhere it is not acknowledged (R495).
DEDUCED (log 96). -/
def State.mnbTake (s : State) (b : Byte) : State :=
  let p := s.hwif.ptr
  let h := { s.hwif with ptr := mnbNext p }
  if 0x40 ≤ p ∧ p < 0x50 then { s with hwif := { h with mail := SMap.set h.mail (p - 0x40) b } }
  else { s with hwif := h }.incSat Reg.mnbNaks

/-- An address match wakes every pair and cluster that sleeps, when enabled (R139, R460). DEDUCED (log 96). -/
def State.mnbWake (s : State) : State :=
  let asleep := (List.range 12).filter fun u => s.get (Reg.sleepState u) != slRun
  if s.flag Reg.wakeenMnb && !asleep.isEmpty then
    let s1 := s.each (List.range 3) fun c t => t.leaveDoze c
    (s1.each asleep fun u t => t.set (Reg.sleepState u) slRun).recordWake 7 0xF s.now
  else s

/-- MAINTENANCE_BUS_TRANSACTION (R494, R495): up to its STOP, at which MAILBOX_DELIVERY follows a write of mailbox bytes. -/
def execMaintenanceBusTransaction (op : MnbOp) (s : State) : Result :=
  .next (
    if !s.mnbServed then s
    else
      let s1 := s.mnbWake
      match op with
      | .write ptr data =>
        let s2 := { s1 with hwif := { s1.hwif with ptr := ptr.toNat } }.incWrap Reg.mnbWrites
        let s3 := s2.each data fun b t => t.mnbTake b
        if s3.hwif.mail.isEmpty then s3 else s3.set Reg.mnbActive 1
      | .read n =>
        let r := (s1.incWrap Reg.mnbReads).mnbReadBytes n
        r.2.emit (.mnb r.1))

/-- One mailbox byte into its register. -/
def State.mailByte (s : State) (i : Nat) (b : Byte) : State :=
  let f := Reg.mbox (i / 4)
  let w := s.get f
  s.set f (w - w / 256 ^ (i % 4) % 256 * 256 ^ (i % 4) + b.toNat * 256 ^ (i % 4))

/-- MAILBOX_DELIVERY (R496): bytes that the transaction did not write keep their values. DEDUCED (log 96). -/
def execMailboxDelivery (s : State) : Result :=
  .next (
    if s.hwif.mail.isEmpty then s
    else
      let s1 := s.each s.hwif.mail fun e t => t.mailByte e.1 e.2
      let s2 := { s1 with hwif := { s1.hwif with mail := [] } }
      ((s2.set Reg.mbnew 1).set Reg.mnbActive 0).event .mailbox ((List.range 4).map fun k => (s1.get (Reg.mbox k) : Int)))

/-! Boundary scan and debug access -/

/-- EXTEST, CLAMP and HIGHZ stop the functional logic (R499). DESIGN CHOICE (log 97). -/
def tapStops (k : TapKind) : Bool := k == .extest || k == .clamp || k == .highz

/-- Code of an instruction in DBG.STAT.IR. -/
def tapIr (k : TapKind) : Nat := if k = .idcode then 1 else (Config.tapCode k).toNat

/-- DESIGN CHOICE (log 97). -/
def State.loadTap (s : State) (k : TapKind) : State :=
  { s with hwif := { s.hwif with tap := k, pins := tapStops k } }.set Reg.dbgIr (tapIr k)

/-- TAP_INSTRUCTION (R497, R499, R500); `probe` and `st` are what DETECT and the TAP controller show after it. Leaving a
test instruction is TAP_TEST_EXIT. DESIGN CHOICE (log 97). -/
def execTapInstruction (k : TapKind) (probe : Bool) (st : BitVec 4) (s : State) : Result :=
  .next (
    if !s.powered ∨ (s.hwif.pins = true ∧ tapStops k = false) then s
    else
      let s1 := (s.setFlag Reg.dbgProbe probe).set Reg.dbgTapst st.toNat
      if tapStops k ∧ (s.mode ≠ mIsolated ∨ s.dbgOpen = false) then
        ((s1.loadTap .bypass).set Reg.dbgRefused 1).event .tapRefused [tapIr k]
      else s1.loadTap k)

/-- TAP_TEST_EXIT (R499): a restart, transition 8. DESIGN CHOICE (log 97). -/
def execTapTestExit (s : State) : Result :=
  .next (if s.hwif.pins then { s with hwif := { s.hwif with pins := false } }.enterBoot 8 0x19 8 else s)

/-- DAP_ACCESS (R412, R415, R421, R500): a read, or a write of a word, as master 20; a refusal is an error response.
DEDUCED (log 89). -/
def execDapAccess (a : BitVec 32) (w : Option TW) (s : State) : Result :=
  .next (
    if !s.powered ∨ s.hwif.tap ≠ .dap then s
    else
      let n := a.toNat
      match w with
      | none =>
        let m := s.mpuCheck ⟨20, .read, true, n, 0, false, false⟩
        if !m.1 then m.2.emit .busError
        else if areaOf n = .csr then
          let r := m.2.csrRead n
          r.2.emit (.read n (goodInt r.1))
        else
          match m.2.eccRead (agDma mDbg) n with
          | (some v, t) => t.emit (.read n v)
          | (none, t) => t.emit .busError
      | some v =>
        let m := s.mpuCheck ⟨20, .write, true, n, 0, false, false⟩
        if !m.1 then m.2.emit .busError
        else if areaOf n = .csr then m.2.csrWrite 20 n (v.val.truncate 32 : BitVec 32).toNat
        else m.2.masterStore n v)

end Sys2Proof.Machine
end

