-- ==== Sys2Proof/Machine/IsaExec.lean ====
section
/-! DEFINITION. Execution of an instruction on a pair: fetch, core 0's accesses and sampled inputs (R101 to R104, R204), the
drain points (R203), trap entry (R99), and the move to the next instruction. -/

namespace Sys2Proof.Machine

/-! Cores in play -/

/-- The core that leads: core 0 of a locked unit, the named core of a split pair (R202, R224). -/
def State.lead (s : State) (c : CoreId) : Bool := s.isSplit c.unit && c.core

/-- The cores that execute: both of a locked unit, the named one of a split pair. DEDUCED (log 15). -/
def State.crew (s : State) (c : CoreId) : List Bool := if s.isSplit c.unit then [c.core] else [false, true]

/-- A change on each core that executes, by its number. -/
def State.onCrew (s : State) (c : CoreId) (f : Bool → CoreSt → CoreSt) : State :=
  s.each (s.crew c) fun b t => t.setCore c.unit b (f b (t.core c.unit b))

/-! Writes that the comparator has accepted -/

/-- An accepted write of a unit: CSRs by the blocks' writer rules, memory by the write path (R101, R208).
DEDUCED (log 36). -/
def State.writeAt (s : State) (u a : Nat) (w : TW) : State :=
  if areaOf a = .csr then s.csrWrite u a (w.val.truncate 32 : BitVec 32).toNat else if u = 12 then s.masterStore a w else s.store a w

/-! Core 0 on its own -/

/-- A core of a split pair retires a token (R211); what a fault of the pair would show is core 0's.
DESIGN CHOICE (log 131). -/
def State.noteStep (s : State) (c : CoreId) (k : CoreSt) : State :=
  s.setPair c.unit fun p => if c.core then { p with lastAt := s.tmb.raw } else
    { p with lastAt := s.tmb.raw, lastIaddr := k.iaddr, lastPriv := k.priv }

/-- An instruction that is no drain point, with its sampled input `w`: on a locked unit core 0 retires it and its write is
held; a core of a split pair makes its write visible at once (R202, R208, R224). DEDUCED (log 12). -/
def State.finish (s : State) (c : CoreId) (i : Instr) (a : Act) (w : TW) (smp : Option (BitVec 3 × TW)) (held : Option (Nat × TW)) :
    State :=
  let k := s.core c.unit (s.lead c)
  if s.isSplit c.unit then
    let s1 := (s.setCore c.unit c.core (a.step w k)).noteStep c k
    match held with
    | some (b, v) => (s1.noteStore (coreKey c.unit c.core) k.priv b v).writeAt c.unit b v
    | none => s1
  else s.retire0 c.unit i (a.token k.iaddr) smp held (a.step w)

/-- CSRs are read in program order (R102): writes of the window that the unit still holds take effect first, as core 1
confirms them. True: it goes on. DEDUCED (log 127). -/
def State.settleCsrs (s : State) (u : Nat) : Bool × State :=
  if s.isSplit u ∨ !(s.pair u).ahead.any (fun x => match x.held with | some (a, _) => areaOf a == .csr | none => false) then (true, s)
  else s.drain State.writeAt u

/-- Core 0 waits where it is 8 tokens ahead, until core 1 has retired one (R202). True: it goes on. DEDUCED (log 15). -/
def State.makeRoom (s : State) (c : CoreId) : Bool × State :=
  if s.isSplit c.unit ∨ (s.pair c.unit).ahead.length < 8 then (true, s) else s.retire1 State.writeAt c.unit

/-! Drain points -/

/-- Both cores come to the same instruction: the stagger drains, and core 1 presents the tokens that core 0 has presented
(R203, R207, R209). `toks` gives a core's tokens, `sampled` says that an input passed the FIFO. True: all agree.
DEDUCED (log 15). DESIGN CHOICE (log 38). -/
def State.meet (s : State) (c : CoreId) (i : Instr) (sampled : Bool) (toks : Act → CoreSt → List Token) : Bool × State :=
  let u := c.unit.val
  if s.isSplit u then (true, s.noteStep c (s.core u c.core))
  else
    match s.drain State.writeAt u with
    | (false, t) => (false, t)
    | (true, t) =>
      match t.fileReads u true (isaOp i).regs with
      | (false, v) => (false, v)
      | (true, v) =>
        let k0 := v.core u false
        let k1 := v.core u true
        match v.compare u ((toks ((isaOp i).act k0) k0).zip (toks ((isaOp i).act k1) k1)) with
        | (some d, x) => (false, x.mismatch u k0.iaddr k0.priv d)
        | (none, x) =>
          (true, (if sampled then x.noteOcc u 1 else x).setPair u fun p =>
            { p with count0 := p.count0 + 1, count1 := p.count1 + 1, lastAt := s.tmb.raw, lastIaddr := k0.iaddr,
                     lastPriv := k0.priv })

/-- What each executing core asks at an instruction. -/
def State.asks (s : State) (c : CoreId) (i : Instr) (b : Bool) : Act := (isaOp i).act (s.core c.unit b)

/-! Traps -/

/-- A trap of the executing cores (R84, R85, R99, R100, R415): each takes it; in privileged code it is a latching fault,
in a task the runtime records it and ends the cycle. DEDUCED (log 32). -/
def State.takeTrap (s : State) (c : CoreId) (info : Bool → TrapInfo) : State :=
  let k := s.core c.unit (s.lead c)
  let i := info (s.lead c)
  let s1 := s.onCrew c fun b x => x.enterTrap (info b)
  if k.priv ∨ c.unit.val = 12 then s1.latch 0x17 12
  else
    match s1.runningAt (coreKey c.unit (s.lead c)) with
    | none => s1
    | some n =>
      if s1.unitRuns c.unit then
        (s1.event .trap [i.code, (n : Int) % 32, c.unit.val, k.iaddr.toNat, i.tags.toNat]).endCycle n true
      else s1

/-- The token of a trap that is no result of an instruction's operands. -/
def trapToken (code : Nat) (k : CoreSt) : Token := (Act.trap ⟨code, 0#18, 0#32, 0#24⟩).token k.iaddr

/-- A trap of an access that has been refused or is uncorrectable (R83, R204, R415): `fail` is what the access itself
leaves; each core records its own operand tags. DESIGN CHOICE (log 31). -/
def State.trapAccess (s : State) (c : CoreId) (i : Instr) (code addr : Nat) (fail : State → State) : State :=
  match s.meet c i true (fun a k => [a.token k.iaddr, trapToken code k]) with
  | (false, t) => t
  | (true, t) => (fail t).takeTrap c fun b => ⟨code, 0#18, BitVec.ofNat 32 addr, (t.asks c i b).tags⟩

/-! Fetch (R61, R97, R409) -/

/-- Word address of the instruction's program word: the slot that STATUS.SLOT names in user mode, the supervisor store
in privileged mode. DESIGN CHOICE (log 14). -/
def fetchAddr (c : CoreSt) : Nat :=
  (if c.priv then 0x2000000 else if c.slot then 0x1200000 else 0x1000000) + c.iaddr.toNat / 2

/-- The major opcode of the instruction in a program word (R61, R62). DESIGN CHOICE (log 14). -/
def majorOp (w : TW) (iaddr : BitVec 22) : BitVec 6 := (lanesOf w).extractLsb' (if iaddr.getLsbD 0 then 66 else 30) 6

/-- The access of a core of a unit. -/
def CoreSt.access (c : CoreSt) (id : CoreId) (lead : Bool) (k : AccKind) (a : Nat) : Access :=
  ⟨id.unit, k, c.priv || id.unit == 12, a, c.task.toNat, c.slot, lead⟩

/-- Fetch: nothing, or the code of the trap that it takes: refused, uncorrectable, or a reserved major opcode (R64, R83).
DESIGN CHOICE (log 14, 31). -/
def State.fetch (s : State) (c : CoreId) : Option Nat × State :=
  let k := s.core c.unit (s.lead c)
  let m := s.mpuCheck (k.access c (s.lead c) .exec (fetchAddr k))
  if !m.1 then (some trapMpu, m.2)
  else
    match m.2.eccRead (agFetch c.unit) (fetchAddr k) with
    | (some w, t) => (if 0x38#6 ≤ majorOp w k.iaddr then some trapIllegal else none, t)
    | (none, _) => (some trapMemory, m.2)

/-- The trap of a fetch, with the word's address where it is an access that failed. -/
def State.fetchTrap (s : State) (c : CoreId) (i : Instr) (code : Nat) : State :=
  let a := fetchAddr (s.core c.unit (s.lead c))
  match s.meet c i true (fun _ k => [trapToken code k]) with
  | (false, t) => t
  | (true, t) =>
    (if code = trapMemory then (t.eccRead (agFetch c.unit) a).2 else t).takeTrap c fun _ =>
      ⟨code, 0#18, if code = trapIllegal then 0#32 else BitVec.ofNat 32 a, 0#24⟩

/-! Accesses -/

/-- A load (R104, R106, R204): one sample, from the pending-store buffer or from memory; `up` is what upsets have made of
the word. DEDUCED (log 36). -/
def State.doLoad (s : State) (c : CoreId) (i : Instr) (a : Act) (addr : Nat) (up : BitVec 80) : State :=
  let done (t : State) (w : TW) : State := t.finish c i a w (some (smpLoad, w)) none
  if areaOf addr = .csr then
    match s.settleCsrs c.unit with
    | (false, t) => t
    | (true, t) => let r := t.csrRead addr; done r.2 (goodInt r.1)
  else
    match (if s.isSplit c.unit then none else s.heldStore c.unit addr) with
    | some w => done s w
    | none =>
      let s1 := s.flip addr up
      let there := (BitVec.ofNat 32 addr ^^^ slipOf c).toNat
      match s1.eccReadAt (agLoad c.unit) addr there with
      | (some w, t) => done t w
      | (none, _) => s1.trapAccess c i trapMemory addr fun t => (t.eccReadAt (agLoad c.unit) addr there).2

/-- An access that the MPU decides on first (R8, R415). -/
def State.doAccess (s : State) (c : CoreId) (i : Instr) (kind : AccKind) (addr : Nat) (go : State → State) : State :=
  let k := s.core c.unit (s.lead c)
  let m := s.mpuCheck (k.access c (s.lead c) kind addr)
  if m.1 then go m.2 else m.2.trapAccess c i trapMpu addr id

/-! WAIT (R457, R458) -/

/-- A wake source of a pair is pending: a release of a task on it that TMB matches, or a task or trigger that waits.
DEDUCED (log 33). -/
def State.wakePending (s : State) (u : Nat) : Bool :=
  (cycleTasks.any fun n => s.pairOf n == u && (s.waits n || (s.enabled n && (s.releaseAt n).isSome))) ||
    urgentTasks.any fun n => s.enabled n && s.pairOf n == u && (s.task n).pend.isSome

/-- The wait instruction of a control pair; the supervisor pair enters neither WAIT nor DOZE. DEDUCED (log 33). -/
def State.doWait (s : State) (c : CoreId) : State :=
  let s1 := s.onCrew c fun _ x => x.advance
  if c.unit.val = 12 then s1
  else if s.wakePending c.unit then s1.incWrap Reg.wakeEarly
  else if s.isSplit c.unit ∧ (s.runningAt (coreKey c.unit (!c.core))).isSome = true then s1
  else s1.set (Reg.sleepState c.unit) (if s.get (Reg.sleepMode c.unit) = 1 then slWaitDoze else slWait)

/-! One instruction -/

/-- The word that TREL gives on a core: of the task that runs there (R80). DEDUCED (log 35). -/
def State.trelWord (s : State) (c : CoreId) : TW :=
  match s.runningAt (coreKey c.unit (s.lead c)) with
  | some n => (s.task n).relWord
  | none => (s.task (s.core c.unit (s.lead c)).task.toNat).relWord

/-- What the leading core asks is done: at once for that core, or at a drain point for both. -/
def State.perform (s : State) (c : CoreId) (i : Instr) (a : Act) (up : BitVec 80) : State :=
  match a with
  | .trap _ =>
    match s.meet c i false (fun x k => [x.token k.iaddr]) with
    | (false, t) => t
    | (true, t) => t.takeTrap c fun b => match t.asks c i b with | .trap r => r | _ => ⟨0, 0#18, 0#32, 0#24⟩
  | .wait =>
    match s.meet c i false (fun x k => [x.token k.iaddr]) with
    | (false, t) => t
    | (true, t) => t.doWait c
  | .fence =>
    match s.meet c i false (fun x k => [x.token k.iaddr]) with
    | (false, t) => t
    | (true, t) => t.onCrew c fun _ x => x.advance
  | .load addr _ _ => s.doAccess c i .read addr fun t => t.doLoad c i a addr up
  | .csrRead addr _ => s.doAccess c i .read addr fun t =>
      match t.settleCsrs c.unit with
      | (false, u) => u
      | (true, u) =>
        let r := u.csrRead addr
        r.2.finish c i a (goodInt r.1) (some (smpCsr, goodInt r.1)) none
  | .store addr w _ => s.doAccess c i .write addr fun t => t.finish c i a zeroWord (some (smpResponse, zeroWord)) (some (addr, w))
  | .csrWrite addr w => s.doAccess c i .write addr fun t => t.finish c i a zeroWord none (some (addr, w))
  | .release _ => s.finish c i a (s.trelWord c) (some (smpRelease, s.trelWord c)) none
  | .nowTime _ => s.finish c i a (s.relTag s.now) (some (smpTime, s.relTag s.now)) none
  | _ => s.finish c i a zeroWord none none

/-- A unit executes instructions: it runs, and a control pair is in RUN (R211, R218, R457); the supervisor pair waits on the
handshake of a rule write until the old epoch has drained (R418). DESIGN CHOICE (log 14, 27). DEDUCED (log 26). -/
def State.executes (s : State) (u : Fin 13) : Bool :=
  s.unitRuns u && (if u.val = 12 then !s.flag Reg.mpuDrain else s.get (Reg.sleepState u) == slRun)

/-- An instruction on the named unit: room in the stagger, fetched, its registers read through the check code, performed.
The command carries the instruction that the core has decoded. A unit that does not execute leaves the state as it is.
DESIGN CHOICE (log 14). DEDUCED (log 15). -/
def State.runUnit (s : State) (c : CoreId) (i : Instr) (up : BitVec 80) : State :=
  if !s.executes c.unit then s
  else
    match (s.strike c).makeRoom c with
    | (false, t) => t
    | (true, t) =>
      match t.fetch c with
      | (some code, v) => v.fetchTrap c i code
      | (none, v) =>
        match v.fileReads c.unit (v.lead c) (isaOp i).regs with
        | (false, x) => x
        | (true, x) => x.perform c i (x.asks c i (x.lead c)) up

/-- An instruction that takes no upset operand. -/
def State.runIsa (s : State) (c : CoreId) (i : Instr) : Result := .next (s.runUnit c i 0#80)

end Sys2Proof.Machine
end

