-- ==== Sys2Proof/Machine/IsaCmds.lean ====
section
/-! DEFINITION. The instructions (R64): each runs on a named unit; and the supervisor pair's seal (R216). -/

namespace Sys2Proof.Machine

/-! The supervisor pair's seal -/

/-- A seal of one core of the supervisor pair: its registers, read through the check code, no scratch area. -/
def State.supSeal (s : State) (b : Bool) : Option Word × State :=
  match s.fileAll 12 b with
  | (false, t) => (none, t)
  | (true, t) => (some (stateSeal 0xFF t.now (t.core 12 b) []), t)

/-- SUPERVISOR_SEAL (R203, R216): the stagger drains, both cores' registers are sealed with task number 0xFF and the present
instant, and the seals are compared. DEDUCED (log 56). -/
def execSupervisorSeal (s : State) : Result :=
  .next (
    if !s.runtime then s
    else
      match s.drain State.writeAt 12 with
      | (false, t) => t
      | (true, t) =>
        match t.supSeal false with
        | (none, v) => v
        | (some a, v) =>
          match v.supSeal true with
          | (none, x) => x
          | (some b, x) =>
            match x.compare 12 [(⟨7, [a.zeroExtend 72], 0⟩, ⟨7, [b.zeroExtend 72], 0⟩)] with
            | (none, y) => y.acceptSeal 12 false a
            | (some d, y) => y.mismatch 12 (x.pair 12).lastIaddr (x.pair 12).lastPriv d)

/-! Integer (R66, R75, R76, R507) -/

def execAdd (c : CoreId) (rd rs1 : GReg) (b : Src2) (s : State) : Result := s.runIsa c (.add c rd rs1 b)
def execSub (c : CoreId) (rd rs1 : GReg) (b : Src2) (s : State) : Result := s.runIsa c (.sub c rd rs1 b)
def execMul (c : CoreId) (rd rs1 : GReg) (b : Src2) (s : State) : Result := s.runIsa c (.mul c rd rs1 b)
def execMulh (c : CoreId) (rd rs1 : GReg) (b : Src2) (s : State) : Result := s.runIsa c (.mulh c rd rs1 b)
def execDiv (c : CoreId) (rd rs1 : GReg) (b : Src2) (s : State) : Result := s.runIsa c (.div c rd rs1 b)
def execRem (c : CoreId) (rd rs1 : GReg) (b : Src2) (s : State) : Result := s.runIsa c (.rem c rd rs1 b)
def execNeg (c : CoreId) (rd rs1 : GReg) (m : BitVec 6) (s : State) : Result := s.runIsa c (.neg c rd rs1 m)
def execAbs (c : CoreId) (rd rs1 : GReg) (m : BitVec 6) (s : State) : Result := s.runIsa c (.abs c rd rs1 m)
def execClamp (c : CoreId) (rd rs1 rs2 : GReg) (m : BitVec 6) (s : State) : Result := s.runIsa c (.clamp c rd rs1 rs2 m)

/-! Floating point (R65, R78, R507) -/

def execFadd (c : CoreId) (rd rs1 : GReg) (b : Src2) (s : State) : Result := s.runIsa c (.fadd c rd rs1 b)
def execFsub (c : CoreId) (rd rs1 : GReg) (b : Src2) (s : State) : Result := s.runIsa c (.fsub c rd rs1 b)
def execFmul (c : CoreId) (rd rs1 : GReg) (b : Src2) (s : State) : Result := s.runIsa c (.fmul c rd rs1 b)
def execFdiv (c : CoreId) (rd rs1 : GReg) (b : Src2) (s : State) : Result := s.runIsa c (.fdiv c rd rs1 b)
def execFma (c : CoreId) (rd rs1 rs2 : GReg) (m : BitVec 6) (s : State) : Result := s.runIsa c (.fma c rd rs1 rs2 m)
def execFsqrt (c : CoreId) (rd rs1 : GReg) (m : BitVec 6) (s : State) : Result := s.runIsa c (.fsqrt c rd rs1 m)
def execFabs (c : CoreId) (rd rs1 : GReg) (m : BitVec 6) (s : State) : Result := s.runIsa c (.fabs c rd rs1 m)
def execFneg (c : CoreId) (rd rs1 : GReg) (m : BitVec 6) (s : State) : Result := s.runIsa c (.fneg c rd rs1 m)
def execFclamp (c : CoreId) (rd rs1 rs2 : GReg) (m : BitVec 6) (s : State) : Result := s.runIsa c (.fclamp c rd rs1 rs2 m)

/-! Time and PAIR32 (R66, R80, R82) -/

def execTadd (c : CoreId) (rd rs1 : GReg) (b : Src2) (s : State) : Result := s.runIsa c (.tadd c rd rs1 b)
def execTsub (c : CoreId) (rd rs1 : GReg) (b : Src2) (s : State) : Result := s.runIsa c (.tsub c rd rs1 b)
def execTrel (c : CoreId) (rd : GReg) (s : State) : Result := s.runIsa c (.trel c rd)
def execPadd (c : CoreId) (rd rs1 rs2 : GReg) (m : BitVec 6) (s : State) : Result := s.runIsa c (.padd c rd rs1 rs2 m)
def execPsub (c : CoreId) (rd rs1 rs2 : GReg) (m : BitVec 6) (s : State) : Result := s.runIsa c (.psub c rd rs1 rs2 m)
def execPmul (c : CoreId) (rd rs1 rs2 : GReg) (m : BitVec 6) (s : State) : Result := s.runIsa c (.pmul c rd rs1 rs2 m)

/-! Logic and shift (R66, R509) -/

def execAnd (c : CoreId) (rd rs1 : GReg) (b : Src2) (s : State) : Result := s.runIsa c (.and c rd rs1 b)
def execOr (c : CoreId) (rd rs1 : GReg) (b : Src2) (s : State) : Result := s.runIsa c (.or c rd rs1 b)
def execXor (c : CoreId) (rd rs1 : GReg) (b : Src2) (s : State) : Result := s.runIsa c (.xor c rd rs1 b)
def execNot (c : CoreId) (rd rs1 : GReg) (m : BitVec 6) (s : State) : Result := s.runIsa c (.not c rd rs1 m)
def execShl (c : CoreId) (rd rs1 : GReg) (b : Src2) (s : State) : Result := s.runIsa c (.shl c rd rs1 b)
def execShr (c : CoreId) (rd rs1 : GReg) (b : Src2) (s : State) : Result := s.runIsa c (.shr c rd rs1 b)
def execSar (c : CoreId) (rd rs1 : GReg) (b : Src2) (s : State) : Result := s.runIsa c (.sar c rd rs1 b)
def execRot (c : CoreId) (rd rs1 : GReg) (b : Src2) (s : State) : Result := s.runIsa c (.rot c rd rs1 b)
def execExt (c : CoreId) (rd rs1 : GReg) (b : Src2) (s : State) : Result := s.runIsa c (.ext c rd rs1 b)
def execIns (c : CoreId) (rd rs1 : GReg) (b : Src2) (s : State) : Result := s.runIsa c (.ins c rd rs1 b)

/-! Compare and select (R79, R508) -/

def execCeq (c : CoreId) (rd rs1 : GReg) (b : Src2) (s : State) : Result := s.runIsa c (.ceq c rd rs1 b)
def execCne (c : CoreId) (rd rs1 : GReg) (b : Src2) (s : State) : Result := s.runIsa c (.cne c rd rs1 b)
def execClt (c : CoreId) (rd rs1 : GReg) (b : Src2) (s : State) : Result := s.runIsa c (.clt c rd rs1 b)
def execCle (c : CoreId) (rd rs1 : GReg) (b : Src2) (s : State) : Result := s.runIsa c (.cle c rd rs1 b)
def execCun (c : CoreId) (rd rs1 : GReg) (b : Src2) (s : State) : Result := s.runIsa c (.cun c rd rs1 b)
def execSel (c : CoreId) (rd rs1 rs2 : GReg) (m : BitVec 6) (s : State) : Result := s.runIsa c (.sel c rd rs1 rs2 m)
def execMin (c : CoreId) (rd rs1 : GReg) (b : Src2) (s : State) : Result := s.runIsa c (.min c rd rs1 b)
def execMax (c : CoreId) (rd rs1 : GReg) (b : Src2) (s : State) : Result := s.runIsa c (.max c rd rs1 b)

/-! Tag (R70 to R73) -/

def execTget (c : CoreId) (rd rs1 : GReg) (s : State) : Result := s.runIsa c (.tget c rd rs1)
def execTset (c : CoreId) (rd rs1 : GReg) (tag8 : BitVec 8) (mask : BitVec 4) (s : State) : Result := s.runIsa c (.tset c rd rs1 tag8 mask)
def execTcpy (c : CoreId) (rd rs1 rs2 : GReg) (m : BitVec 6) (s : State) : Result := s.runIsa c (.tcpy c rd rs1 rs2 m)
def execQmin (c : CoreId) (rd rs1 rs2 : GReg) (m : BitVec 6) (s : State) : Result := s.runIsa c (.qmin c rd rs1 rs2 m)

/-! Conversion (R64, R79, R510) -/

def execCvtif (c : CoreId) (rd rs1 : GReg) (m : BitVec 6) (s : State) : Result := s.runIsa c (.cvtif c rd rs1 m)
def execCvtfi (c : CoreId) (rd rs1 : GReg) (m : BitVec 6) (s : State) : Result := s.runIsa c (.cvtfi c rd rs1 m)
def execCvtiu (c : CoreId) (rd rs1 : GReg) (m : BitVec 6) (s : State) : Result := s.runIsa c (.cvtiu c rd rs1 m)
def execCvtui (c : CoreId) (rd rs1 : GReg) (m : BitVec 6) (s : State) : Result := s.runIsa c (.cvtui c rd rs1 m)
def execRetype (c : CoreId) (rd rs1 : GReg) (rs2f m : BitVec 6) (s : State) : Result := s.runIsa c (.retype c rd rs1 rs2f m)
def execPpack (c : CoreId) (rd rs1 rs2 : GReg) (m : BitVec 6) (s : State) : Result := s.runIsa c (.ppack c rd rs1 rs2 m)
def execPhi (c : CoreId) (rd rs1 : GReg) (m : BitVec 6) (s : State) : Result := s.runIsa c (.phi c rd rs1 m)
def execPlo (c : CoreId) (rd rs1 : GReg) (m : BitVec 6) (s : State) : Result := s.runIsa c (.plo c rd rs1 m)

/-! Load and store (R69, R511). `up` is what upsets have made of the stored word since it was last read -/

/-- DEDUCED (log 39). -/
def execLd (c : CoreId) (rd base : GReg) (i : BitVec 18) (up : BitVec 80) (s : State) : Result := .next (s.runUnit c (.ld c rd base i up) up)
def execSt (c : CoreId) (rs base : GReg) (i : BitVec 18) (s : State) : Result := s.runIsa c (.st c rs base i)
def execLdx (c : CoreId) (rd ref index : GReg) (up : BitVec 80) (s : State) : Result := .next (s.runUnit c (.ldx c rd ref index up) up)
def execStx (c : CoreId) (rs ref index : GReg) (s : State) : Result := s.runIsa c (.stx c rs ref index)

/-! Branch and jump (R61 to R64, R74) -/

def execBz (c : CoreId) (rs : GReg) (off : BitVec 20) (s : State) : Result := s.runIsa c (.bz c rs off)
def execBnz (c : CoreId) (rs : GReg) (off : BitVec 20) (s : State) : Result := s.runIsa c (.bnz c rs off)
def execBq (c : CoreId) (rs : GReg) (cond : BitVec 4) (off : BitVec 20) (s : State) : Result := s.runIsa c (.bq c rs cond off)
def execBlim (c : CoreId) (rs : GReg) (off : BitVec 20) (s : State) : Result := s.runIsa c (.blim c rs off)
def execBfrc (c : CoreId) (rs : GReg) (off : BitVec 20) (s : State) : Result := s.runIsa c (.bfrc c rs off)
def execJ (c : CoreId) (i : BitVec 24) (s : State) : Result := s.runIsa c (.j c i)
def execCall (c : CoreId) (i : BitVec 24) (s : State) : Result := s.runIsa c (.call c i)
def execRet (c : CoreId) (s : State) : Result := s.runIsa c (.ret c)

/-! Immediates (R64) -/

def execLimm (c : CoreId) (rd : GReg) (i : BitVec 24) (s : State) : Result := s.runIsa c (.limm c rd i)
def execLshi (c : CoreId) (rd : GReg) (i : BitVec 24) (s : State) : Result := s.runIsa c (.lshi c rd i)

/-! System (R8, R64, R98, R99, R102, R338, R457) -/

def execWait (c : CoreId) (s : State) : Result := s.runIsa c (.wait c)
def execTrap (c : CoreId) (i : BitVec 18) (s : State) : Result := s.runIsa c (.trap c i)
def execCsrr (c : CoreId) (rd : GReg) (addr : BitVec 32) (s : State) : Result := s.runIsa c (.csrr c rd addr)
def execCsrw (c : CoreId) (rs : GReg) (addr : BitVec 32) (s : State) : Result := s.runIsa c (.csrw c rs addr)
def execTnow (c : CoreId) (rd : GReg) (s : State) : Result := s.runIsa c (.tnow c rd)
def execFence (c : CoreId) (s : State) : Result := s.runIsa c (.fence c)
def execEret (c : CoreId) (s : State) : Result := s.runIsa c (.eret c)
def execCrr (c : CoreId) (rd rs1 : GReg) (i : BitVec 18) (s : State) : Result := s.runIsa c (.crr c rd rs1 i)
def execCrw (c : CoreId) (rs rs1 : GReg) (i : BitVec 18) (s : State) : Result := s.runIsa c (.crw c rs rs1 i)

end Sys2Proof.Machine
end

