-- ==== Sys2Proof/Machine/LoopCmds.lean ====
section
/-! DEFINITION. The commands of the current loops and the FSK modems (R385 to R402). -/

namespace Sys2Proof.Machine

/-- A time since which a condition holds lies at least `d` ns back. -/
def State.lasted (s : State) (since : Option Int) (d : Int) : Bool :=
  match since with
  | some t => s.due (t + d)
  | none => false

/-- Compliance limit declared or cleared (R393); the module in control lowers the quality of the AO-bound point. -/
def State.setLimit (s : State) (n : Nat) (on : Bool) : State :=
  let s1 := ((s.setAo n fun a => { a with limit := on, inLim := 0, outLim := 0 }).event .compliance [n, if on then 1 else 0])
  let s2 := if on then { s1 with alp := { s1.alp with compliance := s1.alp.compliance + 1 } } else s1
  if on && s2.inControl then
    match s2.aoPoint n with
    | some p => s2.portRework 1 p limitWord
    | none => s2
  else s2

/-- Compliance and readback at one measurement (R392, R393). The Bool says that a mismatch is declared. -/
def State.aoEvaluate (s : State) (n : Nat) : State × Bool :=
  let a := s.ao n
  let own : Int := s.get (Reg.aoOwn n)
  let tgt := s.aoTarget n
  if s.now < a.changedAt + 50000 then (s, false)
  else
    let lim := decide (s.get (Reg.aoHead n) < 3800) && decide (own < tgt - 16000)
    let mis := !lim && decide (160000 < (own - tgt).natAbs)
    let s1 := s.setAo n fun a =>
      { a with inLim := if lim then a.inLim + 1 else 0, outLim := if lim then 0 else a.outLim + 1,
               mism := if mis then a.mism + 1 else 0 }
    let b := s1.ao n
    let s2 := if lim && !b.limit && decide (5 ≤ b.inLim) then s1.setLimit n true
      else if !lim && b.limit && decide (5 ≤ b.outLim) then s1.setLimit n false else s1
    if mis && decide (18 ≤ b.mism) && !b.mismatch then
      ((({ s2 with alp := { s2.alp with mismatches := s2.alp.mismatches + 1 } }).setAo n
        fun a => { a with mismatch := true }), true)
    else (s2, false)

/-- AO_MEASUREMENT (R392, R393): the readings of a stage (nA, mV) and of the loop supply (10 mV), then the guard's
thresholds, compliance and readback; a declared mismatch is a latching fault. -/
def execAoMeasurement (ch : Fin 8) (own total : BitVec 25) (head : BitVec 16) (supply : BitVec 12) (s : State) : Result :=
  let n := ch.val
  .next (
    if s.held then s
    else
      let low := decide (supply.toNat < 2160)
      let s0 := if low && !s.flag Reg.fsupLow then s.event .loopSupplyLow [supply.toNat] else s
      let s1 := (s0.set Reg.fsupVolt supply.toNat).setFlag Reg.fsupLow low
      let s2 := ((s1.set (Reg.aoOwn n) own.toNat).set (Reg.aoTot n) total.toNat).set (Reg.aoHead n) head.toNat
      let r := ((s2.aoMoved n).aoGuardWatch n).aoEvaluate n
      let s3 := r.1.showAo n
      if r.2 then (s3.event .readbackMismatch [n, own.toNat]).latch 0x17 8 else s3)

/-- GUARD_ENGAGEMENT_LOSS (R391): the loss of the partner's contribution, once for an engagement; it starts the ramp where none
runs. -/
def execGuardEngagementLoss (ch : Fin 8) (s : State) : Result :=
  let n := ch.val
  .next (
    if (s.mode = mStandby ∨ s.mode = mPrimary) ∧ s.lasted (s.ao n).engagedAt 50000 = true
        ∧ (s.ao n).lost = false then
      let s1 := (s.startRamp n).setAo n fun a => { a with lost := true }
      (s1.showAo n).event .guardLoss [n]
    else s)

/-- PARTNER_EXCESS (R391): an event and the status bit, no other action. -/
def execPartnerExcess (ch : Fin 8) (s : State) : Result :=
  let n := ch.val
  .next (
    if s.lasted (s.ao n).excessAt 2000000 && !(s.ao n).excess then
      ((s.setAo n fun a => { a with excess := true }).showAo n).event .partnerExcess [n]
    else s)

/-- PARTNER_CONTRIBUTION_RETURN (R391): a rising or full floor returns to C/2 at once. -/
def execPartnerContributionReturn (ch : Fin 8) (s : State) : Result :=
  let n := ch.val
  .next (
    if (s.mode = mStandby ∨ s.mode = mPrimary) ∧ 2 ≤ s.get (Reg.aoFloor n) ∧ s.lasted (s.ao n).returnAt 50000 = true then
      (s.setFloor n 1 true).event .partnerReturn [n]
    else s)

/-- RAMP_END (R390): F has reached C and the guard turns off. -/
def execRampEnd (ch : Fin 8) (s : State) : Result :=
  let n := ch.val
  .next (if s.get (Reg.aoFloor n) = 2 ∧ s.lasted (s.ao n).rampAt 1200000 = true then s.setFloor n 3 false else s)

/-- AI_CONVERSION (R395 to R397): the codes of both converters and their fault signs. -/
def execAiConversion (ch : Fin 8) (rawA rawB : BitVec 24) (faultA faultB : Bool) (s : State) : Result :=
  .next (if s.held then s else s.aiConvert ch rawA rawB faultA faultB)

/-- AI_DRIFT_COMPARISON (R398). -/
def execAiDriftComparison (ch : Fin 8) (s : State) : Result := .next (if s.held then s else s.aiCompare ch)

/-- CLEAR_DRIFT (R398): a write of the clear object in an ENGINEER session, or of the register by the supervisor pair. -/
def execClearDrift (ch : ClearWrite) (s : State) : Result :=
  .next (
    match ch.sess with
    | none => if s.functional then s.aiClear ch.ch else s
    | some n => s.request n fun c => if c.role < rEngineer then (stRole, s) else (stOk, s.aiClear ch.ch))

/-- FSK_RESPONSE (R399 to R402): the signal at the modem, or the bytes that it has received, with their parity or framing
error. -/
def execFskResponse (ch : Fin 16) (rx : FskRx) (bad : Bool) (s : State) : Result :=
  .next (
    if s.mode = mStandby ∨ s.inControl = true then
      match rx with
      | .carrier mv => s.fskCarrier ch mv
      | .frame bytes => s.fskReceive ch bytes bad
    else s)

/-- FSK_RESPONSE_TIMEOUT (R400): no response has started within 300 ms of the end of the request. -/
def execFskResponseTimeout (ch : Fin 16) (s : State) : Result :=
  .next (
    if s.get (Reg.cstState ch) = 3 ∧ s.lasted (s.hrt ch).reqEnd 300000000 = true then s.fskFail ch else s)

/-- FSK_POLL_DUE (R400): the poll interval of an enabled, idle channel of a module in control has passed. -/
def execFskPollDue (ch : Fin 16) (s : State) : Result :=
  let c := ch.val
  .next (
    if s.inControl && hrtEnabled s c && s.get (Reg.cstState c) == 0
        && s.due ((s.hrt c).dueAt + (s.get (Reg.cpollMs c) : Int) * 1000000) then
      (s.setHrt c fun h => { h with dueAt := s.now, tries := 0 }).set (Reg.cstState c) 1
    else s)

/-- FSK_REQUEST_END (R400): the response window starts. -/
def execFskRequestEnd (ch : Fin 16) (s : State) : Result :=
  let c := ch.val
  .next (
    if s.get (Reg.cstState c) = 2 then (s.setHrt c fun h => { h with reqEnd := some s.now }).set (Reg.cstState c) 3
    else s)

end Sys2Proof.Machine
end

