-- ==== Sys2Proof/Machine/NetCmds.lean ====
section
/-! DEFINITION. The commands of the network ports (R312 to R322, R353). Ports: 0 NET0, 1 NET1, 2 NETS. -/

namespace Sys2Proof.Machine

/-- A frame whose VLAN tagging a port accepts (R315). DESIGN CHOICE (log 72). -/
def State.vlanOk (s : State) (port : Nat) (f : Bytes) : Bool :=
  let ty := beNat f 12 2
  let tagged := ty == 0x8100 || ty == 0x88A8
  let stacked := ty == 0x88A8 || beNat f 16 2 == 0x8100 || beNat f 16 2 == 0x88A8
  let vid := beNat f 14 2 % 4096
  let own := s.vidOf port
  if port = 2 then !tagged
  else if tagged then !stacked && (vid == 0 || (own != 0 && vid == own))
  else own == 0

/-- A frame that the MAC does not discard (R312, R315); the bytes are without the FCS. -/
def State.macAccepts (s : State) (port : Nat) (fcsOk : Bool) (f : Bytes) : Bool :=
  let o := if beNat f 12 2 = 0x8100 then 16 else 12
  fcsOk && decide (60 ≤ f.length) && decide (f.length ≤ 1518) && beNat f o 2 != 0x8808 && s.vlanOk port f

/-- ETHERNET_FRAME_RECEIVE: a discarded frame is counted; one that passes is acted on by its own command. -/
def execEthernetFrameReceive (port : Fin 3) (fcsOk : Bool) (f : Bytes) (s : State) : Result :=
  .next (
    if !s.functional ∨ s.macAccepts port fcsOk f = true then s
    else { s with net := { s.net with macDisc := SMap.set s.net.macDisc port (SMap.get 0 s.net.macDisc port + 1) } })

/-- PEER_FRAME_RECEIVE (R156, R321, R322): header and payload. -/
def execPeerFrameReceive (port : Fin 2) (head : PeerHead) (p : Bytes) (s : State) : Result :=
  .next (
    if !s.runtime then s
    else if !peerFrameOk p then { s with net := { s.net with peerDisc := s.net.peerDisc + 1 } }
    else
      let hits := (List.range 256).filter fun k => s.subHit k port head.group p
      (s.each hits fun k t => t.peerAccept k p).peerRelay head p)

/-- An ARP request for the port's address is answered. DESIGN CHOICE (log 72). -/
def State.arpAnswer (s : State) (port : Nat) (f : Bytes) (o : Nat) : State :=
  let a := f.drop o
  if beNat a 0 2 = 1 ∧ beNat a 2 2 = 0x0800 ∧ beNat a 6 2 = 1 ∧ beNat a 24 4 = s.addrOf port ∧ s.addrOf port ≠ 0 then
    s.classSend port 0 ((a.drop 8).take 6) 0 0x0806
      (be16 1 ++ be16 0x0800 ++ [6#8, 4#8] ++ be16 2 ++ macOf port ++ be32 (s.addrOf port) ++ (a.drop 8).take 10)
  else s

/-- An ICMP echo request to the port's address is answered; a fragment is discarded. DESIGN CHOICE (log 72). -/
def State.icmpAnswer (s : State) (port : Nat) (f : Bytes) (o : Nat) : State :=
  let ip := f.drop o
  let h := beNat ip 0 1 % 16 * 4
  let len := beNat ip 2 2
  let body := (ip.take len).drop h
  let ok := beNat ip 0 1 / 16 == 4 && decide (20 ≤ h) && decide (h + 8 ≤ len) && decide (len ≤ ip.length) && inetSum (ip.take h) == 0
    && beNat ip 6 2 % 16384 == 0 && beNat ip 9 1 == 1 && beNat ip 16 4 == s.addrOf port && s.addrOf port != 0
    && beNat body 0 2 == 0x0800 && inetSum body == 0
  if !ok then s
  else
    let r := body.drop 4
    let z : Bytes := be16 0 ++ be16 0 ++ r
    let reply := be16 0 ++ be16 (inetSum z) ++ r
    let s1 := s.classSend port 0 ((f.drop 6).take 6) 0 0x0800 (s.ipPacket 1 (s.addrOf port) (beNat ip 12 4) reply)
    { s1 with free := s1.free + 1 }

/-- ARP_ICMP_ANSWER (R316): the bytes of a received frame without the FCS. -/
def execArpIcmpAnswer (port : Fin 3) (f : Bytes) (s : State) : Result :=
  .next (
    let o := if beNat f 12 2 = 0x8100 then 16 else 12
    if !s.runtime ∨ s.macAccepts port true f = false then s
    else if beNat f o 2 = 0x0806 then s.arpAnswer port f (o + 2)
    else if beNat f o 2 = 0x0800 then s.icmpAnswer port f (o + 2)
    else s)

/-- NET_LAUNCH (R313, R314, R353): the next frame departs; `abort` is whether an insertion does not complete (R352).
DEDUCED (log 82). -/
def execNetLaunch (port : Fin 2) (abort : Bool) (s : State) : Result :=
  .next (if s.functional then s.netStart port abort else s)

end Sys2Proof.Machine
end

