-- ==== Sys2Proof/Machine/SyncCmds.lean ====
section
/-! DEFINITION. The commands of SYNC (R252 to R255) and OBJECT frames (R233, R234). -/

namespace Sys2Proof.Machine

/-- SYNCDATA (R252). -/
def execSyncdata (lane : Fin 2) (f : EwxFrame) (s : State) : Result :=
  .next (s.onFrame lane.val f ftSyncdata (fun _ => true) fun fr t =>
    if t.mode = mSync then t.syncWords (fr.num 0 % 16) (fr.num 0 / 2 ^ 32) (fr.payload.drop 1) else t)

/-- SYNCCTL (R252 to R255): an abort stops the module that sends, too. -/
def execSyncctl (lane : Fin 2) (f : EwxFrame) (s : State) : Result :=
  .next (s.onFrame lane.val f ftSyncctl (fun _ => true) fun fr t =>
    let v := fr.num 0
    if t.mode = mSync then t.syncControl (v % 16) (v / 16 % 16) (v / 256 % 16) (fr.time 1)
    else if t.link.sendPhase ≠ 0 ∧ v / 16 % 16 = 4 then t.syncStop
    else t)

/-- SYNC_PHASE_END (R252): the data of the phase has been acknowledged; the next phase, or the next tracking pass, begins.
DEDUCED (log 61). -/
def execSyncPhaseEnd (s : State) : Result :=
  let p := s.link.sendPhase
  .next (
    if s.inControl ∧ 1 ≤ p ∧ p ≤ 5 ∧ s.syncAcked = true ∧ s.link.goAt = none then
      (if p < 5 then s.syncSend (p + 1) else s.syncPass)
    else s)

/-- SYNC_FINAL_WINDOW (R254): at B − 20 µs the dirty load is judged and the dirty words are copied; at B − 2 µs GO is sent
with the AO commands in effect (R245), unless an urgent task has been dispatched since. -/
def execSyncFinalWindow (s : State) : Result :=
  .next (
    if !s.inControl ∨ s.link.sendPhase ≠ 5 then s
    else
      match s.link.goAt with
      | none =>
        (match s.windowDue with
         | some b =>
           if s.qualifies = true ∧ s.link.phase2Dirty = false ∧ s.get Reg.syncDs + 40 * s.get Reg.syncDr ≤ 800 then
             let s1 := s.sendDirty
             { s1 with link := { s1.link with goAt := some b }, drv := { s1.drv with urgentInW := false } }
           else s
         | none => s)
      | some b =>
        if !s.matches (b - 2000) then s
        else if s.drv.urgentInW then { s with link := { s.link with goAt := some s.now } }.flushWindow
        else
          let s1 := (s.sendSyncCtl 6 3 0 0 b).aoStanding b
          let s2 := { s1 with link := { s1.link with sendPhase := 6 } }
          if s2.mode = mSolo then s2.autoPend 18 0x0F b else s2)

/-- CONVERGENCE_LIMIT_EXPIRY (R255). -/
def execConvergenceLimitExpiry (s : State) : Result :=
  .next (
    match s.link.phase3At with
    | some t =>
      if s.mode = mSync ∧ s.link.goAt = none ∧ s.due (t + (s.get Reg.convlim : Int) * 1000000000) = true then s.syncFail 3 0x0B else s
    | none => s)

/-! OBJECT -/

/-- An image segment set is complete: in SYNC phase 1, or for the idle flash slot of a standby (R174). -/
def State.objImage (s : State) (b : Bytes) : State :=
  if s.mode = mSync then s.takeSyncImage b
  else if s.mode = mStandby then (s.setFlashFile (2 + s.idleSlot) b).markFlash (2 + s.idleSlot) false
  else s

/-- A commit set from the partner: both modules check it (R297). -/
def State.objCommit (s : State) (b : Bytes) : State :=
  match Config.decCommit b with
  | none => s
  | some (l, n) =>
    let v (i : Nat) : Int := n.getD i 0
    if s.mode = mStandby ∧ s.tarn.state < 2 then
      s.setTarn fun t =>
        { t with state := 2, entries := (l.zipIdx).map (fun (e : (Nat × Nat × Bytes) × Nat) =>
                   TarnEntry.mk e.1.1 e.1.2.1 e.1.2.2 (v (5 + 2 * e.2)).toNat (v (6 + 2 * e.2))),
                 checkAt := some s.now, client := (v 0).toNat, role := (v 1).toNat,
                 reqSeq := (t.seq + 2 ^ 32 - 1) % 2 ^ 32, alone := false,
                 companion := v 3 == 1, earliest := v 4, fails := [], failCount := 0, passed := false, written := false,
                 prepared := false }
    else s

/-- A force change from the partner, with its instant (R166). -/
def State.objForce (s : State) (b : Bytes) : State :=
  match Config.decForce b with
  | some (p, w, t, client) =>
    if s.mode = mStandby ∨ s.mode = mSync then
      { s with pimg := { s.pimg with changes := s.pimg.changes ++ [(ForceChange.mk p w t client)] } }
    else s
  | none => s

/-- A yearling report from the standby (R184). -/
def State.objReport (s : State) (b : Bytes) : State :=
  match Config.decReport b with
  | some (seq, diff, l) =>
    if s.mode = mPrimary then
      let s1 := ((s.set Reg.repSeq seq).set Reg.xchDiff diff).setXch 6 0
      ({ s1 with xch := { s1.xch with report := l.map parseReport, ran := true, void := s1.xch.trialGen != s1.generation } }).showReport
        |>.event .trialEnded [1, seq, diff]
    else s
  | none => s

/-- The effect of an OBJECT set, by its kind (R234). -/
def State.objDone (s : State) (kind : Nat) (b : Bytes) : State :=
  match kind with
  | 1 => s.objImage b
  | 2 => s.objCommit b
  | 3 => s.objForce b
  | 4 => s.objReport b
  | _ => s

/-- A part of an OBJECT set; the set takes effect when every byte has arrived. DESIGN CHOICE (log 62). -/
def State.objPart (s : State) (kind part total : Nat) (words : List TW) : State :=
  let rest := s.link.objs.filter fun o => o.kind != kind
  let old := match s.link.objs.find? fun o => o.kind == kind with
    | some o => if o.total = total ∧ (SMap.find o.parts part).isNone = true then o.parts else []
    | none => []
  let parts := SMap.set old part (valueBytes words)
  let all := parts.flatMap fun e => e.2
  if parts.map (fun e => e.1) = List.range parts.length ∧ total ≤ all.length then
    ({ s with link := { s.link with objs := rest } }.showFree).objDone kind (all.take total)
  else { s with link := { s.link with objs := ObjRx.mk kind total parts :: rest } }.showFree

/-- OBJECT (R233, R234). -/
def execObject (lane : Fin 2) (f : EwxFrame) (s : State) : Result :=
  .next (s.onFrame lane.val f ftObject (fun _ => true) fun fr t =>
    let v := fr.num 0
    if t.runtime then t.objPart (v % 16) (v / 2 ^ 16 % 65536) (v / 2 ^ 32) (fr.payload.drop 1) else t)

end Sys2Proof.Machine
end

