-- ==== Sys2Proof/Machine/PairCmds.lean ====
section
/-! DEFINITION. The commands of role negotiation and swap (R242, R243), of the frames of each cycle (R244 to R247) and of the
targeted self-test (R249 to R251). -/

namespace Sys2Proof.Machine

/-- Kind of a ROLE frame (R234): bit 4 marks a confirmation. -/
def Frame.roleKind (f : Frame) : Nat := if (f.num 0).testBit 4 then 16 else f.num 0 % 4

/-- A ROLE frame of one kind. -/
def State.onRole (s : State) (lane : Fin 2) (f : EwxFrame) (kind : Nat) (k : Frame → State → State) : State :=
  s.onFrame lane.val f ftRole (fun fr => fr.roleKind == kind) k

/-! Start claims (R242) -/

/-- START_CLAIM: a claim is refused while this module or its partner is in control. DEDUCED (log 60). -/
def execStartClaim (lane : Fin 2) (f : EwxFrame) (s : State) : Result :=
  .next (s.onRole lane f 1 fun fr t =>
    if t.inControl ∨ t.partnerControls = true then t
    else { t with link := { t.link with claimPartner := some t.now, claimPref := (fr.num 0).testBit 2 } })

/-- This module wins against the partner's claim. DEDUCED (log 60). -/
def State.claimWins (s : State) : Bool :=
  let own := s.flag Reg.prefpri
  (own && !s.link.claimPref) || (own == s.link.claimPref && s.get Reg.blwPos == 0)

/-- START_CLAIM_WAIT_EXPIRY: 1 ms after this module's claim. DEDUCED (log 60). -/
def execStartClaimWaitExpiry (s : State) : Result :=
  .next (
    match s.link.claimOwn with
    | none => s
    | some t =>
      if !s.due (t + 1000000) then s
      else
        let s1 := { s with link := { s.link with claimOwn := none, claimPartner := none } }
        let other := match s.link.claimPartner with
          | some u => decide (t - 1000000 ≤ u)
          | none => false
        if s.mode ≠ mIsolated then s1
        else if other && !s.claimWins then s1
        else if s.startOk then s1.start s.link.claimCause
        else s1.noteWarm)

/-! Swap (R243) -/

/-- SWAP_PROPOSAL: a standby accepts at once. -/
def execSwapProposal (lane : Fin 2) (f : EwxFrame) (s : State) : Result :=
  .next (s.onRole lane f 2 fun fr t =>
    if t.mode ≠ mStandby then t
    else
      let t1 := t.sendRole 3 fr.seq (fr.time 1)
      { t1 with link := { t1.link with swap := some (Swap.mk fr.seq (fr.time 1) true false) } })

/-- SWAP_ACCEPTANCE: by B − 200 µs; the confirmation goes out and transition 15 is pending at B. -/
def execSwapAcceptance (lane : Fin 2) (f : EwxFrame) (s : State) : Result :=
  .next (s.onRole lane f 3 fun fr t =>
    match t.link.swap with
    | some w =>
      if t.mode = mPrimary ∧ w.accepted = false ∧ fr.num 0 / 2 ^ 32 = w.seq ∧ t.now ≤ w.b - 200000 ∧ t.md.pend = none then
        let t1 := { t with link := { t.link with swap := some { w with accepted := true } } }
        (t1.sendRole 19 w.seq w.b).pendTrans 15 0x1C w.b
      else t
    | none => t)

/-- SWAP_CONFIRMATION. -/
def execSwapConfirmation (lane : Fin 2) (f : EwxFrame) (s : State) : Result :=
  .next (s.onRole lane f 16 fun fr t =>
    match t.link.swap with
    | some w =>
      if t.mode = mStandby ∧ w.confirmed = false ∧ fr.time 1 = w.b then
        ({ t with link := { t.link with swap := some { w with confirmed := true } } }).pendTrans 11 0x1C w.b
      else t
    | none => t)

/-- SWAP_ACCEPTANCE_DEADLINE: the swap lapses on the primary. -/
def execSwapAcceptanceDeadline (s : State) : Result :=
  .next (
    match s.link.swap with
    | some w =>
      if s.mode = mPrimary ∧ w.accepted = false ∧ w.b - 200000 < s.now then
        ({ s with link := { s.link with swap := none } }).event .swapLapsed [w.b]
      else s
    | none => s)

/-- SWAP_BOUNDARY: at B, transition 15 with the acceptance, transition 11 with the confirmation (R131); otherwise the swap
lapses on the standby. -/
def execSwapBoundary (s : State) : Result :=
  .next (
    match s.link.swap with
    | some w =>
      if !s.due w.b then s
      else if s.mode = mPrimary ∧ w.accepted = true then s.transit 15 0x1C
      else if s.mode = mStandby ∧ w.confirmed = true then (s.transit 11 0x1C).skipCheck
      else if s.mode = mStandby then ({ s with link := { s.link with swap := none } }).event .swapLapsed [w.b]
      else s
    | none => s)

/-- SWAP_REVERSAL: the former primary takes transition 11 again, with a record. -/
def execSwapReversal (s : State) : Result :=
  .next (
    match s.link.reversalAt with
    | some b => if s.mode = mStandby ∧ s.due b = true then ((s.transit 11 0x1C).event .swapReversed [b]).skipCheck else s
    | none => s)

/-! Frames of each cycle -/

/-- SNAPSHOT (R17, R80, R244): words into the standby's destinations, for the task's cycle of the release named, whose word
it brings; a list that BLW cannot read takes none (R267). -/
def State.takeSnapshot (s : State) (fr : Frame) : State :=
  let v := fr.num 0
  let n := v % 32 + if v.testBit 5 then 32 else 0
  let k0 := v / 2 ^ 16 % 65536
  if s.mode ≠ mStandby ∨ (s.task n).rel ≠ some (fr.time 1) ∨ !s.openCycle n then s
  else
    match s.snapRead n with
    | (none, t) => t
    | (some l, t) =>
      let items := (fr.payload.drop 2).zip (l.drop k0)
      let s1 := t.each items fun e u => u.store e.2.2 e.1
      let got := if l.isEmpty then [0] else (List.range items.length).map (· + k0)
      s1.setTask n fun k => { k with relWord := fr.payload.getD 1 k.relWord, got := got ++ k.got }

/-- SNAPSHOT. -/
def execSnapshot (lane : Fin 2) (f : EwxFrame) (s : State) : Result :=
  .next (s.onFrame lane.val f ftSnapshot (fun _ => true) fun fr t => t.takeSnapshot fr)

/-- TRIGGER (R133, R254): the standby runs the task on the record; a module that takes STANDBY at the coming boundary holds
it. -/
def execTrigger (lane : Fin 2) (f : EwxFrame) (s : State) : Result :=
  .next (s.onFrame lane.val f ftTrigger (fun _ => true) fun fr t =>
    let n := fr.num 0 % 32
    let rec_ := if (fr.num 0).testBit 5 then [] else fr.payload.drop 1
    let at_ := fr.time 2
    if t.mode = mStandby then t.trigger n at_ rec_
    else if t.mode = mSync ∧ t.link.goAt.isSome = true ∧ 16 ≤ n ∧ n < 24 then t.holdTrigger n at_ rec_
    else t)

/-- A commanded current in nA, from mA as FLOAT64 (R234). -/
def nanoAmps (w : TW) : Int := ((Frac.ofF64 w.val).mul (.ofInt 1000000)).round .nearest

/-- The mode and instant of an AO command that a module takes (R20, R143, R245): an urgent one at once, another before its
output instant; in SYNC the one for the boundary of GO. DEDUCED (log 112). -/
def State.takesAocmd (s : State) (at_ : Int) : Bool :=
  if s.mode = mStandby then at_ == 0 || decide (s.now < at_)
  else if s.mode = mPrimary then decide (s.now < at_)
  else s.mode == mSync && s.link.goAt == some at_

/-- AOCMD (R20, R126, R135, R245): an urgent command takes effect at once, in place of one that waits (R136), another at its
output instant. A command whose word the sink excludes is the safe current (R394). -/
def execAocmd (lane : Fin 2) (f : EwxFrame) (s : State) : Result :=
  .next (s.onFrame lane.val f ftAocmd (fun _ => true) fun fr t =>
    if !t.takesAocmd (fr.time 0) then t
    else
      t.each ((List.range 8).filter fun n => (fr.num 1).testBit n) fun n u =>
        let w := fr.payload.getD (2 + n) ⟨0#64, 0#8⟩
        if fr.time 0 = 0 then (u.set (Reg.aopValid n) 0).setC n (nanoAmps w) (aoExcluded w)
        else (u.set (Reg.aoSusp n) 0).aoPend n (nanoAmps w) (aoExcluded w))

/-- A SEAL frame's record (R234). -/
def Frame.seal (f : Frame) : SealRec :=
  let v := f.num 0
  let w (i : Nat) : Word := BitVec.ofNat 64 (f.num i)
  ⟨v % 32, v.testBit 5, f.time 1, w 2, w 3, w 4⟩

/-- SEAL (R247). -/
def execSeal (lane : Fin 2) (f : EwxFrame) (s : State) : Result :=
  .next (s.onFrame lane.val f ftSeal (fun _ => true) fun fr t =>
    if t.mode = mStandby ∨ t.mode = mPrimary then (t.holdSeal false fr.seal).judgeTrials else t)

/-- SEAL_RECORD_MISSING (R247): the oldest record of a task whose counterpart is not held by its deadline. -/
def execSealRecordMissing (task : Fin 24) (s : State) : Result :=
  .next (
    match (s.link.seals ++ s.link.pSeals).find? fun r => r.task == task.val && s.due (s.sealDeadline r) with
    | some r => (s.sealMissing r).judgeTrials
    | none => s)

/-! Targeted self-test (R249 to R251) -/

/-- What the two results, as far as they are known, make the module do (R250). -/
def State.diagAct (s : State) : State :=
  let own := s.get Reg.diagOwn
  let part := s.get Reg.diagPart
  let s0 := if own ≠ 0 then s.set Reg.diagState (if part = 0 then 2 else 3) else s
  if s0.mode = mStandby then
    if own = 2 then s0.latch 0x15 0
    else if own = 1 ∧ part = 1 then s0.autoPend 14 0x11 (s0.boundaryAfter s0.now)
    else s0
  else if s0.mode = mPrimary then
    if part = 2 then s0.partnerLeft 0x0E
    else if own = 2 ∧ part = 1 then s0.latch 0x15 0
    else s0
  else if s0.mode = mSolo ∧ own = 2 then s0.latch 0x15 0
  else if s0.mode = mSolo ∧ own = 1 then { s0 with link := { s0.link with test := none } }
  else s0

/-- Words that part 2 of the self-test of a unit reads (R249). -/
def State.testReads (s : State) (u a : Nat) : Bool :=
  let slot := 0x1000000 + 0x200000 * s.activeSlot
  let own (n : Nat) : Bool :=
    s.pairOf n == u && ((s.snapList n).any (fun e => e.2 == a) || (s.outList n).any (fun e => e.2 == a)
      || (decide (s.scrOf n ≤ a) && decide (a < s.scrOf n + s.get (Reg.tscrl n))))
  (decide (slot ≤ a) && decide (a < slot + 0x200000)) || (decide (0x2000000 ≤ a) && decide (a < 0x2100000))
    || (List.range 24).any own

/-- Part 2 (R249): a corrected word is recorded, an uncorrectable one is recorded and fails the test, whose consequence is
that of R250. DEDUCED (log 39). -/
def State.testMemory (s : State) (u : Nat) : Bool × State :=
  let hit := (s.upsets.map fun e => e.1).filter fun a => s.testReads u a
  let bad := hit.filter fun a => decide (2 ≤ eccKind (s.flips a))
  let s1 := s.each (hit.filter fun a => eccKind (s.flips a) == 1) fun a t => (t.eccRead (agLoad 12) a).2
  (!bad.isEmpty, s1.each bad fun a t =>
    t.eccNote (agLoad 12) (areaCode (areaOf a)) a (eccKind (t.flips a)) (syndrome (t.flips a) 0#32))

/-- TARGETED_SELF_TEST_END (R249): what the injection test of the unit misses, of its comparator or
its FIFO, is the operand; the second part reads memory, a cluster below its floor is the third. A test not complete at 2 s
has failed. -/
def execTargetedSelfTestEnd (comparator fifo : Bool) (s : State) : Result :=
  .next (
    match s.link.test with
    | none => s
    | some x =>
      if !x.running then s
      else
        let u := s.pairOf x.task
        let m := s.testMemory u
        let part := if comparator || fifo then 1 else if m.1 then 2 else if s.flag (Reg.spdBelow (u / 4)) then 3 else 0
        let res := if part = 0 ∧ s.now < x.start + 2000000000 then 1 else 2
        let s1 := ({ m.2 with link := { m.2.link with test := some { x with running := false } } }).set Reg.diagOwn res
        let s2 := (s1.event .selfTestResult [res, part, u]).sendFrame ftDiag 0 false
          [wBits (res + part * 16 + s1.get Reg.diagUnits * 2 ^ 16), wTime x.at_]
        s2.diagAct)

/-- DIAG (R250): the partner's result. -/
def execDiag (lane : Fin 2) (f : EwxFrame) (s : State) : Result :=
  .next (s.onFrame lane.val f ftDiag (fun _ => true) fun fr t =>
    let t1 := t.set Reg.diagPart (fr.num 0 % 4)
    if t.link.test.isSome then t1.diagAct else t1)

/-- DIAG_TIMEOUT (R250): 2.5 s after the disagreement the primary takes Fail, a standby that has passed takes Pass. -/
def execDiagTimeout (s : State) : Result :=
  .next (
    match s.link.test with
    | some x =>
      if s.due (x.start + 2500000000) && s.get Reg.diagPart == 0 then
        if s.mode = mPrimary then (s.set Reg.diagPart 2).diagAct
        else if s.mode = mStandby ∧ s.get Reg.diagOwn = 1 then (s.set Reg.diagPart 1).diagAct
        else s
      else s
    | none => s)

/-- WEIR (R146, R147): the decision for the boundary of this module's window. -/
def execWeir (lane : Fin 2) (f : EwxFrame) (s : State) : Result :=
  .next (s.onFrame lane.val f ftWeir (fun _ => true) fun fr t =>
    if t.mode = mStandby ∧ t.drv.window = some (fr.time 1) ∧ t.weirKindNow = fr.num 0 % 2 then
      t.weirDecide ((fr.num 0).testBit 8)
    else t)

end Sys2Proof.Machine
end

