-- ==== Sys2Proof/Machine/VopCmds.lean ====
section
/-! DEFINITION. The commands of VOP and VOP-C (R323 to R332, R450). -/

namespace Sys2Proof.Machine

/-! Sessions -/

/-- VOP is served on a port (R36, R472): without a plant trust anchor on NETS in ISOLATED only. -/
def State.vopServed (s : State) (port : Nat) : Bool :=
  s.runtime && (!s.lcs.anchor.isEmpty || (port == 2 && s.mode == mIsolated))

/-- Client identity of a certificate (R324): the first 8 bytes of its digest. -/
def clientOf (cert : Bytes) : Nat := leNat ((leBytes 48 (Config.sha384 cert).toNat).reverse.take 8)

def State.handshakeRefused (s : State) (port : Nat) : State :=
  ({ s with net := { s.net with hsRefused := s.net.hsRefused + 1 } }).event .handshakeRefused [port]

/-- DTLS_HANDSHAKE (R323 to R325, R472): a ClientHello without a cookie is answered with a HelloRetryRequest and leaves
nothing; `ok` is whether the rest of RFC 9147 (suite, proof of the key) is met, `cert` the client's certificate. The first
client certificate where no anchor is held becomes the anchor, and its session may take EXPERT.
DEDUCED (log 73). DESIGN CHOICE (log 74). -/
def execDtlsHandshake (port : Fin 3) (cookie ok : Bool) (cert : Bytes) (s : State) : Result :=
  .next (
    if !s.vopServed port then s
    else if !cookie then s.emit (.hello port)
    else if !ok ∨ 8 ≤ s.net.sessions.length ∨ (!s.lcs.anchor.isEmpty && !Config.certChains s.lcs.anchor cert) then
      s.handshakeRefused port
    else
      let first := s.lcs.anchor.isEmpty
      let n := s.net.nextSession
      let x : Session := { id := n, port := port, client := clientOf cert, maxRole := if first then rExpert else 0, lastReq := s.now }
      let s1 := { s with net := { s.net with sessions := s.net.sessions ++ [x], nextSession := n + 1 } }
      if first then { s1 with lcs := { s1.lcs with anchor := cert } }.event .anchorTaken [x.client] else s1)

/-- SESSION_IDLE_TIMEOUT (R325). -/
def execSessionIdleTimeout (s : State) : Result :=
  .next (s.closeSessions fun x => s.due (x.lastReq + (s.odNat 0x1100 2 : Int) * 1000000000))

/-! Services -/

/-- READ. -/
def execRead (r : VopReq) (s : State) : Result := .next (s.vopRequest 1 r)
/-- WRITE. -/
def execWrite (r : VopReq) (s : State) : Result := .next (s.vopRequest 2 r)
/-- SEG_INIT. -/
def execSegInit (r : VopReq) (s : State) : Result := .next (s.vopRequest 3 r)
/-- SEG_DATA. -/
def execSegData (r : VopReq) (s : State) : Result := .next (s.vopRequest 4 r)
/-- SEG_END. -/
def execSegEnd (r : VopReq) (s : State) : Result := .next (s.vopRequest 5 r)
/-- SESSION_OPEN. -/
def execSessionOpen (r : VopReq) (s : State) : Result := .next (s.vopRequest 6 r)
/-- EVENT_READ. -/
def execEventRead (r : VopReq) (s : State) : Result := .next (s.vopRequest 7 r)
/-- KEEPALIVE. -/
def execKeepalive (r : VopReq) (s : State) : Result := .next (s.vopRequest 8 r)

/-- SEGMENT_TIMEOUT (R330). -/
def execSegmentTimeout (s : State) : Result :=
  .next (
    match s.net.transfer with
    | some t => if s.due (t.at_ + 10000000000) then s.dropTransfer else s
    | none => s)

/-! VOP-C (R331, R332) -/

/-- VOP-C is served on a channel. DESIGN CHOICE (log 77). -/
def State.vopcOn (s : State) (ch : Nat) : Bool := s.runtime && s.inControl && s.odNat 0x1120 1 == ch

/-- CONSECUTIVE frames of a message, 63 bytes each. -/
def vopcRest : Nat → Nat → Bytes → List Bytes
  | 0, _, _ => []
  | fuel + 1, q, b => if b.isEmpty then [] else (leBytes 1 (0x80 + q % 64) ++ b.take 63) :: vopcRest fuel (q + 1) (b.drop 63)

/-- A frame has 64 bytes; what stands behind the message is not stated. DEDUCED (log 76). -/
def vopcPad (free : Nat) (f : Bytes) : Bytes := f ++ (List.range (64 - f.length)).map fun k => Config.vopcPad free (f.length + k)

/-- Frames of a message (R331). DEDUCED (log 76). -/
def vopcFrames (free : Nat) (b : Bytes) : List Bytes :=
  (if b.length ≤ 62 then [[0#8] ++ leBytes 1 b.length ++ b]
   else ([0x40#8] ++ leBytes 2 b.length ++ b.take 61) :: vopcRest 17 1 (b.drop 61)).map (vopcPad free)

/-- A frame of a kind with the request identifier on the channel that serves VOP-C (R331): 64 bytes of an FD frame. -/
def State.vopcTakes (s : State) (ch kind : Nat) (f : VopcFrame) : Bool :=
  s.vopcOn ch && f.id.toNat == s.odNat 0x1120 2 && f.bytes.length == 64 && (f.bytes.getD 0 0#8).toNat / 64 == kind

def State.setVopc (s : State) (v : Option VopcRx) : State := { s with net := { s.net with vopc := v } }

/-- A whole message (R326, R332): one without a header cannot be answered. DESIGN CHOICE (log 77). -/
def State.vopcMessage (s : State) (ch : Nat) (m : Bytes) (waiting outstanding : Nat) : State :=
  let f (o n : Nat) : Nat := leNat ((m.drop o).take n)
  if m.length < 12 then s
  else
    let ok := f 0 1 == 1 && f 7 1 == 0 && f 8 2 == 0 && f 10 2 == m.length - 12
    let s1 := { s with net := { s.net with waiting := waiting, vopcOut := outstanding }, free := s.free + 1 }
    let r : VopReq := ⟨0, BitVec.ofNat 16 (f 2 2), BitVec.ofNat 16 (f 4 2), BitVec.ofNat 8 (f 6 1), m.drop 12, ok, waiting, outstanding⟩
    s1.vopTake (f 1 1) r none s.net.vopcKept (fun l t => { t with net := { t.net with vopcKept := l } })
      (fun b t => t.emit (.vopc ch (s.odNat 0x1120 3) (vopcFrames s.free b)))

/-- SINGLE: a frame of this kind on the channel with the request identifier; requests waiting and outstanding. -/
def execSingle (ch : Fin 16) (f : VopcFrame) (waiting outstanding : Nat) (s : State) : Result :=
  let n := (f.bytes.getD 1 0#8).toNat
  .next (
    if s.vopcTakes ch 0 f ∧ n ≤ 62 then
      (s.setVopc none).vopcMessage ch ((f.bytes.drop 2).take n) waiting outstanding
    else s)

/-- FIRST. -/
def execFirst (ch : Fin 16) (f : VopcFrame) (s : State) : Result :=
  let n := leNat ((f.bytes.drop 1).take 2)
  .next (
    if s.vopcTakes ch 1 f then s.setVopc (if 63 ≤ n ∧ n ≤ 1036 then some ⟨n, f.bytes.drop 3, 1, s.now⟩ else none) else s)

/-- CONSECUTIVE: out of sequence or later than 100 ms, the message is discarded. DEDUCED (log 76). -/
def execConsecutive (ch : Fin 16) (f : VopcFrame) (waiting outstanding : Nat) (s : State) : Result :=
  .next (
    match s.net.vopc with
    | none => s
    | some x =>
      if !s.vopcTakes ch 2 f then s
      else if x.at_ + 100000000 < s.now ∨ (f.bytes.getD 0 0#8).toNat % 64 ≠ x.next % 64 then s.setVopc none
      else
        let got := x.got ++ f.bytes.drop 1
        if x.total ≤ got.length then (s.setVopc none).vopcMessage ch (got.take x.total) waiting outstanding
        else s.setVopc (some { x with got := got, next := x.next + 1, at_ := s.now }))

/-- ABORT. -/
def execAbort (ch : Fin 16) (f : VopcFrame) (s : State) : Result :=
  .next (if s.vopcTakes ch 3 f then s.setVopc none else s)

/-- VOPC_FRAME_GAP_TIMEOUT. -/
def execVopcFrameGapTimeout (s : State) : Result :=
  .next (
    match s.net.vopc with
    | some x => if x.at_ + 100000000 < s.now then s.setVopc none else s
    | none => s)

end Sys2Proof.Machine
end

