-- ==== Sys2Proof/Machine/WeirCmds.lean ====
section
/-! DEFINITION. The commands of the boundary search (R144 to R147, R514). -/

namespace Sys2Proof.Machine

/-- WEIR_SEARCH_ARM (R514): a write of DRV.WEIRCTL by the supervisor pair. -/
def execWeirSearchArm (w : BitVec 32) (s : State) : Result := .next (if s.runtime then s.weirWrite w.toNat else s)

/-- Whether a window opens for a boundary (R144, R145, R300): on a standby in every window of the fastest task's grid. -/
def State.windowFor (s : State) (b : Int) : Bool :=
  let from_ := s.getHalves Reg.weirAtl Reg.weirAth
  let limit := match s.drv.searchAt with
    | some t => decide (b ≤ t + (s.get Reg.weirHorizon : Int) * 10000000)
    | none => false
  s.flag Reg.weirArm && s.drv.window.isNone && decide (from_ ≤ b) && limit && (s.mode == mStandby || s.qualifies)

/-- WEIR_WINDOW_OPEN (R144, R145, R187, R300). -/
def execWeirWindowOpen (s : State) : Result :=
  .next (
    match s.windowDue with
    | some b => if s.windowFor b then s.windowOpen b else s
    | none => s)

/-- WEIR_DECISION (R146): at B − 2 µs; a module without a partner in STANDBY decides for itself alone. -/
def execWeirDecision (s : State) : Result :=
  .next (
    match s.drv.window with
    | some b =>
      if s.mode = mStandby ∨ s.drv.decision.isSome ∨ !s.matches (b - 2000) then s
      else
        let go := !s.drv.urgentInW && s.weirPrepared
        (if s.mode = mPrimary then s.sendWeir s.weirKindNow go b else s).weirDecide go
    | none => s)

/-- WEIR_APPLY (R147, R188, R301): at B; without a GO naming B what was prepared is discarded and the search goes on. -/
def execWeirApply (s : State) : Result :=
  .next (
    match s.drv.window with
    | some b =>
      if !s.matches b then s
      else if s.drv.decision = some true ∧ s.weirPrepared = true then s.weirApply b
      else s.weirUnprepare.weirTo 1
    | none => s)

/-- WEIR_HORIZON_EXPIRY (R145). -/
def execWeirHorizonExpiry (s : State) : Result :=
  .next (
    match s.drv.searchAt with
    | some t =>
      if s.flag Reg.weirArm ∧ s.drv.window = none ∧ s.due (t + (s.get Reg.weirHorizon : Int) * 10000000 + 1) = true then s.weirFail
      else s
    | none => s)

end Sys2Proof.Machine
end

