-- ==== Sys2Proof/Machine/Dispatch.lean ====
section
/-! DEFINITION. The meaning of every command. -/

namespace Sys2Proof.Machine

def exec (i : Instr) (s : State) : Host.Outcome State Fault Refusal :=
  match i with
  | .supplyReturn a b => Sys2Proof.Machine.execSupplyReturn a b s
  | .bootEnd env => Sys2Proof.Machine.execBootEnd env s
  | .feedDomainCollapse => Sys2Proof.Machine.execFeedDomainCollapse s
  | .feedsLowWarning va vb => Sys2Proof.Machine.execFeedsLowWarning va vb s
  | .singleFeedLoss f va vb => Sys2Proof.Machine.execSingleFeedLoss f va vb s
  | .singleFeedReturn f va vb => Sys2Proof.Machine.execSingleFeedReturn f va vb s
  | .join sess => Sys2Proof.Machine.execJoin sess s
  | .start sess => Sys2Proof.Machine.execStart sess s
  | .isolate sess => Sys2Proof.Machine.execIsolate sess s
  | .isolateSolo sess => Sys2Proof.Machine.execIsolateSolo sess s
  | .isolateSoloLapse sess => Sys2Proof.Machine.execIsolateSoloLapse sess s
  | .swap sess => Sys2Proof.Machine.execSwap sess s
  | .restart sess => Sys2Proof.Machine.execRestart sess s
  | .safe sess => Sys2Proof.Machine.execSafe sess s
  | .authenticatedReset sess count cause => Sys2Proof.Machine.execAuthenticatedReset sess count cause s
  | .modeRequest w => Sys2Proof.Machine.execModeRequest w s
  | .autoJoin => Sys2Proof.Machine.execAutoJoin s
  | .autoStart => Sys2Proof.Machine.execAutoStart s
  | .autoJoinRetryWait => Sys2Proof.Machine.execAutoJoinRetryWait s
  | .latchingFault d => Sys2Proof.Machine.execLatchingFault d s
  | .pendingTransitionBoundary => Sys2Proof.Machine.execPendingTransitionBoundary s
  | .heartbeatSend => Sys2Proof.Machine.execHeartbeatSend s
  | .heartbeat lane f => Sys2Proof.Machine.execHeartbeat lane f s
  | .laneDown lane => Sys2Proof.Machine.execLaneDown lane s
  | .laneTraining lane => Sys2Proof.Machine.execLaneTraining lane s
  | .heartbeatAbsent => Sys2Proof.Machine.execHeartbeatAbsent s
  | .settleIntervalExpiry => Sys2Proof.Machine.execSettleIntervalExpiry s
  | .toggleAbsent => Sys2Proof.Machine.execToggleAbsent s
  | .exit lane f => Sys2Proof.Machine.execExit lane f s
  | .startClaim lane f => Sys2Proof.Machine.execStartClaim lane f s
  | .startClaimWaitExpiry => Sys2Proof.Machine.execStartClaimWaitExpiry s
  | .swapProposal lane f => Sys2Proof.Machine.execSwapProposal lane f s
  | .swapAcceptance lane f => Sys2Proof.Machine.execSwapAcceptance lane f s
  | .swapConfirmation lane f => Sys2Proof.Machine.execSwapConfirmation lane f s
  | .swapAcceptanceDeadline => Sys2Proof.Machine.execSwapAcceptanceDeadline s
  | .swapBoundary => Sys2Proof.Machine.execSwapBoundary s
  | .swapReversal => Sys2Proof.Machine.execSwapReversal s
  | .snapshot lane f => Sys2Proof.Machine.execSnapshot lane f s
  | .trigger lane f => Sys2Proof.Machine.execTrigger lane f s
  | .aocmd lane f => Sys2Proof.Machine.execAocmd lane f s
  | .seal lane f => Sys2Proof.Machine.execSeal lane f s
  | .sealRecordMissing task => Sys2Proof.Machine.execSealRecordMissing task s
  | .targetedSelfTestEnd comparator fifo => Sys2Proof.Machine.execTargetedSelfTestEnd comparator fifo s
  | .diag lane f => Sys2Proof.Machine.execDiag lane f s
  | .diagTimeout => Sys2Proof.Machine.execDiagTimeout s
  | .weir lane f => Sys2Proof.Machine.execWeir lane f s
  | .syncdata lane f => Sys2Proof.Machine.execSyncdata lane f s
  | .syncctl lane f => Sys2Proof.Machine.execSyncctl lane f s
  | .syncPhaseEnd => Sys2Proof.Machine.execSyncPhaseEnd s
  | .syncFinalWindow => Sys2Proof.Machine.execSyncFinalWindow s
  | .convergenceLimitExpiry => Sys2Proof.Machine.execConvergenceLimitExpiry s
  | .mirror lane f => Sys2Proof.Machine.execMirror lane f s
  | .object lane f => Sys2Proof.Machine.execObject lane f s
  | .manifest lane f => Sys2Proof.Machine.execManifest lane f s
  | .echo lane f => Sys2Proof.Machine.execEcho lane f s
  | .echoSend lane => Sys2Proof.Machine.execEchoSend lane s
  | .ack lane f => Sys2Proof.Machine.execAck lane f s
  | .ackRetryExpiry ty seq => Sys2Proof.Machine.execAckRetryExpiry ty seq s
  | .intentTaken => Sys2Proof.Machine.execIntentTaken s
  | .release task trial => Sys2Proof.Machine.execRelease task trial s
  | .snapshotComplete task trial => Sys2Proof.Machine.execSnapshotComplete task trial s
  | .endOfCycle task trial => Sys2Proof.Machine.execEndOfCycle task trial s
  | .outputInstant task trial => Sys2Proof.Machine.execOutputInstant task trial s
  | .urgentTrigger task stamp rec => Sys2Proof.Machine.execUrgentTrigger task stamp rec s
  | .urgentPendingDispatch pair => Sys2Proof.Machine.execUrgentPendingDispatch pair s
  | .urgentBudgetExpiry task => Sys2Proof.Machine.execUrgentBudgetExpiry task s
  | .urgentStorePublish task => Sys2Proof.Machine.execUrgentStorePublish task s
  | .dozeEntry cluster => Sys2Proof.Machine.execDozeEntry cluster s
  | .dozeLead cluster => Sys2Proof.Machine.execDozeLead cluster s
  | .dozeRefresh cluster => Sys2Proof.Machine.execDozeRefresh cluster s
  | .weirSearchArm w => Sys2Proof.Machine.execWeirSearchArm w s
  | .weirWindowOpen => Sys2Proof.Machine.execWeirWindowOpen s
  | .weirDecision => Sys2Proof.Machine.execWeirDecision s
  | .weirApply => Sys2Proof.Machine.execWeirApply s
  | .weirHorizonExpiry => Sys2Proof.Machine.execWeirHorizonExpiry s
  | .usoftWrite w => Sys2Proof.Machine.execUsoftWrite w s
  | .add c rd rs1 b => Sys2Proof.Machine.execAdd c rd rs1 b s
  | .sub c rd rs1 b => Sys2Proof.Machine.execSub c rd rs1 b s
  | .mul c rd rs1 b => Sys2Proof.Machine.execMul c rd rs1 b s
  | .mulh c rd rs1 b => Sys2Proof.Machine.execMulh c rd rs1 b s
  | .div c rd rs1 b => Sys2Proof.Machine.execDiv c rd rs1 b s
  | .rem c rd rs1 b => Sys2Proof.Machine.execRem c rd rs1 b s
  | .neg c rd rs1 m => Sys2Proof.Machine.execNeg c rd rs1 m s
  | .abs c rd rs1 m => Sys2Proof.Machine.execAbs c rd rs1 m s
  | .clamp c rd rs1 rs2 m => Sys2Proof.Machine.execClamp c rd rs1 rs2 m s
  | .fadd c rd rs1 b => Sys2Proof.Machine.execFadd c rd rs1 b s
  | .fsub c rd rs1 b => Sys2Proof.Machine.execFsub c rd rs1 b s
  | .fmul c rd rs1 b => Sys2Proof.Machine.execFmul c rd rs1 b s
  | .fdiv c rd rs1 b => Sys2Proof.Machine.execFdiv c rd rs1 b s
  | .fma c rd rs1 rs2 m => Sys2Proof.Machine.execFma c rd rs1 rs2 m s
  | .fsqrt c rd rs1 m => Sys2Proof.Machine.execFsqrt c rd rs1 m s
  | .fabs c rd rs1 m => Sys2Proof.Machine.execFabs c rd rs1 m s
  | .fneg c rd rs1 m => Sys2Proof.Machine.execFneg c rd rs1 m s
  | .fclamp c rd rs1 rs2 m => Sys2Proof.Machine.execFclamp c rd rs1 rs2 m s
  | .tadd c rd rs1 b => Sys2Proof.Machine.execTadd c rd rs1 b s
  | .tsub c rd rs1 b => Sys2Proof.Machine.execTsub c rd rs1 b s
  | .trel c rd => Sys2Proof.Machine.execTrel c rd s
  | .padd c rd rs1 rs2 m => Sys2Proof.Machine.execPadd c rd rs1 rs2 m s
  | .psub c rd rs1 rs2 m => Sys2Proof.Machine.execPsub c rd rs1 rs2 m s
  | .pmul c rd rs1 rs2 m => Sys2Proof.Machine.execPmul c rd rs1 rs2 m s
  | .and c rd rs1 b => Sys2Proof.Machine.execAnd c rd rs1 b s
  | .or c rd rs1 b => Sys2Proof.Machine.execOr c rd rs1 b s
  | .xor c rd rs1 b => Sys2Proof.Machine.execXor c rd rs1 b s
  | .not c rd rs1 m => Sys2Proof.Machine.execNot c rd rs1 m s
  | .shl c rd rs1 b => Sys2Proof.Machine.execShl c rd rs1 b s
  | .shr c rd rs1 b => Sys2Proof.Machine.execShr c rd rs1 b s
  | .sar c rd rs1 b => Sys2Proof.Machine.execSar c rd rs1 b s
  | .rot c rd rs1 b => Sys2Proof.Machine.execRot c rd rs1 b s
  | .ext c rd rs1 b => Sys2Proof.Machine.execExt c rd rs1 b s
  | .ins c rd rs1 b => Sys2Proof.Machine.execIns c rd rs1 b s
  | .ceq c rd rs1 b => Sys2Proof.Machine.execCeq c rd rs1 b s
  | .cne c rd rs1 b => Sys2Proof.Machine.execCne c rd rs1 b s
  | .clt c rd rs1 b => Sys2Proof.Machine.execClt c rd rs1 b s
  | .cle c rd rs1 b => Sys2Proof.Machine.execCle c rd rs1 b s
  | .cun c rd rs1 b => Sys2Proof.Machine.execCun c rd rs1 b s
  | .sel c rd rs1 rs2 m => Sys2Proof.Machine.execSel c rd rs1 rs2 m s
  | .min c rd rs1 b => Sys2Proof.Machine.execMin c rd rs1 b s
  | .max c rd rs1 b => Sys2Proof.Machine.execMax c rd rs1 b s
  | .tget c rd rs1 => Sys2Proof.Machine.execTget c rd rs1 s
  | .tset c rd rs1 tag8 mask => Sys2Proof.Machine.execTset c rd rs1 tag8 mask s
  | .tcpy c rd rs1 rs2 m => Sys2Proof.Machine.execTcpy c rd rs1 rs2 m s
  | .qmin c rd rs1 rs2 m => Sys2Proof.Machine.execQmin c rd rs1 rs2 m s
  | .cvtif c rd rs1 m => Sys2Proof.Machine.execCvtif c rd rs1 m s
  | .cvtfi c rd rs1 m => Sys2Proof.Machine.execCvtfi c rd rs1 m s
  | .cvtiu c rd rs1 m => Sys2Proof.Machine.execCvtiu c rd rs1 m s
  | .cvtui c rd rs1 m => Sys2Proof.Machine.execCvtui c rd rs1 m s
  | .retype c rd rs1 rs2f m => Sys2Proof.Machine.execRetype c rd rs1 rs2f m s
  | .ppack c rd rs1 rs2 m => Sys2Proof.Machine.execPpack c rd rs1 rs2 m s
  | .phi c rd rs1 m => Sys2Proof.Machine.execPhi c rd rs1 m s
  | .plo c rd rs1 m => Sys2Proof.Machine.execPlo c rd rs1 m s
  | .ld c rd base ix up => Sys2Proof.Machine.execLd c rd base ix up s
  | .st c rs base ix => Sys2Proof.Machine.execSt c rs base ix s
  | .ldx c rd ref index up => Sys2Proof.Machine.execLdx c rd ref index up s
  | .stx c rs ref index => Sys2Proof.Machine.execStx c rs ref index s
  | .bz c rs off => Sys2Proof.Machine.execBz c rs off s
  | .bnz c rs off => Sys2Proof.Machine.execBnz c rs off s
  | .bq c rs cond off => Sys2Proof.Machine.execBq c rs cond off s
  | .blim c rs off => Sys2Proof.Machine.execBlim c rs off s
  | .bfrc c rs off => Sys2Proof.Machine.execBfrc c rs off s
  | .j c ix => Sys2Proof.Machine.execJ c ix s
  | .call c ix => Sys2Proof.Machine.execCall c ix s
  | .ret c => Sys2Proof.Machine.execRet c s
  | .limm c rd ix => Sys2Proof.Machine.execLimm c rd ix s
  | .lshi c rd ix => Sys2Proof.Machine.execLshi c rd ix s
  | .wait c => Sys2Proof.Machine.execWait c s
  | .trap c ix => Sys2Proof.Machine.execTrap c ix s
  | .csrr c rd addr => Sys2Proof.Machine.execCsrr c rd addr s
  | .csrw c rs addr => Sys2Proof.Machine.execCsrw c rs addr s
  | .tnow c rd => Sys2Proof.Machine.execTnow c rd s
  | .fence c => Sys2Proof.Machine.execFence c s
  | .eret c => Sys2Proof.Machine.execEret c s
  | .crr c rd rs1 ix => Sys2Proof.Machine.execCrr c rd rs1 ix s
  | .crw c rs rs1 ix => Sys2Proof.Machine.execCrw c rs rs1 ix s
  | .comparisonTimeout u => Sys2Proof.Machine.execComparisonTimeout u s
  | .pairStall u => Sys2Proof.Machine.execPairStall u s
  | .supervisorSeal => Sys2Proof.Machine.execSupervisorSeal s
  | .injectionTest pair miss => Sys2Proof.Machine.execInjectionTest pair miss s
  | .canaryReading unit reading tj => Sys2Proof.Machine.execCanaryReading unit reading tj s
  | .scrubAccess mram upset => Sys2Proof.Machine.execScrubAccess mram upset s
  | .scrubIntervalEnd => Sys2Proof.Machine.execScrubIntervalEnd s
  | .mpuRuleWrite w inflight => Sys2Proof.Machine.execMpuRuleWrite w inflight s
  | .mpuDrainComplete inflight => Sys2Proof.Machine.execMpuDrainComplete inflight s
  | .mpuDrainTimeout => Sys2Proof.Machine.execMpuDrainTimeout s
  | .load sess partner => Sys2Proof.Machine.execLoad sess partner s
  | .partnerLoadReportTimeout => Sys2Proof.Machine.execPartnerLoadReportTimeout s
  | .activate sess => Sys2Proof.Machine.execActivate sess s
  | .trialStart sess partner => Sys2Proof.Machine.execTrialStart sess partner s
  | .trialAbort sess partner => Sys2Proof.Machine.execTrialAbort sess partner s
  | .exchange sess partner companion seq diff earliest => Sys2Proof.Machine.execExchange sess partner companion seq diff earliest s
  | .exchangeAbort sess partner => Sys2Proof.Machine.execExchangeAbort sess partner s
  | .rollback sess partner companion seq diff earliest => Sys2Proof.Machine.execRollback sess partner companion seq diff earliest s
  | .releaseSlot sess partner => Sys2Proof.Machine.execReleaseSlot sess partner s
  | .trialStateTake => Sys2Proof.Machine.execTrialStateTake s
  | .precopyFirstPassEnd => Sys2Proof.Machine.execPrecopyFirstPassEnd s
  | .urgentEndKeepCopy pair => Sys2Proof.Machine.execUrgentEndKeepCopy pair s
  | .forceRequest sess p b => Sys2Proof.Machine.execForceRequest sess p b s
  | .removeForce sess p => Sys2Proof.Machine.execRemoveForce sess p s
  | .removeAllForces sess => Sys2Proof.Machine.execRemoveAllForces sess s
  | .forceApply => Sys2Proof.Machine.execForceApply s
  | .freshnessExpiry point => Sys2Proof.Machine.execFreshnessExpiry point s
  | .writePortQueueApply => Sys2Proof.Machine.execWritePortQueueApply s
  | .peerFrameReceive port head p => Sys2Proof.Machine.execPeerFrameReceive port head p s
  | .ethernetFrameReceive port fcsOk f => Sys2Proof.Machine.execEthernetFrameReceive port fcsOk f s
  | .arpIcmpAnswer port f => Sys2Proof.Machine.execArpIcmpAnswer port f s
  | .netLaunch port abort => Sys2Proof.Machine.execNetLaunch port abort s
  | .dtlsHandshake port cookie ok cert => Sys2Proof.Machine.execDtlsHandshake port cookie ok cert s
  | .sessionIdleTimeout => Sys2Proof.Machine.execSessionIdleTimeout s
  | .read r => Sys2Proof.Machine.execRead r s
  | .write r => Sys2Proof.Machine.execWrite r s
  | .segInit r => Sys2Proof.Machine.execSegInit r s
  | .segData r => Sys2Proof.Machine.execSegData r s
  | .segEnd r => Sys2Proof.Machine.execSegEnd r s
  | .sessionOpen r => Sys2Proof.Machine.execSessionOpen r s
  | .eventRead r => Sys2Proof.Machine.execEventRead r s
  | .keepalive r => Sys2Proof.Machine.execKeepalive r s
  | .segmentTimeout => Sys2Proof.Machine.execSegmentTimeout s
  | .single ch f waiting outstanding => Sys2Proof.Machine.execSingle ch f waiting outstanding s
  | .first ch f => Sys2Proof.Machine.execFirst ch f s
  | .consecutive ch f waiting outstanding => Sys2Proof.Machine.execConsecutive ch f waiting outstanding s
  | .abort ch f => Sys2Proof.Machine.execAbort ch f s
  | .vopcFrameGapTimeout => Sys2Proof.Machine.execVopcFrameGapTimeout s
  | .stagingWrite sess ix k b => Sys2Proof.Machine.execStagingWrite sess ix k b s
  | .commit sess companion seq earliest => Sys2Proof.Machine.execCommit sess companion seq earliest s
  | .discard sess => Sys2Proof.Machine.execDiscard sess s
  | .consistencyCheckEnd partner => Sys2Proof.Machine.execConsistencyCheckEnd partner s
  | .configurationCopyWritten => Sys2Proof.Machine.execConfigurationCopyWritten s
  | .liveWrite sess ix k b => Sys2Proof.Machine.execLiveWrite sess ix k b s
  | .liveGroupWrite sess b => Sys2Proof.Machine.execLiveGroupWrite sess b s
  | .liveFieldTakeup => Sys2Proof.Machine.execLiveFieldTakeup s
  | .timeMonitorWindow count differ pllLost => Sys2Proof.Machine.execTimeMonitorWindow count differ pllLost s
  | .ptpMessageReceive port m raw => Sys2Proof.Machine.execPtpMessageReceive port m raw s
  | .announceReceiptTimeout port => Sys2Proof.Machine.execAnnounceReceiptTimeout port s
  | .syncTransmit port => Sys2Proof.Machine.execSyncTransmit port s
  | .timeStep w => Sys2Proof.Machine.execTimeStep w s
  | .armOneStep sess => Sys2Proof.Machine.execArmOneStep sess s
  | .rateWrite w => Sys2Proof.Machine.execRateWrite w s
  | .timeLatchRead => Sys2Proof.Machine.execTimeLatchRead s
  | .canFrameReceive ch f sof => Sys2Proof.Machine.execCanFrameReceive ch f sof s
  | .canArbitrationStart ch => Sys2Proof.Machine.execCanArbitrationStart ch s
  | .canTransmitComplete ch sof => Sys2Proof.Machine.execCanTransmitComplete ch sof s
  | .canError ch e => Sys2Proof.Machine.execCanError ch e s
  | .recover ch => Sys2Proof.Machine.execRecover ch s
  | .recoveryDelayExpiry ch => Sys2Proof.Machine.execRecoveryDelayExpiry ch s
  | .busOffRecoveryComplete ch => Sys2Proof.Machine.execBusOffRecoveryComplete ch s
  | .canBusIdleSwitch ch => Sys2Proof.Machine.execCanBusIdleSwitch ch s
  | .objectLockRead ch => Sys2Proof.Machine.execObjectLockRead ch s
  | .objectLastWordRead ch => Sys2Proof.Machine.execObjectLastWordRead ch s
  | .objectSelect ch obj => Sys2Proof.Machine.execObjectSelect ch obj s
  | .objectLockTimeout ch => Sys2Proof.Machine.execObjectLockTimeout ch s
  | .queue ch => Sys2Proof.Machine.execQueue ch s
  | .withdraw ch => Sys2Proof.Machine.execWithdraw ch s
  | .aoMeasurement ch own total head supply => Sys2Proof.Machine.execAoMeasurement ch own total head supply s
  | .guardEngagementLoss ch => Sys2Proof.Machine.execGuardEngagementLoss ch s
  | .partnerExcess ch => Sys2Proof.Machine.execPartnerExcess ch s
  | .rampEnd ch => Sys2Proof.Machine.execRampEnd ch s
  | .aiConversion ch rawA rawB faultA faultB => Sys2Proof.Machine.execAiConversion ch rawA rawB faultA faultB s
  | .aiDriftComparison ch => Sys2Proof.Machine.execAiDriftComparison ch s
  | .clearDrift ch => Sys2Proof.Machine.execClearDrift ch s
  | .fskResponse ch bytes bad => Sys2Proof.Machine.execFskResponse ch bytes bad s
  | .fskResponseTimeout ch => Sys2Proof.Machine.execFskResponseTimeout ch s
  | .scanStart engine w => Sys2Proof.Machine.execScanStart engine w s
  | .scanEnd engine => Sys2Proof.Machine.execScanEnd engine s
  | .cvuSelfTest fail => Sys2Proof.Machine.execCvuSelfTest fail s
  | .post w => Sys2Proof.Machine.execPost w s
  | .recordCommit => Sys2Proof.Machine.execRecordCommit s
  | .cellMeasurement mv => Sys2Proof.Machine.execCellMeasurement mv s
  | .counterCopy => Sys2Proof.Machine.execCounterCopy s
  | .tamperOpening cover => Sys2Proof.Machine.execTamperOpening cover s
  | .rollingCheck rot => Sys2Proof.Machine.execRollingCheck rot s
  | .proofTestDue => Sys2Proof.Machine.execProofTestDue s
  | .firmwareTransfer sess b => Sys2Proof.Machine.execFirmwareTransfer sess b s
  | .bootFirmwareSlot sess slot => Sys2Proof.Machine.execBootFirmwareSlot sess slot s
  | .raiseFirmwareMinimum sess => Sys2Proof.Machine.execRaiseFirmwareMinimum sess s
  | .imageKeyEnrolment sess b => Sys2Proof.Machine.execImageKeyEnrolment sess b s
  | .trustAnchor sess b => Sys2Proof.Machine.execTrustAnchor sess b s
  | .moduleCertificate sess b => Sys2Proof.Machine.execModuleCertificate sess b s
  | .lifeCycleChange sess b upto => Sys2Proof.Machine.execLifeCycleChange sess b upto s
  | .writeLifeCycleEntry => Sys2Proof.Machine.execWriteLifeCycleEntry s
  | .revokeImageKeySlot => Sys2Proof.Machine.execRevokeImageKeySlot s
  | .writeImageKeySlot => Sys2Proof.Machine.execWriteImageKeySlot s
  | .raiseFwmin => Sys2Proof.Machine.execRaiseFwmin s
  | .maintenanceBusTransaction op => Sys2Proof.Machine.execMaintenanceBusTransaction op s
  | .mailboxDelivery => Sys2Proof.Machine.execMailboxDelivery s
  | .tapInstruction k probe st => Sys2Proof.Machine.execTapInstruction k probe st s
  | .tapTestExit => Sys2Proof.Machine.execTapTestExit s
  | .dapAccess a w => Sys2Proof.Machine.execDapAccess a w s
  | .laneRetrain lane => Sys2Proof.Machine.execLaneRetrain lane s
  | .csrWrite unit a w => Sys2Proof.Machine.execCsrWrite unit a w s
  | .partnerToggleEdge => Sys2Proof.Machine.execPartnerToggleEdge s
  | .laneTrained lane => Sys2Proof.Machine.execLaneTrained lane s
  | .eweoxFrameDiscard lane f => Sys2Proof.Machine.execEweoxFrameDiscard lane f s
  | .operatingTimeSecond => Sys2Proof.Machine.execOperatingTimeSecond s
  | .holdupDomainLoss => Sys2Proof.Machine.execHoldupDomainLoss s
  | .partnerContributionReturn ch => Sys2Proof.Machine.execPartnerContributionReturn ch s
  | .announceTransmit port => Sys2Proof.Machine.execAnnounceTransmit port s
  | .delayRequestTransmit port => Sys2Proof.Machine.execDelayRequestTransmit port s
  | .fskPollDue ch => Sys2Proof.Machine.execFskPollDue ch s
  | .fskRequestEnd ch => Sys2Proof.Machine.execFskRequestEnd ch s
  | .lifeCycleChangeResume upto => Sys2Proof.Machine.execLifeCycleChangeResume upto s

end Sys2Proof.Machine
end

