-- ==== Sys2Proof/Machine/Tick.lean ====
section
/-! DEFINITION. What a clock tick does while no command waits. -/

namespace Sys2Proof.Machine

/-- The intent switch, once closed, may open again at a tick: no command of the table brings that, and it undoes nothing
(R256, R261). DEDUCED (log 24). -/
def State.leverTick (s : State) : State :=
  if s.flag Reg.intentSw ∧ Config.leverOpens s.tmb.raw = true then s.set Reg.intentSw 0 else s

/-- One tick of what runs by itself: with the feed domain powered, a tick of the 1 GHz counter (R336) and the copies that
fall due (R186), in BOOT its progress (R47), and the front lever (R261); in STORE, a cycle of the 32,768 Hz hold-up clock (R339), unless the hold-up domain has lost its supply
(R464). Boundary scan stops the counter with the rest of the functional logic (R499), but not the operating time (R441).
DESIGN CHOICE (log 2). -/
def State.tick (s : State) : State :=
  if s.powered then
    if s.hwif.pins then { s with tmb := { s.tmb with upTicks := s.tmb.upTicks + 1 } }
    else { s with tmb := s.tmb.tick s.rate }.drainDirty.bootTick.leverTick
  else if s.pwr.holdLost then s
  else { s with tmb := { s.tmb with hold := s.tmb.hold + 1 } }

end Sys2Proof.Machine
end

