-- ==== Sys2Proof/Safety.lean ====
section
/-! DEFINITION. Properties of states and runs that the statements speak of. -/

namespace Sys2Proof.Machine

/-- A command answers a next state of which `P` holds. -/
def Next (c : Instr) (s : State) (P : State → Prop) : Prop := ∃ t, exec c s = .next t ∧ P t

/-- Every register field keeps its value, those of a list excepted. -/
def KeepRegs (s t : State) (l : List Fld) : Prop := ∀ f : Fld, f.key ∉ l.map Fld.key → t.get f = s.get f

/-- Every word of memory reads as before, those at addresses that satisfy `p` excepted. -/
def KeepWords (s t : State) (p : Nat → Prop) : Prop := ∀ a : Nat, ¬ p a → t.word a = s.word a

/-- The register fields in which the event recorder shows its queues (R444, R453). -/
def evFlds : List Fld := [Reg.evrHwq, Reg.evrFifo, Reg.evrRefused]

/-- The memory keeps its canonical form: rising addresses, no word listed that an unlisted one reads as. -/
abbrev MemWf (s : State) : Prop := SMap.wf memDflt s.mem = true

/-- A session asks: VOP serves, the session has a role of at least `role`, no life-cycle change refuses it, and neither the
ports' buffer nor the session's outstanding requests are full (R36, R327, R477). -/
abbrev Asks (s : State) (sess : Nat) (c : Caller) (role : Nat) : Prop :=
  s.caller sess = some c ∧ s.lcsHolds = false ∧ role ≤ c.role ∧ s.runtime = true ∧ s.net.waiting < 64 ∧
    s.outstanding sess < 4

/-- A session's last request is made now (R325). -/
abbrev State.seen (s : State) (sess : Nat) : State := s.setSession sess fun y => { y with lastReq := s.now }

/-- The MPU's two copies hold the same (R420). -/
abbrev Twin (s : State) : Prop :=
  s.get Reg.mpuEpoch = s.mpu.epoch1 ∧
    ∀ r : Fin 64, ∀ f ∈ [Reg.rBase, Reg.rLim, Reg.rAttr, Reg.rMask], s.get (f 0 r.val) = s.get (f 1 r.val)

/-- No stored bit is upset, and the MPU's copies are twins (R106, R420). -/
abbrev Sound (s : State) : Prop := s.upsets = [] ∧ Twin s

/-- The register fields of an MPU region in both copies. -/
def regionFlds (r : Nat) : List Fld := [0, 1].flatMap fun c => [Reg.rBase c r, Reg.rLim c r, Reg.rAttr c r, Reg.rMask c r]

/-- The register fields of the check-value engines, their faults excepted (R434). -/
def engineFlds : List Fld :=
  (List.range 4).flatMap fun n =>
    [Reg.cvuPoly n, Reg.cvuWmode n, Reg.cvuFinal n, Reg.cvuAfold n, Reg.cvuSfold n, Reg.cvuCont n, Reg.cvuStart n, Reg.cvuLen n,
      Reg.cvuSeq n, Reg.cvuBusy n, Reg.cvuValid n, Reg.cvuErr n, Reg.cvuResl n, Reg.cvuResh n, Reg.cvuPos n]

/-- The last thing sent is the answer to a session. -/
abbrev Answers (t : State) (sess code : Nat) : Prop := t.out.getLast? = some (.status sess code)

/-- The mode registers after a transition from `m0` to `m1` (R50). -/
abbrev Entered (t : State) (m0 m1 cause : Nat) : Prop :=
  t.mode = m1 ∧ t.get Reg.modePrev = m0 ∧ t.get Reg.modeCause = cause

/-- Every word of memory reads as before. -/
def SameMem (s t : State) : Prop := ∀ a : Nat, t.word a = s.word a

/-- A runtime record of a class joins the post FIFO, unless its class is suppressed or the FIFO is full (R443, R444). -/
def Posts (s t : State) (cls : Nat) : Prop :=
  (s.cfgNat 0x3A00 0x01 0).testBit cls = false → s.evr.fifo.length < 16 →
    ∃ r ∈ t.evr.fifo.drop s.evr.fifo.length, r.cls = cls

/-- The presence bit of feed A or B, and its count of losses (R479, R486). -/
def feedFld (f : Fin 2) : Fld := if f.val = 0 then Reg.feedA else Reg.feedB
def lossFld (f : Fin 2) : Fld := if f.val = 0 then Reg.aloss else Reg.bloss

/-- A valid frame of a type, not taken before, on a lane with block lock while frames are taken (R231 to R234). -/
abbrev NewFrame (s : State) (lane : Fin 2) (f : EwxFrame) (ty : Nat) (fr : Frame) : Prop :=
  s.linkRuns = true ∧ s.flag (Reg.laneTrained lane.val) = true ∧ frameOf f = some fr ∧ fr.ty = ty ∧
    ty * 2 ^ 32 + fr.seq ∉ s.link.seen

/-- A task's image gives it no check list (R432). -/
abbrev NoChecks (s : State) (n : Nat) : Prop := ∀ d, s.descOf n = some d → d.checks = []

/-- The MPU permits the stub on a place its accesses to a run of words (R409). -/
abbrev StubMay (s : State) (p : Nat) (k : AccKind) (a n : Nat) : Prop := (s.stubRun p k a n).1 = true

/-- The cores of a place hold no upset bit; those of a locked pair are alike, drained, and no token is disturbed. -/
abbrev Alike (s : State) (p : Nat) : Prop :=
  (∀ b : Bool, (s.core (p / 2) b).rflips = []) ∧ (s.pair (p / 2)).ahead = [] ∧
    (s.isSplit (p / 2) = false → s.core (p / 2) false = s.core (p / 2) true ∧ (s.pair (p / 2)).skew = none)

/-! CAN -/

/-- CFGEN of every channel, which ends with the Weir window (R365). -/
def cfgenFlds : List Fld := (List.range 16).map Reg.canCfgen

/-- The register fields in which a channel shows its lock, post FIFO and hold buffer (R383). -/
def chanFlds (n : Nat) : List Fld := [Reg.canLock n, Reg.canPosts n, Reg.canHold n, Reg.canLockobj n]

/-- One more in a counter register, which saturates. -/
abbrev Counts (s t : State) (f : Fld) : Prop := t.get f = min (s.get f + 1) (2 ^ f.width - 1)

/-- A command acts on registers and on one channel only, and of that channel's objects on one only. -/
abbrev OneObj (s t : State) (n : Fin 16) (o : Nat) : Prop :=
  t = { s with csr := t.csr, can := t.can } ∧ (∀ m : Fin 16, m ≠ n → t.chan m.val = s.chan m.val) ∧
    ∀ k : Fin 256, k.val ≠ o → (t.chan n.val).obj k.val = (s.chan n.val).obj k.val

/-- A frame that a transmit object offers for arbitration: pending, and its launch time reached (R375). -/
abbrev Offered (s : State) (e : Nat × CanObj) : Prop := e.2.pend = true ∧ e.2.dir = 2 ∧ e.2.launch ≤ s.now

/-- Of the offered ones with its launch time none was queued before it (R355). -/
abbrev FirstQueued (s : State) (l : SMap CanObj) (e : Nat × CanObj) : Prop :=
  Offered s e ∧ ∀ g ∈ l, Offered s g → g.2.launch = e.2.launch → e.2.ord ≤ g.2.ord

/-! Instructions -/

/-- The core whose registers an instruction decides on. -/
abbrev State.coreAt (s : State) (c : CoreId) : CoreSt := s.core c.unit (s.lead c)

/-- Nothing hinders or disturbs the instruction: the unit executes, with room in the stagger of a locked unit (R202, R205);
the MPU permits the fetch of an undamaged word with a defined major opcode (R61, R64, R409); no bit of a register file is
upset (R95). -/
abbrev Ready (c : CoreId) (s : State) : Prop :=
  s.executes c.unit = true ∧ c.hits = [] ∧
    (s.mpuCheck ((s.coreAt c).access c (s.lead c) .exec (fetchAddr (s.coreAt c)))).1 = true ∧
    s.flips (fetchAddr (s.coreAt c)) = 0#80 ∧ majorOp (s.word (fetchAddr (s.coreAt c))) (s.coreAt c).iaddr < 0x38#6 ∧
    (∀ b ∈ s.crew c, (s.core c.unit b).rflips = []) ∧
    (s.isSplit c.unit = false → (s.pair c.unit).ahead.length < 8 ∧ (s.pair c.unit).fifo.length < 8)

/-- No instruction of a locked unit is outstanding, its cores hold the same and no token is disturbed (R203, R207). -/
abbrev Level (c : CoreId) (s : State) : Prop :=
  s.isSplit c.unit = false → (s.pair c.unit).ahead = [] ∧ s.core c.unit false = s.core c.unit true ∧ (s.pair c.unit).skew = none

/-- A unit holds back no write to a CSR (R102). -/
abbrev NoHeldCsr (s : State) (u : Nat) : Prop :=
  ∀ x ∈ (s.pair u).ahead, ∀ e ∈ x.held.toList, areaOf e.1 ≠ .csr

/-- Each executing core takes `f`; both have retired one token, now (R202, R211). Nothing else changes, registers of a list
and the highest occupancy excepted. -/
abbrev Together (c : CoreId) (s t : State) (l : List Fld) (f : CoreSt → CoreSt) : Prop :=
  t = { s with csr := t.csr, cores := (s.onCrew c fun _ x => f x).cores, pairs := t.pairs } ∧
    KeepRegs s t (Reg.ustMaxocc c.unit :: l) ∧ (t.pair c.unit).lastAt = s.tmb.raw ∧
    (∀ u : Fin 13, u ≠ c.unit → t.pair u = s.pair u) ∧
    (s.isSplit c.unit = false → (t.pair c.unit).ahead = [] ∧
      (t.pair c.unit).count0 = (s.pair c.unit).count0 + 1 ∧ (t.pair c.unit).count1 = (s.pair c.unit).count1 + 1)

/-- What an instruction leaves that is no drain point, but for a write of its own. The leading core takes `f`. On a locked
unit core 1 follows later: the token joins the outstanding ones with the write that it holds back, and a sampled input the
FIFO, stamped and with its parity (R202, R205, R208). No other core or unit, no word and no register changes, the highest
occupancy excepted (R229). -/
def Retires (i : Instr) (c : CoreId) (s t : State) (smp : Option TW) (held : Option (Nat × TW)) (f : CoreSt → CoreSt) : Prop :=
  let p := s.pair c.unit
  let q := t.pair c.unit
  t = { s with csr := t.csr, cores := t.cores, pairs := t.pairs } ∧ KeepRegs s t [Reg.ustMaxocc c.unit] ∧
    t.core c.unit (s.lead c) = f (s.coreAt c) ∧
    (∀ (u : Fin 13) (b : Bool), (u = c.unit → b ≠ s.lead c) → t.core u b = s.core u b) ∧
    (∀ u : Fin 13, u ≠ c.unit → t.pair u = s.pair u) ∧ q.lastAt = s.tmb.raw ∧ q.count1 = p.count1 ∧
    (c.core = false → q.lastIaddr = (s.coreAt c).iaddr ∧ q.lastPriv = (s.coreAt c).priv) ∧
    (if s.isSplit c.unit then q = { p with lastAt := s.tmb.raw, lastIaddr := q.lastIaddr, lastPriv := q.lastPriv } ∧ t.csr = s.csr
    else q.count0 = p.count0 + 1 ∧ q.ahead.map (fun x => (x.instr, x.iaddr, x.priv, x.held)) =
        p.ahead.map (fun x => (x.instr, x.iaddr, x.priv, x.held)) ++ [(i, (s.coreAt c).iaddr, (s.coreAt c).priv, held)] ∧
      t.get (Reg.ustMaxocc c.unit) = max (s.get (Reg.ustMaxocc c.unit)) q.fifo.length ∧
      q.fifo.take p.fifo.length = p.fifo ∧ (q.fifo.drop p.fifo.length).map (·.word) = (smp.map lanesOf).toList ∧
      ∀ e ∈ q.fifo.drop p.fifo.length, e.stamp = p.count0 ∧ e.parity = parityBits e.bits)

/-- An instruction completes: register `rd` of the leading core takes a word of which `p` holds, the core goes on to the next
instruction, and nothing else changes; `smp` says that the word is a sampled input. -/
def Gives (i : Instr) (c : CoreId) (s : State) (rd : GReg) (p : TW → Prop) (smp : Bool := false) : Prop :=
  ∃ w, p w ∧ Next i s fun t => Retires i c s t (if smp then some w else none) none fun x => x.give rd w

/-- An instruction completes in a change of the leading core alone. -/
def Moves (i : Instr) (c : CoreId) (s : State) (f : CoreSt → CoreSt) : Prop :=
  Next i s fun t => Retires i c s t none none f

/-- The tag of a result: the lowest quality of the contributing operands and of `q`, Forced of any, Limit of any or of
the instruction (R58). -/
abbrev TagOf (ws : List TW) (ty q : Nat) (lim : Bool) (w : TW) : Prop :=
  w.ty = ty ∧ w.q ≤ q ∧ (∀ x ∈ ws, w.q ≤ x.q) ∧ (w.q = q ∨ ∃ x ∈ ws, w.q = x.q) ∧
    w.forced = ws.any TW.forced ∧ w.limit = (ws.any TW.limit || lim)

/-- Bounds of an integer type (R75). -/
def lowest (ty : Nat) : Int := if ty = tyUint then 0 else -(2 ^ 63)
def highest (ty : Nat) : Int := if ty = tyUint then 2 ^ 64 - 1 else 2 ^ 63 - 1

/-- An integer result: wrapped, or the nearest value of its type with Limit where that is another value (R58, R75). -/
abbrev IntIs (ty : Nat) (wrap : Bool) (ws : List TW) (v : Int) (w : TW) : Prop :=
  if wrap then w.val = BitVec.ofInt 64 v ∧ TagOf ws ty 3 false w
  else intOf ty w.val = max (lowest ty) (min v (highest ty)) ∧
    TagOf ws ty 3 (decide (v < lowest ty) || decide (highest ty < v)) w

/-- A lane of a PAIR32 result: wrapped, or the nearest signed 32-bit value (R66, R75). -/
abbrev LaneIs (wrap : Bool) (v : Int) (l : BitVec 32) : Prop :=
  if wrap then l = BitVec.ofInt 32 v else l.toInt = max (-(2 ^ 31)) (min v (2 ^ 31 - 1))

/-- Whether a lane saturates. -/
def laneMoves (wrap : Bool) (v : Int) : Bool := !wrap && (decide (v < -(2 ^ 31)) || decide (2 ^ 31 - 1 < v))

/-- A FLOAT64 result by R78: rounded; too large or infinite, the largest finite magnitude, UNCERTAIN at best, with Limit;
invalid, the canonical NaN, BAD, with Limit; a zero divisor under policy VALUE, 0, BAD, with Limit. -/
def FloatIs (ws : List TW) (a : FArith) (w : TW) : Prop :=
  match a with
  | .res (.ok v) => w.val = v ∧ TagOf ws tyFloat 3 false w
  | .res (.over n) => w.val = f64MaxFin n ∧ TagOf ws tyFloat 1 true w
  | .infinite n => w.val = f64MaxFin n ∧ TagOf ws tyFloat 1 true w
  | .invalid => w.val = 0x7FF8000000000000#64 ∧ TagOf ws tyFloat 0 true w
  | .divZero => w.val = 0#64 ∧ TagOf ws tyFloat 0 true w

/-- Whether a word's value is a NaN. -/
def isNaN (x : TW) : Bool := (FNum.ofBits x.val).isNaN

/-- What a trap leaves in a core (R98, R99). -/
abbrev Trapped (k u : CoreSt) (code : Nat) : Prop :=
  u.tcause.toNat % 256 = code ∧ u.tepc.toNat = k.iaddr.toNat ∧ u.tstat = k.status ∧ u.priv = true ∧
    u.iaddr = k.tvec.truncate 22 ∧ u.g = k.g

/-- A word that a store or write held back by the final window of SYNC is for (R254). -/
abbrev HeldBack (s : State) (a : Nat) : Prop :=
  s.link.goAt ≠ none ∧ s.link.sendPhase ≠ 0 ∧ (a ∈ s.link.held.map (·.1) ∨ a ∈ s.pimg.queue.map (·.point))

/-- Every word of memory keeps its value at an entry into SAFE, the status points excepted, the header words of an exchange
that is in progress (R157, R190), and what the final window of SYNC has held back (R254). -/
abbrev SafeMem (s t : State) : Prop :=
  KeepWords s t fun a => (0xFF00 ≤ a ∧ a < 0x10000) ∨ (s.xch.exch ≠ none ∧ 0x8000000 ≤ a) ∨ HeldBack s a

/-- An instruction in privileged code, or where no task runs, takes a trap once the stagger has drained: each executing core
records it and no register or memory word is written; in privileged code it is a latching fault with cause 0x17 (R83, R85,
R99, R100, R203). -/
def Traps (i : Instr) (c : CoreId) (s : State) (code : Nat) : Prop :=
  Level c s → ((s.coreAt c).priv = true ∨ s.runningAt (coreKey c.unit (s.lead c)) = none) →
  Next i s fun t => (∀ b ∈ s.crew c, Trapped (s.core c.unit b) (t.core c.unit b) code) ∧ SafeMem s t ∧
    ((s.coreAt c).priv = false → c.unit.val < 12 → SameMem s t) ∧
    ((s.coreAt c).priv = true → s.mode ∈ [mIsolated, mSync, mStandby, mPrimary, mSolo] → Entered t s.mode mSafe 0x17)

/-! VOP -/

/-- A whole request in a session that serves it at once: it executes, and its identifier is new (R326 to R328). -/
abbrev Serves (s : State) (r : VopReq) (x : Session) : Prop :=
  s.runtime = true ∧ s.net.sessions.find? (fun y => y.id == r.sess) = some x ∧ r.wellFormed = true ∧ r.data.length ≤ 1024 ∧
    r.waiting < 64 ∧ r.outstanding < 4 ∧ x.kept.find? (fun e => e.1 == r.id.toNat) = none

/-- A VOP response in a session. -/
def Out.isVop (o : Out) : Bool := match o with | .vop _ _ => true | _ => false

/-- The last VOP response sent answers a request: version, service, identifiers, status and data (R326). -/
abbrev Responds (t : State) (svc : Nat) (r : VopReq) (st : Nat) (b : Bytes) : Prop :=
  (t.out.filter Out.isVop).getLast? = some (.vop r.sess ([1#8, BitVec.ofNat 8 (svc + 128)] ++ leBytes 2 r.id.toNat ++ leBytes 2 r.index.toNat ++
    [r.sub, 0#8] ++ leBytes 2 st ++ leBytes 2 b.length ++ b))

end Sys2Proof.Machine
end

