-- ==== Sys2Proof/Certificates/Slice0/Obligations.lean ====
section
/-! DEFINITION. The statements. -/

open Sys2Proof Sys2Proof.Machine

/-- SUPPLY_RETURN in STORE enters BOOT by transition 1 (previous mode, cause 0x01, wake source SUPPLY_RETURN of the
module, power-cycle count plus one, feeds as reported, memory as it was). FEED_DOMAIN_COLLAPSE in any powered mode
enters STORE with cause 0x02, both feeds absent and no record left waiting. FEEDS_LOW_WARNING with both feeds below
16.0 V records the voltages and one class-3 event, once, and changes no mode and nothing else. SINGLE_FEED_LOSS and
SINGLE_FEED_RETURN of a feed clear or set its bit, count the loss, record a class-14 event and change no mode; of
memory only status point 0xFF03 may change. That the class of the low-feed warning is 3 and that it is recorded once
until a feed returns are choices of the model (log 10). Spec: 02_operating_modes.md (rule 37); 18_event_recorder.md
(rules 438, 441); 19_power_states_and_life_cycle.md (rules 461, 463); 20_hardware_interfaces.md (rule 486). -/
def Obligations.SupplyAndFeeds : Prop :=
  (∀ (a b : Bool) (s : State), s.mode = mStore → (a || b) = true →
    Next (.supplyReturn a b) s fun t =>
      Entered t mStore mBoot 0x01 ∧ t.get Reg.wakeSrc = 1 ∧ t.get Reg.wakeUnit = 0xF ∧ t.flag Reg.feedA = a ∧
      t.flag Reg.feedB = b ∧ t.get Reg.evrPcycle = (s.get Reg.evrPcycle + 1) % 2 ^ 24 ∧ SameMem s t) ∧
  (∀ s : State, s.mode ∈ [mBoot, mIsolated, mSync, mStandby, mPrimary, mSolo, mSafe] →
    Next .feedDomainCollapse s fun t =>
      Entered t s.mode mStore 0x02 ∧ t.flag Reg.feedA = false ∧ t.flag Reg.feedB = false ∧
      t.evr.hwq = [] ∧ t.evr.fifo = [] ∧ t.evr.mirror = []) ∧
  (∀ (va vb : BitVec 16) (s : State), s.functional = true → s.pwr.warned = false → va.toNat < 16000 → vb.toNat < 16000 →
    Next (.feedsLowWarning va vb) s fun t =>
      t.get Reg.feedVa = va.toNat ∧ t.get Reg.feedVb = vb.toNat ∧ t.pwr.warned = true ∧ Posts s t 3 ∧
      t = { s with csr := t.csr, evr := t.evr, pwr := { s.pwr with warned := true } } ∧
      KeepRegs s t ([Reg.feedVa, Reg.feedVb] ++ evFlds)) ∧
  (∀ (f : Fin 2) (va vb : BitVec 16) (s : State), s.functional = true → s.flag (feedFld f) = true →
    Next (.singleFeedLoss f va vb) s fun t =>
      t.flag (feedFld f) = false ∧ t.get (lossFld f) = min (s.get (lossFld f) + 1) 255 ∧
      t.get Reg.feedVa = va.toNat ∧ t.get Reg.feedVb = vb.toNat ∧ Posts s t 14 ∧
      t = { s with csr := t.csr, mem := t.mem, upsets := t.upsets, evr := t.evr, pimg := t.pimg, link := t.link } ∧
      KeepRegs s t ([feedFld f, lossFld f, Reg.feedVa, Reg.feedVb, Reg.syncDs, Reg.syncDr] ++ evFlds) ∧
      KeepWords s t (· = spFeeds)) ∧
  (∀ (f : Fin 2) (va vb : BitVec 16) (s : State), s.functional = true → s.flag (feedFld f) = false →
    Next (.singleFeedReturn f va vb) s fun t =>
      t.flag (feedFld f) = true ∧ t.get Reg.feedVa = va.toNat ∧ t.get Reg.feedVb = vb.toNat ∧ t.pwr.warned = false ∧
      Posts s t 14 ∧
      t = { s with csr := t.csr, mem := t.mem, upsets := t.upsets, evr := t.evr, pimg := t.pimg, link := t.link, pwr := t.pwr } ∧
      KeepRegs s t ([feedFld f, Reg.feedVa, Reg.feedVb, Reg.syncDs, Reg.syncDr] ++ evFlds) ∧
      KeepWords s t (· = spFeeds))

/-- TAMPER_OPENING counts the opening in every mode, saturating; while the module is powered it records a class-13 event,
in STORE it writes the hold-up time to a log of 8. HOLDUP_DOMAIN_LOSS in STORE loses every field whose reset is Kept,
the hold-up clock and the tamper log, and no memory. CELL_MEASUREMENT after an hour shows the voltage and records a
class-3 event below 2.7 V. COUNTER_COPY after an hour of operating time copies operating time and power-cycle count.
OPERATING_TIME_SECOND counts a whole second of power, under boundary scan too. ROLLING_CHECK of an empty slot a day
after the last one passes on to the next of the four slots. That a Kept field reads its layout's reset value after the
loss, and the class 3 of the cell event, are choices of the model (log 10, 92). Spec:
19_power_states_and_life_cycle.md (rules 454, 462, 464, 465, 473); 18_event_recorder.md (rule 441); 00_scope.md (rule
10). -/
def Obligations.HoldupDomain : Prop :=
  (∀ (cover : Bool) (s : State), s.powered = true →
    Next (.tamperOpening cover) s fun t =>
      t.get Reg.tamperCount = min (s.get Reg.tamperCount + 1) (2 ^ Reg.tamperCount.width - 1) ∧ Posts s t 13 ∧
      (cover = true → t.flag Reg.tamperCover = true) ∧
      t = { s with csr := t.csr, evr := t.evr } ∧ KeepRegs s t ([Reg.tamperCount, Reg.tamperCover] ++ evFlds)) ∧
  (∀ (cover : Bool) (s : State), s.powered = false → s.lcs.tamperLog.length < 8 →
    Next (.tamperOpening cover) s fun t =>
      t.get Reg.tamperCount = min (s.get Reg.tamperCount + 1) (2 ^ Reg.tamperCount.width - 1) ∧
      t.lcs.tamperLog = s.lcs.tamperLog ++ [(s.tmb.hold : Int)] ∧
      t = { s with csr := t.csr, lcs := t.lcs } ∧ KeepRegs s t [Reg.tamperCount, Reg.tamperLog]) ∧
  (∀ s : State, s.powered = false →
    Next .holdupDomainLoss s fun t =>
      (∀ f ∈ keptFlds, t.get f = f.reset) ∧ KeepRegs s t keptFlds ∧ t.tmb.hold = 0 ∧ t.pwr.holdLost = true ∧
      t.lcs.tamperLog = [] ∧
      t = { s with csr := t.csr, tmb := t.tmb, pwr := t.pwr, evr := t.evr, lcs := t.lcs }) ∧
  (∀ (mv : BitVec 16) (s : State), s.runtime = true → s.pwr.cellAt + 3600000000000 ≤ (s.tmb.raw : Int) →
    Next (.cellMeasurement mv) s fun t =>
      t.get Reg.cellMv = mv.toNat ∧ t.pwr.cellAt = (s.tmb.raw : Int) ∧ (mv.toNat < 2700 → Posts s t 3) ∧
      (2700 ≤ mv.toNat → t.evr = s.evr) ∧ t = { s with csr := t.csr, evr := t.evr, pwr := t.pwr } ∧
      KeepRegs s t ([Reg.cellMv] ++ evFlds)) ∧
  (∀ s : State, s.runtime = true → s.lcs.copyOptime + 3600 ≤ s.get Reg.evrOptime →
    Next .counterCopy s fun t =>
      t = { s with lcs := t.lcs } ∧ t.lcs.copyOptime = s.get Reg.evrOptime ∧ t.lcs.copyPcycle = s.get Reg.evrPcycle) ∧
  (∀ s : State, s.powered = true → 1000000000 ≤ s.tmb.upTicks →
    Next .operatingTimeSecond s fun t =>
      t.get Reg.evrOptime = (s.get Reg.evrOptime + 1) % 2 ^ 32 ∧ t.tmb.upTicks + 1000000000 = s.tmb.upTicks ∧
      t = { s with csr := t.csr, tmb := t.tmb } ∧ KeepRegs s t [Reg.evrOptime]) ∧
  (∀ s : State, s.runtime = true → s.lcs.rollAt + 86400000000000 ≤ s.now → s.flashFile (s.lcs.rollNext % 4) = [] →
    Next (.rollingCheck none) s fun t =>
      t = { s with lcs := t.lcs } ∧ t.lcs.rollNext = (s.lcs.rollNext % 4 + 1) % 4 ∧ t.lcs.rollAt = s.now ∧
      t.lcs.flashBad = s.lcs.flashBad)

/-- In SAFE, with nothing pending, an EXPERT session that writes the present SAFE entry count and the present cause code
takes transition 26: mode BOOT, previous mode SAFE, cause 0x18, BOOT step 1, wake source 9. A write of any other pair
of values by an EXPERT session changes no mode, is answered REFUSED and is recorded as a class-1 event, memory and
every register but the event queues as they were. What the spec leaves open here is as log entry 16 has it. Spec:
02_operating_modes.md (rules 37, 45, 47). -/
def Obligations.AuthenticatedReset : Prop :=
  (∀ (sess : Nat) (c : Caller) (s : State), Asks s sess c rExpert → s.mode = mSafe → s.md.pend = none →
    Next (.authenticatedReset sess (BitVec.ofNat 32 (s.get Reg.safeCount)) (BitVec.ofNat 8 (s.get Reg.modeCause))) s fun t =>
      s.get Reg.safeCount < 2 ^ 32 → s.get Reg.modeCause < 2 ^ 8 →
        Entered t mSafe mBoot 0x18 ∧ t.get Reg.bootStep = 1 ∧ t.get Reg.wakeSrc = 9 ∧ SameMem s t ∧ Answers t sess stOk) ∧
  (∀ (sess : Nat) (c : Caller) (count : BitVec 32) (cause : BitVec 8) (s : State), Asks s sess c rExpert →
    (count.toNat ≠ s.get Reg.safeCount ∨ cause.toNat ≠ s.get Reg.modeCause) →
    Next (.authenticatedReset sess count cause) s fun t =>
      t = { s.seen sess with csr := t.csr, evr := t.evr, out := t.out } ∧ KeepRegs s t evFlds ∧ Posts s t 1 ∧ Answers t sess stRefused)

/-- For a session with the command's minimum role, nothing pending and no life-cycle change in ISOLATED: JOIN in ISOLATED
with every join condition met enters SYNC with cause 0x06; START in ISOLATED with the start conditions met, no
heartbeat from a partner and no damaged word enters SOLO with cause 0x08; ISOLATE leaves SYNC and STANDBY for ISOLATED
at once with cause 0x12 and in PRIMARY waits for the boundary as transition 17; SWAP in PRIMARY with a STANDBY partner
opens a proposal for a boundary; RESTART in ISOLATED enters BOOT with cause 0x19 and leaves memory; SAFE enters SAFE
with cause 0x1B, driving from PRIMARY and SOLO only. Each is answered OK. A session below the minimum role is answered
ROLE and changes no mode, no memory and no register but the event queues. What the spec leaves open here is as log
entries 16, 22 and 60 have it. Spec: 02_operating_modes.md (rules 37, 39, 41, 43, 52); 09_pair_redundancy.md (rules
242, 243, 255); 13_time_base_and_ptp.md (rule 345). -/
def Obligations.ModeCommands : Prop :=
  (∀ (sess : Nat) (c : Caller) (s : State), Asks s sess c rEngineer → s.mode = mIsolated → s.md.pend = none →
    s.heldBack = false → s.joinRefusal = 0 →
    Next (.join sess) s fun t => Entered t mIsolated mSync 0x06 ∧ t.get Reg.syncPhase = 1 ∧ Answers t sess stOk) ∧
  (∀ (sess : Nat) (c : Caller) (s : State), Asks s sess c rEngineer → s.mode = mIsolated → s.md.pend = none →
    s.resetRetries.startOk = true → s.linkUp = false → Sound s →
    Next (.start sess) s fun t => Entered t mIsolated mSolo 0x08 ∧ t.flag Reg.modeInctrl = true ∧ Answers t sess stOk) ∧
  (∀ (sess : Nat) (c : Caller) (s : State), Asks s sess c rEngineer → s.md.pend = none → s.heldBack = false →
    s.mode ∈ [mSync, mStandby, mPrimary] →
    Next (.isolate sess) s fun t => Answers t sess stOk ∧
      (s.mode ≠ mPrimary → Entered t s.mode mIsolated 0x12) ∧ (s.mode = mSync → t.get Reg.syncAbort = 4) ∧
      (s.mode = mPrimary → t.mode = mPrimary ∧ t.md.pend = some ⟨17, 0x12, s.boundaryAfter s.now⟩ ∧ t.flag Reg.reqBusy = true)) ∧
  (∀ (sess : Nat) (c : Caller) (s : State), Asks s sess c rOperate → s.mode = mPrimary → s.md.pend = none →
    s.heldBack = false → s.partnerMode = mStandby → s.link.disagreed = [] → s.link.swap = none →
    Next (.swap sess) s fun t => t.mode = mPrimary ∧ Answers t sess stOk ∧
      ∃ q, t.link.swap = some { seq := q, b := s.boundaryAfter (s.now + 999999), accepted := false, confirmed := false }) ∧
  (∀ (sess : Nat) (c : Caller) (s : State), Asks s sess c rEngineer → s.mode = mIsolated → s.md.pend = none →
    Next (.restart sess) s fun t => Entered t mIsolated mBoot 0x19 ∧ t.get Reg.bootStep = 1 ∧ t.get Reg.wakeSrc = 8 ∧
      SameMem s t ∧ Answers t sess stOk) ∧
  (∀ (sess : Nat) (c : Caller) (s : State), Asks s sess c rOperate → s.md.pend = none →
    s.mode ∈ [mIsolated, mSync, mStandby, mPrimary, mSolo] →
    Next (.safe sess) s fun t => Entered t s.mode mSafe 0x1B ∧ Answers t sess stOk ∧
      t.flag Reg.modeDrive = (s.mode == mPrimary || s.mode == mSolo)) ∧
  (∀ (v : Nat) (i : Instr) (sess : Nat) (c : Caller) (s : State),
    (i, v) ∈ [(.join sess, 1), (.start sess, 2), (.isolate sess, 3), (.isolateSolo sess, 4), (.swap sess, 5),
      (.restart sess, 6), (.safe sess, 7)] →
    s.caller sess = some c → s.runtime = true → s.net.waiting < 64 → s.outstanding sess < 4 → c.role < modeRole v →
    Next i s fun t => t = { s.seen sess with csr := t.csr, evr := t.evr, out := t.out } ∧ KeepRegs s t evFlds ∧
      Posts s t 1 ∧ Answers t sess stRole)

/-- In SOLO with nothing pending, a first ISOLATE_SOLO of an EXPERT session without an armed request arms one at the
present instant and changes neither mode nor memory; a second one less than 1 s later is answered REFUSED and leaves
the armed requests; one from 1 s to 10 s later, with no set or exchange pending, makes transition 19 wait for the
boundary. ISOLATE_SOLO_LAPSE more than 10 s later leaves the session without an armed request and records a class-1
event. What the spec leaves open here is as log entries 16 and 17 have it. Spec: 02_operating_modes.md (rules 37, 52). -/
def Obligations.IsolateSolo : Prop :=
  (∀ (sess : Nat) (c : Caller) (s : State), Asks s sess c rExpert → s.mode = mSolo → s.md.pend = none →
    s.armOf sess = none →
    Next (.isolateSolo sess) s fun t => t.armOf sess = some s.now ∧ Answers t sess stOk ∧ Posts s t 1 ∧
      t = { s.seen sess with csr := t.csr, evr := t.evr, md := { s.md with arms := (sess, s.now) :: s.md.arms }, out := t.out } ∧
      KeepRegs s t evFlds) ∧
  (∀ (sess : Nat) (c : Caller) (a : Int) (s : State), Asks s sess c rExpert → s.mode = mSolo → s.md.pend = none →
    s.armOf sess = some a → s.now < a + 1000000000 →
    Next (.isolateSolo sess) s fun t => Answers t sess stRefused ∧ Posts s t 1 ∧
      t = { s.seen sess with csr := t.csr, evr := t.evr, out := t.out } ∧ KeepRegs s t evFlds) ∧
  (∀ (sess : Nat) (c : Caller) (a : Int) (s : State), Asks s sess c rExpert → s.mode = mSolo → s.md.pend = none →
    s.armOf sess = some a → a + 1000000000 ≤ s.now → s.now ≤ a + 10000000000 → s.heldBack = false →
    Next (.isolateSolo sess) s fun t => Answers t sess stOk ∧ t.mode = mSolo ∧
      t.md.pend = some ⟨19, 0x12, s.boundaryAfter s.now⟩ ∧ SameMem s t) ∧
  (∀ (sess : Nat) (a : Int) (s : State), s.armOf sess = some a → a + 10000000000 < s.now →
    Next (.isolateSoloLapse sess) s fun t => t.armOf sess = none ∧ Posts s t 1 ∧
      t = { s with csr := t.csr, evr := t.evr, md := t.md } ∧ KeepRegs s t evFlds)

/-- A PWR.MODEREQ write with GO that names a transition the table lacks for the present mode sets REFUSED, shows the
target and changes nothing else; one that names ISOLATED to SAFE with cause 0x1B makes transition 21. A pending
transition whose instant has come is made, with its cause. AUTO_JOIN with the policy acting and the join conditions
met enters SYNC with cause 0x07; AUTO_START with policy 2, the wait over and the start conditions met without a
heartbeat or a damaged word enters SOLO with cause 0x09; AUTO_JOIN_RETRY_WAIT ends the 10 s wait and changes nothing
else. What the spec leaves open here is as log entries 16 and 25 have it. Spec: 02_operating_modes.md (rules 37, 43,
44, 50, 51). -/
def Obligations.ModeRequestAndBoundary : Prop :=
  (∀ (w : BitVec 32) (s : State), s.runtime = true → w.getLsbD 31 = true →
    (∀ n, s.mode ∈ transFrom n → transTo n = w.toNat % 8 → w.toNat / 256 % 256 ∉ transCauses n) →
    Next (.modeRequest w) s fun t => t.flag Reg.reqRefused = true ∧ t.get Reg.reqLasttgt = w.toNat % 8 ∧
      t = { s with csr := t.csr } ∧ KeepRegs s t [Reg.reqRefused, Reg.reqLasttgt]) ∧
  (∀ s : State, s.runtime = true → s.mode = mIsolated → s.md.pend = none → s.flag Reg.lcsPend = false →
    Next (.modeRequest 0x80001B07#32) s fun t => Entered t mIsolated mSafe 0x1B ∧ t.flag Reg.modeDrive = false) ∧
  (∀ (p : Pend) (s : State), s.md.pend = some p → p.at_ ≤ s.now → p.cause < 256 → s.mode ∈ transFrom p.num →
    (s.mode = mStandby → transTo p.num ∉ [mPrimary, mSolo]) →
    Next .pendingTransitionBoundary s fun t => Entered t s.mode (transTo p.num) p.cause ∧ t.flag Reg.reqBusy = false) ∧
  (∀ s : State, s.autoActs = true → s.odNat 0x2000 7 ≠ 0 → s.md.refused ≠ some s.joinView →
    s.joinRefusal = 0 → Next .autoJoin s fun t => Entered t mIsolated mSync 0x07) ∧
  (∀ s : State, s.autoActs = true → s.odNat 0x2000 7 = 2 → s.md.isoAt + (s.odNat 0x2000 8 : Int) * 1000000 ≤ s.now →
    (∀ t, s.md.ctlSeen = some t → t + (s.odNat 0x2000 8 : Int) * 1000000 ≤ s.now) → s.startOk = true → s.linkUp = false → Sound s →
    (s.md.isoNum = 20 → s.joinRefusal = 0) →
    Next .autoStart s fun t => Entered t mIsolated mSolo 0x09) ∧
  (∀ (a : Int) (s : State), s.md.retryAt = some a → a ≤ s.now →
    Next .autoJoinRetryWait s fun t => t = { s with md := { s.md with retryAt := none } })

/-- LATCHING_FAULT of a row whose reaction is a latching fault, in ISOLATED, SYNC, STANDBY, PRIMARY or SOLO, enters SAFE
with cause 0x14 for the lockstep rows and 0x17 for the others; SAFE is driving exactly when it is entered from SOLO;
the SAFE entry count goes up by one and the pairs are stopped. A lockstep row, of a locked unit with a KIND that
belongs to that row, is also captured: the first fault by kind, unit, privilege, instruction address, lanes and, for
an access, its address, a later one by MORE alone. A time-base fault and an MPU fault show in their blocks. The row is
the last class detected. In SAFE it changes no mode and no memory, and of the registers only the event queues, the
capture of a lockstep row and the bit of the block. Any other row changes nothing. Which rows of the table are
lockstep rows is the model's reading (log 21). Spec: 02_operating_modes.md (rules 34, 37, 38);
08_lockstep_execution.md (rules 217, 218); 10_functional_safety.md (rules 266, 270). -/
def Obligations.LatchingFault : Prop :=
  (∀ (d : Detection) (s : State), d.row.val ∈ latchRows → s.functional = true →
    (d.row.val ≤ 5 → s.isSplit d.unit = false ∧ d.kind.toNat ∈ [1, 2, 3, 4, 5, 6, 7, 8, 9, 10, 11, 12] ∧
      lockRowOf d.kind.toNat d.unit = d.row.val) →
    (s.mode ∈ [mIsolated, mSync, mStandby, mPrimary, mSolo] →
      Next (.latchingFault d) s fun t => Entered t s.mode mSafe (if d.row.val ≤ 5 then 0x14 else 0x17) ∧
        t.flag Reg.modeDrive = (s.mode == mSolo) ∧ t.get Reg.safeCount = (s.get Reg.safeCount + 1) % 2 ^ 32 ∧
        t.md.latched = true ∧ t.md.stopped = true ∧ t.md.lastClass = d.row.val ∧
        (d.row.val = 10 → t.flag Reg.tmbFault = true) ∧ (d.row.val = 11 → t.flag Reg.mpuFault = true) ∧
        (d.row.val ≤ 5 → t.flag Reg.fstValid = true ∧ (s.flag Reg.fstValid = true → t.get Reg.fstMore = 1) ∧
          (s.flag Reg.fstValid = false → t.get Reg.fstKind = d.kind.toNat ∧ t.get Reg.fstUnit = d.unit.val ∧
            t.flag Reg.fstPriv = d.priv ∧ t.get Reg.ftoken = d.iaddr.toNat ∧
            t.get Reg.faddr = (if d.kind.toNat ≤ 3 then d.addr.toNat else 0) ∧ t.get Reg.fxor0 = d.lanes.toNat % 2 ^ 32 ∧ t.get Reg.fxor2 = d.lanes.toNat / 2 ^ 64))) ∧
    (s.mode = mSafe → Next (.latchingFault d) s fun t =>
      t = { s with csr := t.csr, evr := t.evr, md := { s.md with lastClass := d.row.val } } ∧ Posts s t 2 ∧
      KeepRegs s t (evFlds ++ if d.row.val ≤ 5 then [Reg.fstValid, Reg.fstKind, Reg.fstUnit, Reg.fstTask, Reg.fstPriv,
        Reg.fstMore, Reg.ftoken, Reg.faddr, Reg.fxor0, Reg.fxor1, Reg.fxor2]
        else if d.row.val = 10 then [Reg.tmbFault] else if d.row.val = 11 then [Reg.mpuFault] else []))) ∧
  (∀ (d : Detection) (s : State), d.row.val ∉ latchRows → Next (.latchingFault d) s fun t => t = s)

/-- For every number and cause code and every state: where the mode is one the transition may leave, the mode registers
show the mode entered, the mode left, the cause code, INCTRL exactly in PRIMARY and SOLO, DRIVE exactly for
transitions 22, 24 and 25, one more transition, one more SAFE entry exactly where SAFE is entered, and nothing
pending; where it is not, the state is as it was. Spec: 02_operating_modes.md (rules 33, 34, 37, 50). -/
def Obligations.TransitionShowsMode : Prop :=
  ∀ (num cause : Nat) (s : State), cause < 256 →
    (s.mode ∈ transFrom num → num ∉ [1, 8, 26] →
      Entered (s.transit num cause) s.mode (transTo num) cause ∧
      (s.transit num cause).flag Reg.modeInctrl = (transTo num == mPrimary || transTo num == mSolo) ∧
      (s.transit num cause).flag Reg.modeDrive = (num == 22 || num == 24 || num == 25) ∧
      (s.transit num cause).get Reg.cntTrans = (s.get Reg.cntTrans + 1) % 2 ^ 16 ∧
      (s.transit num cause).get Reg.safeCount =
        (if transTo num = mSafe then (s.get Reg.safeCount + 1) % 2 ^ 32 else s.get Reg.safeCount) ∧
      (s.transit num cause).md.pend = none ∧ (s.transit num cause).flag Reg.reqBusy = false) ∧
    (s.mode ∉ transFrom num → s.transit num cause = s)

/-- BOOT_END in BOOT leads to ISOLATED or to SAFE not driving, whatever the tests find. With the thirteenth step in
progress and passed it leads to ISOLATED, with cause 0x05 where the manifest was refused and 0x03 else, and shows step
14. Where the supervisor pair fails its injection test, which is still to come, it leads to SAFE with cause 0x04, BOOT
has failed after step 3, SPINJ shows it, and the runtime does not run. What the spec leaves open here is as log
entries 19 and 20 have it. Spec: 02_operating_modes.md (rules 37, 46, 47, 49); 08_lockstep_execution.md (rule 221). -/
def Obligations.BootEnds : Prop :=
  (∀ (env : BootEnv) (s : State), s.mode = mBoot →
    Next (.bootEnd env) s fun t => (t.mode = mIsolated ∨ t.mode = mSafe) ∧ t.flag Reg.modeDrive = false) ∧
  (∀ (env : BootEnv) (s : State), s.mode = mBoot → s.get Reg.bootStep = 13 → env.iface = false →
    Next (.bootEnd env) s fun t => Entered t mBoot mIsolated (if s.flag Reg.bootMfref then 0x05 else 0x03) ∧
      t.get Reg.bootStep = 14) ∧
  (∀ (env : BootEnv) (s : State), s.mode = mBoot → s.get Reg.bootStep ≤ 4 → missed env.spInj = true →
    Next (.bootEnd env) s fun t => Entered t mBoot mSafe 0x04 ∧ t.flag Reg.bootFail = true ∧ t.flag Reg.bootSpinj = true ∧
      t.get Reg.bootStep = 3 ∧ t.runtime = false)

/-- A new valid HEARTBEAT in ISOLATED or SAFE brings its lane up, shows the partner's mode as valid, is held as the
partner's report and changes no mode. In STANDBY, a report sent since this module's last transition that shows the
partner's transition 24 from PRIMARY makes transition 22 with cause 0x1A, driving; in PRIMARY, without a failed
targeted self-test, a report of a partner in neither STANDBY nor PRIMARY makes transition 16 with cause 0x0E.
HEARTBEAT_SEND, when it is due, sends one frame on each lane with block lock, and leaves memory, registers and every
other part of the state. EXIT follows the partner: from STANDBY transition 22 after its transition 24; after another
that leaves control, other than 15, transition 12 waits for the boundary; SYNC is aborted with reason 1; PRIMARY,
without a failed targeted self-test, goes on alone when its standby leaves; ISOLATED, SOLO and SAFE stay as they are.
That a report older than the last transition is not acted on, and what shows the partner's transition 24, are the
model's readings (log 60, 106). Spec: 02_operating_modes.md (rules 37, 50); 09_pair_redundancy.md (rules 231, 233,
234, 237, 245). -/
def Obligations.PartnerHeartbeat : Prop :=
  (∀ (lane : Fin 2) (f : EwxFrame) (fr : Frame) (s : State), NewFrame s lane f ftHeartbeat fr → s.mode ∈ [mIsolated, mSafe] →
    Next (.heartbeat lane f) s fun t => t.mode = s.mode ∧ t.laneUp lane.val = true ∧
      t.get Reg.modePartner = fr.num 0 % 8 ∧ t.flag Reg.modePvalid = true ∧ ∃ u, t.link.hb = some ((fr.heartbeat u).after s.link.hb)) ∧
  (∀ (lane : Fin 2) (f : EwxFrame) (fr : Frame) (s : State), NewFrame s lane f ftHeartbeat fr → s.mode = mStandby →
    ((fr.heartbeat s.now).after s.link.hb).tripped = true → s.md.modeAt ≤ fr.sent →
    Next (.heartbeat lane f) s fun t => Entered t mStandby mSafe 0x1A ∧ t.flag Reg.modeDrive = true) ∧
  (∀ (lane : Fin 2) (f : EwxFrame) (fr : Frame) (s : State), NewFrame s lane f ftHeartbeat fr → s.mode = mPrimary →
    fr.num 0 % 8 ∉ [mStandby, mPrimary] → s.md.modeAt ≤ fr.sent → (s.get Reg.diagOwn ≠ 2 ∨ s.link.test = none) →
    Next (.heartbeat lane f) s fun t => Entered t mPrimary mSolo 0x0E) ∧
  (∀ s : State, s.linkRuns = true → (∀ a, s.link.hbSentAt = some a → a + 100000 ≤ s.now) →
    Next .heartbeatSend s fun t => t.link.hbSentAt = some s.now ∧ t.out.length = s.out.length + s.trainedLanes.length ∧
      t.nextSeq ftHeartbeat = (s.nextSeq ftHeartbeat + 1) % 2 ^ 32 ∧ t = { s with link := t.link, out := t.out }) ∧
  (∀ (lane : Fin 2) (f : EwxFrame) (fr : Frame) (s : State), NewFrame s lane f ftExit fr → s.mode = mStandby →
    fr.num 0 / 2 ^ 16 % 32 = 24 →
    Next (.exit lane f) s fun t => Entered t mStandby mSafe 0x1A ∧ t.flag Reg.modeDrive = true) ∧
  (∀ (lane : Fin 2) (f : EwxFrame) (fr : Frame) (s : State), NewFrame s lane f ftExit fr → s.mode = mStandby →
    fr.num 0 / 2 ^ 16 % 32 ∉ [15, 24] → fr.num 0 % 8 ∈ [mPrimary, mSolo] → s.md.pend = none →
    Next (.exit lane f) s fun t => t.mode = mStandby ∧ t.md.pend = some ⟨12, 0x0E, s.boundaryAfter s.now⟩) ∧
  (∀ (lane : Fin 2) (f : EwxFrame) (fr : Frame) (s : State), NewFrame s lane f ftExit fr → s.mode = mPrimary →
    fr.num 0 % 8 = mStandby → (s.get Reg.diagOwn ≠ 2 ∨ s.link.test = none) →
    Next (.exit lane f) s fun t => Entered t mPrimary mSolo 0x0E) ∧
  (∀ (lane : Fin 2) (f : EwxFrame) (fr : Frame) (s : State), NewFrame s lane f ftExit fr → s.mode = mSync →
    fr.num 0 % 8 ∈ [mPrimary, mSolo] →
    Next (.exit lane f) s fun t => Entered t mSync mIsolated 0x0B ∧ t.get Reg.syncAbort = 1) ∧
  (∀ (lane : Fin 2) (f : EwxFrame) (fr : Frame) (s : State), NewFrame s lane f ftExit fr → s.mode ∈ [mIsolated, mSolo, mSafe] →
    Next (.exit lane f) s fun t => t = { s with link := t.link })

/-- LANE_DOWN 300 µs after the last valid HEARTBEAT takes the lane down, counts it and records a class-4 event; with the
last lane the loss of the link is the last class detected. LANE_TRAINING takes its block lock. LANE_RETRAIN takes it
while the other lane is up, and changes nothing while the other lane is down. LANE_TRAINED gives block lock back, ends
RETRAIN and counts. A frame that fails its CRC, or passes it and has no valid header, is counted and changes nothing
else. Each leaves memory and every register field not named. What the spec leaves open here is as log entry 59 has it.
Spec: 09_pair_redundancy.md (rules 231, 232, 233, 262). -/
def Obligations.Lanes : Prop :=
  (∀ (lane : Fin 2) (a : Int) (s : State), s.linkRuns = true → s.laneUp lane.val = true →
    (if lane.val = 0 then s.link.hbA else s.link.hbB) = some a → a + 300000 ≤ s.now →
    Next (.laneDown lane) s fun t => t.laneUp lane.val = false ∧ t.flag Reg.modeLink = s.laneUp (1 - lane.val) ∧
      t.get (Reg.laneDowns lane.val) = min (s.get (Reg.laneDowns lane.val) + 1) (2 ^ (Reg.laneDowns lane.val).width - 1) ∧
      Posts s t 4 ∧ t = { s with
        csr := t.csr, evr := t.evr, link := t.link,
        md := { s.md with lastClass := if s.laneUp (1 - lane.val) then s.md.lastClass else 7 } } ∧
      KeepRegs s t ([Reg.laneUp lane.val, Reg.laneDowns lane.val, Reg.evLinka, Reg.evLinkb, Reg.modeLink, Reg.evrMirror,
        Reg.ewxStripe] ++ evFlds)) ∧
  (∀ (lane : Fin 2) (s : State), s.linkRuns = true → s.md.romOnly = false → lane.val ∉ s.link.training →
    Next (.laneTraining lane) s fun t => t.flag (Reg.laneTrained lane.val) = false ∧ lane.val ∈ t.link.training ∧
      t = { s with csr := t.csr, link := t.link } ∧ KeepRegs s t [Reg.laneTrained lane.val]) ∧
  (∀ (lane : Fin 2) (s : State), s.linkRuns = true → s.md.romOnly = false → lane.val ∉ s.link.training →
    s.laneUp (1 - lane.val) = true →
    Next (.laneRetrain lane) s fun t => t.flag (Reg.laneTrained lane.val) = false ∧
      t.flag (Reg.laneRetrain lane.val) = true ∧ lane.val ∈ t.link.training ∧
      t = { s with csr := t.csr, link := t.link } ∧ KeepRegs s t [Reg.laneTrained lane.val, Reg.laneRetrain lane.val]) ∧
  (∀ (lane : Fin 2) (s : State), s.laneUp (1 - lane.val) = false → Next (.laneRetrain lane) s fun t => t = s) ∧
  (∀ (lane : Fin 2) (s : State), s.functional = true → lane.val ∈ s.link.training →
    Next (.laneTrained lane) s fun t => t.flag (Reg.laneTrained lane.val) = true ∧ t.flag (Reg.laneRetrain lane.val) = false ∧
      lane.val ∉ t.link.training ∧
      t.get (Reg.laneTrains lane.val) = (s.get (Reg.laneTrains lane.val) + 1) % 2 ^ (Reg.laneTrains lane.val).width ∧
      t = { s with csr := t.csr, link := t.link } ∧
      KeepRegs s t [Reg.laneTrained lane.val, Reg.laneRetrain lane.val, Reg.laneTrains lane.val]) ∧
  (∀ (lane : Fin 2) (f : EwxFrame) (s : State), s.linkRuns = true → s.flag (Reg.laneTrained lane.val) = true →
    frameOf f = none →
    Next (.eweoxFrameDiscard lane f) s fun t => t = { s with csr := t.csr } ∧
      (frameCrc f.words ≠ f.crc →
        t.get (Reg.ewxCrc lane.val) = min (s.get (Reg.ewxCrc lane.val) + 1) (2 ^ (Reg.ewxCrc lane.val).width - 1) ∧
        KeepRegs s t [Reg.ewxCrc lane.val]) ∧
      (frameCrc f.words = f.crc →
        t.get Reg.ewxDisc = min (s.get Reg.ewxDisc + 1) (2 ^ Reg.ewxDisc.width - 1) ∧ KeepRegs s t [Reg.ewxDisc]))

/-- HEARTBEAT_ABSENT 300 µs after the last heartbeat shows the partner's mode as not valid: with the toggle present a pair
member starts the settle interval; without it a STANDBY module waits for the boundary of transition 13 (takeover), and
a PRIMARY one without a failed targeted self-test makes transition 16 with cause 0x0E; SYNC is aborted with reason 2;
another mode stays. SETTLE_INTERVAL_EXPIRY with the toggle still present: transition 20 from STANDBY unless a takeover
waits, which outranks it, and 16 from PRIMARY, cause 0x10. TOGGLE_ABSENT shows it; in a pair member with a heartbeat
from a partner that should toggle it is a role-line fault, from one that need not, owed; within the settle interval it
is the row without heartbeat and toggle. PARTNER_TOGGLE_EDGE shows the toggle. INTENT_TAKEN leaves STANDBY (unless a
takeover waits) and SYNC for ISOLATED, SOLO for SAFE driving, PRIMARY at a boundary, all with cause 0x13; in ISOLATED
it suspends auto-join, in SAFE it is recorded and in BOOT only shown. What the spec leaves open here is as log entries
24, 60 and 105 have it. Spec: 02_operating_modes.md (rules 37, 39, 43); 09_pair_redundancy.md (rules 237, 238, 239,
256, 261); 20_hardware_interfaces.md (rule 492). -/
def Obligations.EvidenceOfThePartner : Prop :=
  (∀ (a : Int) (s : State), s.linkRuns = true → s.flag Reg.modePvalid = true → s.lastHb = some a → a + 300000 ≤ s.now →
    s.mode ∈ [mStandby, mPrimary] → s.togglePresent = true →
    Next .heartbeatAbsent s fun t => t.mode = s.mode ∧ t.link.settleAt = some s.now ∧ t.flag Reg.modePvalid = false ∧
      t.linkUp = false) ∧
  (∀ (a : Int) (s : State), s.linkRuns = true → s.flag Reg.modePvalid = true → s.lastHb = some a → a + 300000 ≤ s.now →
    s.mode = mStandby → s.togglePresent = false → s.md.pend = none →
    Next .heartbeatAbsent s fun t => t.mode = mStandby ∧ t.flag Reg.evTakeover = true ∧ t.flag Reg.modePvalid = false ∧
      t.md.pend = some ⟨13, 0x0C, s.boundaryAfter s.now⟩) ∧
  (∀ (a : Int) (s : State), s.linkRuns = true → s.flag Reg.modePvalid = true → s.lastHb = some a → a + 300000 ≤ s.now →
    s.mode = mPrimary → s.togglePresent = false → (s.get Reg.diagOwn ≠ 2 ∨ s.link.test = none) →
    Next .heartbeatAbsent s fun t => Entered t mPrimary mSolo 0x0E) ∧
  (∀ (a : Int) (s : State), s.linkRuns = true → s.flag Reg.modePvalid = true → s.lastHb = some a → a + 300000 ≤ s.now →
    s.mode = mSync →
    Next .heartbeatAbsent s fun t => Entered t mSync mIsolated 0x0B ∧ t.get Reg.syncAbort = 2) ∧
  (∀ (a : Int) (s : State), s.linkRuns = true → s.flag Reg.modePvalid = true → s.lastHb = some a → a + 300000 ≤ s.now →
    s.mode ∈ [mIsolated, mSolo, mSafe] →
    Next .heartbeatAbsent s fun t => t.mode = s.mode ∧ t.flag Reg.modePvalid = false ∧ t.linkUp = false) ∧
  (∀ (a : Int) (s : State), s.link.settleAt = some a → a + 120000 ≤ s.now → s.togglePresent = true → s.mode = mStandby →
    (∀ p, s.md.pend = some p → transRank p.num p.cause ≠ 4) →
    Next .settleIntervalExpiry s fun t => Entered t mStandby mIsolated 0x10 ∧ t.flag Reg.evSplitev = true) ∧
  (∀ (a : Int) (p : Pend) (s : State), s.link.settleAt = some a → a + 120000 ≤ s.now → s.togglePresent = true →
    s.mode = mStandby → s.md.pend = some p → transRank p.num p.cause = 4 →
    Next .settleIntervalExpiry s fun t => t.mode = mStandby ∧ t.md.pend = some p ∧ t.flag Reg.evSplitev = true ∧
      t.link.settleAt = none) ∧
  (∀ (a : Int) (s : State), s.link.settleAt = some a → a + 120000 ≤ s.now → s.togglePresent = true → s.mode = mPrimary →
    (s.get Reg.diagOwn ≠ 2 ∨ s.link.test = none) →
    Next .settleIntervalExpiry s fun t => Entered t mPrimary mSolo 0x10) ∧
  (∀ (a : Int) (s : State), s.link.settleAt = some a → a + 120000 ≤ s.now → s.togglePresent = true →
    s.mode ∉ [mStandby, mPrimary] →
    Next .settleIntervalExpiry s fun t => t = { s with link := { s.link with settleAt := none } }) ∧
  (∀ (a : Int) (h : PartnerHb) (s : State), s.linkRuns = true → s.togglePresent = true → s.link.edgeAt = some a →
    a + 300000 ≤ s.now → s.mode ∈ [mStandby, mPrimary] → s.linkUp = true → s.link.hb = some h → toggles h.mode h.drive = true →
    Next .toggleAbsent s fun t => t.togglePresent = false ∧ t.flag Reg.evRlfault = true ∧ Posts s t 4 ∧
      t = { s with csr := t.csr, evr := t.evr } ∧ KeepRegs s t ([Reg.modeToggle, Reg.evToggle, Reg.evRlfault] ++ evFlds)) ∧
  (∀ (a : Int) (h : PartnerHb) (s : State), s.linkRuns = true → s.togglePresent = true → s.link.edgeAt = some a →
    a + 300000 ≤ s.now → s.mode ∈ [mStandby, mPrimary] → s.linkUp = true → s.link.hb = some h → toggles h.mode h.drive = false →
    Next .toggleAbsent s fun t => t.togglePresent = false ∧ t.link.rlOwed = true ∧ t = { s with csr := t.csr, link := t.link } ∧
      KeepRegs s t [Reg.modeToggle, Reg.evToggle]) ∧
  (∀ (a b : Int) (s : State), s.linkRuns = true → s.togglePresent = true → s.link.edgeAt = some a → a + 300000 ≤ s.now →
    s.linkUp = false → s.link.settleAt = some b → s.mode = mStandby → s.md.pend = none →
    Next .toggleAbsent s fun t => t.mode = mStandby ∧ t.togglePresent = false ∧ t.flag Reg.evTakeover = true ∧
      t.md.pend = some ⟨13, 0x0C, s.boundaryAfter s.now⟩) ∧
  (∀ (a b : Int) (s : State), s.linkRuns = true → s.togglePresent = true → s.link.edgeAt = some a → a + 300000 ≤ s.now →
    s.linkUp = false → s.link.settleAt = some b → s.mode = mPrimary → (s.get Reg.diagOwn ≠ 2 ∨ s.link.test = none) →
    Next .toggleAbsent s fun t => Entered t mPrimary mSolo 0x0E) ∧
  (∀ (a : Int) (s : State), s.linkRuns = true → s.togglePresent = true → s.link.edgeAt = some a → a + 300000 ≤ s.now →
    (s.mode ∉ [mStandby, mPrimary] ∨ (s.linkUp = false ∧ s.link.settleAt = none)) →
    Next .toggleAbsent s fun t => t.togglePresent = false ∧ t = { s with csr := t.csr } ∧
      KeepRegs s t [Reg.modeToggle, Reg.evToggle]) ∧
  (∀ s : State, s.linkRuns = true →
    Next .partnerToggleEdge s fun t => t.togglePresent = true ∧ t.link.edgeAt = some s.now ∧ t.link.rlOwed = false ∧
      t = { s with csr := t.csr, link := t.link } ∧ KeepRegs s t [Reg.modeToggle, Reg.evToggle]) ∧
  (∀ s : State, s.functional = true → s.mode = mStandby → (∀ p, s.md.pend = some p → transRank p.num p.cause ≠ 4) →
    Next .intentTaken s fun t => Entered t mStandby mIsolated 0x13 ∧ t.flag Reg.intentSeen = true) ∧
  (∀ s : State, s.functional = true → s.mode = mSync →
    Next .intentTaken s fun t => Entered t mSync mIsolated 0x13 ∧ t.get Reg.syncAbort = 5 ∧
      t.flag Reg.intentSeen = true) ∧
  (∀ s : State, s.functional = true → s.mode = mSolo →
    Next .intentTaken s fun t => Entered t mSolo mSafe 0x13 ∧ t.flag Reg.modeDrive = true ∧
      t.flag Reg.intentSeen = true) ∧
  (∀ s : State, s.functional = true → s.mode = mPrimary → s.md.pend = none →
    Next .intentTaken s fun t => t.mode = mPrimary ∧ t.md.pend = some ⟨17, 0x13, s.boundaryAfter s.now⟩ ∧
      t.flag Reg.intentSeen = true) ∧
  (∀ s : State, s.functional = true → s.mode ∈ [mIsolated, mSafe] →
    Next .intentTaken s fun t => t.mode = s.mode ∧ t.flag Reg.intentSeen = true ∧ t.flag Reg.intentSw = true ∧
      (s.mode = mIsolated → t.md.autoSusp = true) ∧ Posts s t 4 ∧ t = { s with csr := t.csr, evr := t.evr, md := t.md }) ∧
  (∀ s : State, s.functional = true → s.mode = mBoot →
    Next .intentTaken s fun t => t.flag Reg.intentSw = true ∧ t = { s with csr := t.csr } ∧
      KeepRegs s t [Reg.intentSw])

/-- A claim received out of control is held with its preference bit; a module whose own claim has waited 1 ms without one
from the partner, with the start conditions met and no damaged word, starts, one that loses drops its claim and
changes nothing else. A STANDBY module accepts a proposal; the PRIMARY module that proposed, on an acceptance by B −
200 µs with nothing pending, waits for transition 15 at B; the STANDBY module, on the confirmation, for transition 11
at B; without an acceptance by then the swap lapses on the PRIMARY module. At B the transitions are made; an
unconfirmed swap lapses on the STANDBY module. A reversal makes transition 11. Transition 11 is stated where no
safety-related task has reached its skip limit. What the spec leaves open here is as log entry 60 has it. Spec:
02_operating_modes.md (rule 37); 09_pair_redundancy.md (rules 242, 243). -/
def Obligations.StartClaimAndSwap : Prop :=
  (∀ (lane : Fin 2) (f : EwxFrame) (fr : Frame) (s : State), NewFrame s lane f ftRole fr → fr.roleKind = 1 →
    s.inControl = false → s.partnerControls = false →
    Next (.startClaim lane f) s fun t => t.link.claimPartner = some s.now ∧ t.link.claimPref = (fr.num 0).testBit 2 ∧
      t = { s with link := t.link }) ∧
  (∀ (a : Int) (s : State), s.link.claimOwn = some a → a + 1000000 ≤ s.now → s.mode = mIsolated →
    s.link.claimPartner = none → s.startOk = true → Sound s → s.link.claimCause < 256 →
    Next .startClaimWaitExpiry s fun t => Entered t mIsolated mSolo s.link.claimCause) ∧
  (∀ (a u : Int) (s : State), s.link.claimOwn = some a → a + 1000000 ≤ s.now → s.link.claimPartner = some u →
    a - 1000000 ≤ u → s.claimWins = false →
    Next .startClaimWaitExpiry s fun t => t = { s with link := { s.link with claimOwn := none, claimPartner := none } }) ∧
  (∀ (lane : Fin 2) (f : EwxFrame) (fr : Frame) (s : State), NewFrame s lane f ftRole fr → fr.roleKind = 2 →
    s.mode = mStandby →
    Next (.swapProposal lane f) s fun t => t.link.swap = some (Swap.mk fr.seq (fr.time 1) true false) ∧
      t.out.length = s.out.length + s.lanesUp.length ∧ t = { s with link := t.link, out := t.out }) ∧
  (∀ (lane : Fin 2) (f : EwxFrame) (fr : Frame) (w : Swap) (s : State), NewFrame s lane f ftRole fr → fr.roleKind = 3 →
    s.mode = mPrimary → s.link.swap = some w → w.accepted = false → fr.num 0 / 2 ^ 32 = w.seq → s.now ≤ w.b - 200000 →
    s.md.pend = none →
    Next (.swapAcceptance lane f) s fun t => t.md.pend = some ⟨15, 0x1C, w.b⟩ ∧
      t.link.swap = some { w with accepted := true } ∧
      t = { s with csr := t.csr, md := t.md, link := t.link, out := t.out } ∧ KeepRegs s t [Reg.reqBusy, Reg.reqLasttgt]) ∧
  (∀ (lane : Fin 2) (f : EwxFrame) (fr : Frame) (w : Swap) (s : State), NewFrame s lane f ftRole fr → fr.roleKind = 16 →
    s.mode = mStandby → s.link.swap = some w → w.confirmed = false → fr.time 1 = w.b →
    Next (.swapConfirmation lane f) s fun t => t.md.pend = some ⟨11, 0x1C, w.b⟩ ∧
      t.link.swap = some { w with confirmed := true } ∧ t = { s with csr := t.csr, md := t.md, link := t.link } ∧
      KeepRegs s t [Reg.reqBusy, Reg.reqLasttgt]) ∧
  (∀ (w : Swap) (s : State), s.link.swap = some w → s.mode = mPrimary → w.accepted = false → w.b - 200000 < s.now →
    Next .swapAcceptanceDeadline s fun t => t.link.swap = none ∧ Posts s t 1 ∧
      t = { s with csr := t.csr, evr := t.evr, link := t.link } ∧ KeepRegs s t evFlds) ∧
  (∀ (w : Swap) (s : State), s.link.swap = some w → w.b ≤ s.now → s.mode = mPrimary → w.accepted = true →
    Next .swapBoundary s fun t => Entered t mPrimary mStandby 0x1C) ∧
  (∀ (w : Swap) (s : State), s.link.swap = some w → w.b ≤ s.now → s.mode = mStandby → w.confirmed = true →
    s.skipLimitReached = false →
    Next .swapBoundary s fun t => Entered t mStandby mPrimary 0x1C) ∧
  (∀ (w : Swap) (s : State), s.link.swap = some w → w.b ≤ s.now → s.mode = mStandby → w.confirmed = false →
    Next .swapBoundary s fun t => t.link.swap = none ∧ t.mode = mStandby ∧ Posts s t 1 ∧
      t = { s with csr := t.csr, evr := t.evr, link := t.link }) ∧
  (∀ (b : Int) (s : State), s.link.reversalAt = some b → s.mode = mStandby → b ≤ s.now → s.skipLimitReached = false →
    Next .swapReversal s fun t => Entered t mStandby mPrimary 0x1C)

/-- SNAPSHOT words of an open cycle, in a machine without a damaged word, go to the destinations of the task's list from
the named entry on and nowhere else, and the entries count as arrived. TRIGGER of an enabled urgent task whose place
is free and owes no copy, and whose image gives it no check list, dispatches it for the trigger's instant; on a module
in SYNC with GO it is held. AOCMD puts each named channel's current into effect at once (instant 0) or as the pending
command; one whose output instant has passed changes nothing. WEIR for the window's boundary takes the decision GO, or
cancels. What the spec leaves open here is as log entries 45, 58 and 112 have it. Spec: 01_module_overview.md (rule
17); 05_drover_cycle_scheduling.md (rules 133, 134, 146, 147); 09_pair_redundancy.md (rules 234, 244, 245);
15_current_loop_io.md (rule 386). -/
def Obligations.FramesOfEachCycle : Prop :=
  (∀ (lane : Fin 2) (f : EwxFrame) (fr : Frame) (n : Nat) (s : State), NewFrame s lane f ftSnapshot fr → s.mode = mStandby →
    n = fr.num 0 % 32 + (if (fr.num 0).testBit 5 then 32 else 0) → (s.task n).rel = some (fr.time 1) → s.openCycle n = true →
    s.upsets = [] →
    Next (.snapshot lane f) s fun t => t.mode = mStandby ∧
      KeepWords s t (fun a => a ∈ ((s.snapList n).drop (fr.num 0 / 2 ^ 16 % 65536)).map Prod.snd) ∧
      (∀ (w : TW) (p a : Nat), fr.payload.drop 2 = [w] → (s.snapList n)[fr.num 0 / 2 ^ 16 % 65536]? = some (p, a) →
        t.word a = w ∧ fr.num 0 / 2 ^ 16 % 65536 ∈ (t.task n).got)) ∧
  (∀ (lane : Fin 2) (f : EwxFrame) (fr : Frame) (n : Nat) (s : State), NewFrame s lane f ftTrigger fr → s.mode = mStandby →
    n = fr.num 0 % 32 → 16 ≤ n → n < 24 → s.active = true → s.enabled n = true → s.get (Reg.utrigSrc n) ≠ 0 →
    (s.task n).pend = none → s.runningAt (s.place n) = none → (s.pair (s.place n / 2)).ahead = [] →
    (s.task n).lastDispatch = none → s.place n ∉ s.xch.keep → NoChecks s n →
    Next (.trigger lane f) s fun t => t.mode = mStandby ∧ (t.task n).rel = some (fr.time 2) ∧
      (t.task n).lastDispatch = some s.now ∧ (t.get Reg.drvUrun).testBit (n - 16) = true) ∧
  (∀ (lane : Fin 2) (f : EwxFrame) (fr : Frame) (n : Nat) (s : State), NewFrame s lane f ftTrigger fr → s.mode = mSync →
    s.link.goAt.isSome = true → n = fr.num 0 % 32 → 16 ≤ n → n < 24 → (s.task n).pend = none →
    Next (.trigger lane f) s fun t =>
      (t.task n).pend = some (fr.time 2, if (fr.num 0).testBit 5 then [] else fr.payload.drop 1) ∧
      (t.get Reg.drvUpend).testBit (n - 16) = true ∧ SameMem s t ∧
      t = { s with csr := t.csr, drv := t.drv, link := t.link, pwr := t.pwr, pairs := t.pairs }) ∧
  (∀ (lane : Fin 2) (f : EwxFrame) (fr : Frame) (n : Fin 8) (s : State), NewFrame s lane f ftAocmd fr → s.mode = mStandby →
    (fr.num 1).testBit n.val = true → fr.time 0 = 0 →
    Next (.aocmd lane f) s fun t => t.mode = mStandby ∧ t.get (Reg.aoC n.val) =
        (nanoAmps (fr.payload.getD (2 + n.val) ⟨0#64, 0#8⟩)).toNat % 2 ^ (Reg.aoC n.val).width) ∧
  (∀ (lane : Fin 2) (f : EwxFrame) (fr : Frame) (n : Fin 8) (s : State), NewFrame s lane f ftAocmd fr → s.mode = mStandby →
    (fr.num 1).testBit n.val = true → fr.time 0 ≠ 0 → s.now < fr.time 0 →
    Next (.aocmd lane f) s fun t => t.mode = mStandby ∧ t.flag (Reg.aopValid n.val) = true ∧ t.get (Reg.aopC n.val) =
        (nanoAmps (fr.payload.getD (2 + n.val) ⟨0#64, 0#8⟩)).toNat % 2 ^ (Reg.aopC n.val).width) ∧
  (∀ (lane : Fin 2) (f : EwxFrame) (fr : Frame) (s : State), NewFrame s lane f ftAocmd fr → s.mode = mStandby →
    fr.time 0 ≠ 0 → fr.time 0 ≤ s.now →
    Next (.aocmd lane f) s fun t => t = { s with link := t.link }) ∧
  (∀ (lane : Fin 2) (f : EwxFrame) (fr : Frame) (s : State), NewFrame s lane f ftWeir fr → s.mode = mStandby →
    s.drv.window = some (fr.time 1) → s.get Reg.weirKind = fr.num 0 % 2 → (fr.num 0).testBit 8 = true →
    Next (.weir lane f) s fun t => t.drv.decision = some true ∧ t = { s with drv := t.drv, link := t.link }) ∧
  (∀ (lane : Fin 2) (f : EwxFrame) (fr : Frame) (s : State), NewFrame s lane f ftWeir fr → s.mode = mStandby →
    s.drv.window = some (fr.time 1) → s.get Reg.weirKind = fr.num 0 % 2 → (fr.num 0).testBit 8 = false →
    Next (.weir lane f) s fun t => t.mode = mStandby ∧ t.drv.window = none ∧ t.get Reg.weirState = 4 ∧
      t.get Reg.weirCancel = min (s.get Reg.weirCancel + 1) (2 ^ Reg.weirCancel.width - 1))

/-- A SEAL record whose counterpart is not held is held. One whose counterpart is held is compared: equal seals count and
clear the task's disagreement; different ones count as a disagreement and, with no test running, start the targeted
self-test and are captured, with a class-4 event. A record missing at its deadline is counted and no longer held. The
test's end shows its result, and a failed one, by a miss or an uncorrectable word that it reads, takes a STANDBY
module into SAFE with cause 0x15. A partner's failed result takes a PRIMARY module to SOLO. After 2.5 s without the
partner's result a PRIMARY module goes to SOLO, and a STANDBY one that passed waits for transition 14. What the spec
leaves open here is as log entries 39 and 58 have it. Spec: 02_operating_modes.md (rule 37); 09_pair_redundancy.md
(rules 246, 247, 249, 250, 251). -/
def Obligations.SealsAndSelfTest : Prop :=
  (∀ (lane : Fin 2) (f : EwxFrame) (fr : Frame) (s : State), NewFrame s lane f ftSeal fr → s.mode ∈ [mStandby, mPrimary] →
    s.link.seals.find? fr.seal.same = none →
    Next (.seal lane f) s fun t => t.link.pSeals = s.link.pSeals ++ [fr.seal] ∧ t = { s with link := t.link }) ∧
  (∀ (lane : Fin 2) (f : EwxFrame) (fr : Frame) (r : SealRec) (s : State), NewFrame s lane f ftSeal fr →
    s.mode ∈ [mStandby, mPrimary] → s.link.seals.find? fr.seal.same = some r →
    Next (.seal lane f) s fun t => t.mode = s.mode ∧ SameMem s t ∧
      t.get Reg.sealCmp = (s.get Reg.sealCmp + 1) % 2 ^ Reg.sealCmp.width ∧
      ((r.state, r.output, r.store) = (fr.seal.state, fr.seal.output, fr.seal.store) →
        t.get Reg.sealDis = s.get Reg.sealDis ∧ r.task ∉ t.link.disagreed ∧ t.link.test = s.link.test) ∧
      ((r.state, r.output, r.store) ≠ (fr.seal.state, fr.seal.output, fr.seal.store) →
        t.get Reg.sealDis = min (s.get Reg.sealDis + 1) (2 ^ Reg.sealDis.width - 1) ∧ r.task ∈ t.link.disagreed ∧
        (s.link.test = none → t.link.test.isSome = true ∧ t.flag Reg.sfValid = true ∧ t.get Reg.diagState = 1 ∧ Posts s t 4))) ∧
  (∀ (task : Fin 24) (r : SealRec) (s : State),
    ((s.link.seals ++ s.link.pSeals).find? fun x => x.task == task.val && s.due (s.sealDeadline x)) = some r →
    Next (.sealRecordMissing task) s fun t => t.get Reg.sealMiss = min (s.get Reg.sealMiss + 1) (2 ^ Reg.sealMiss.width - 1) ∧
      (∀ x ∈ t.link.seals ++ t.link.pSeals, r.same x = false) ∧ t.mode = s.mode ∧ SameMem s t) ∧
  (∀ (x : SelfTest) (s : State), s.link.test = some x → x.running = true → s.get Reg.diagPart = 0 → s.upsets = [] →
    s.flag (Reg.spdBelow (s.pairOf x.task / 4)) = false → s.now < x.start + 2000000000 → s.mode = mPrimary →
    Next (.targetedSelfTestEnd false false) s fun t => t.mode = mPrimary ∧ t.get Reg.diagOwn = 1 ∧ t.get Reg.diagState = 2 ∧
      Posts s t 4 ∧ SameMem s t) ∧
  (∀ (a b : Bool) (x : SelfTest) (s : State), (a || b) = true → s.link.test = some x → x.running = true → s.mode = mStandby →
    s.functional = true → s.upsets = [] →
    Next (.targetedSelfTestEnd a b) s fun t => Entered t mStandby mSafe 0x15) ∧
  (∀ (x : SelfTest) (e : Nat × BitVec 80) (s : State), s.link.test = some x → x.running = true → s.mode = mStandby →
    s.functional = true → s.upsets = [e] → 2 ≤ eccKind (s.flips e.1) → s.testReads (s.pairOf x.task) e.1 = true →
    Next (.targetedSelfTestEnd false false) s fun t => Entered t mStandby mSafe 0x15) ∧
  (∀ (lane : Fin 2) (f : EwxFrame) (fr : Frame) (x : SelfTest) (s : State), NewFrame s lane f ftDiag fr → s.mode = mPrimary →
    s.link.test = some x → s.get Reg.diagOwn ≠ 2 → fr.num 0 % 4 = 2 →
    Next (.diag lane f) s fun t => Entered t mPrimary mSolo 0x0E) ∧
  (∀ (lane : Fin 2) (f : EwxFrame) (fr : Frame) (s : State), NewFrame s lane f ftDiag fr → s.link.test = none →
    Next (.diag lane f) s fun t => t.get Reg.diagPart = fr.num 0 % 4 ∧ KeepRegs s t [Reg.diagPart] ∧
      t = { s with csr := t.csr, link := t.link, out := t.out }) ∧
  (∀ (x : SelfTest) (s : State), s.link.test = some x → x.start + 2500000000 ≤ s.now → s.get Reg.diagPart = 0 →
    s.mode = mPrimary → s.get Reg.diagOwn ≠ 2 →
    Next .diagTimeout s fun t => Entered t mPrimary mSolo 0x0E) ∧
  (∀ (x : SelfTest) (s : State), s.link.test = some x → x.start + 2500000000 ≤ s.now → s.get Reg.diagPart = 0 →
    s.mode = mStandby → s.get Reg.diagOwn = 1 → s.md.pend = none →
    Next .diagTimeout s fun t => t.mode = mStandby ∧ t.get Reg.diagPart = 1 ∧
      t.md.pend = some ⟨14, 0x11, s.boundaryAfter s.now⟩)

/-- A SYNCDATA word of data memory is written in SYNC at its address and nowhere else, where the MPU permits EWX DMA the
write; a refused one leaves memory. SYNCCTL shows the phase that it starts; with GO it shows phase 6 and makes
transition 9 wait for B; with an abort it leaves SYNC with cause 0x0B and shows the reason. SYNC_PHASE_END on the
sender, with everything acknowledged and no damaged word, begins the next of the phases 1 to 5. In the final window a
light enough load of dirty words is copied and B is chosen; 2 µs before B GO is sent unless an urgent task has been
dispatched, which ends the window and lets what it held take effect; a SOLO sender then waits for transition 18 at B.
The convergence limit aborts SYNC with reason 3. What the spec leaves open here is as log entries 61 and 62 have it.
Spec: 02_operating_modes.md (rule 37); 09_pair_redundancy.md (rules 234, 252, 253, 254, 255). -/
def Obligations.SyncAndItsEnd : Prop :=
  (∀ (lane : Fin 2) (f : EwxFrame) (fr : Frame) (w : TW) (s : State), NewFrame s lane f ftSyncdata fr → s.mode = mSync →
    fr.num 0 % 16 = 0 → fr.num 0 / 2 ^ 32 < 0x400000 → fr.payload.drop 1 = [w] →
    ((s.mpuCheck ⟨mEwx, .write, true, fr.num 0 / 2 ^ 32, 0, false, false⟩).1 = true →
      Next (.syncdata lane f) s fun t => t.word (fr.num 0 / 2 ^ 32) = w ∧ KeepWords s t (· = fr.num 0 / 2 ^ 32) ∧
        t = { s with mem := t.mem, upsets := t.upsets, link := t.link, out := t.out }) ∧
    (Sound s → (s.mpuCheck ⟨mEwx, .write, true, fr.num 0 / 2 ^ 32, 0, false, false⟩).1 = false →
      Next (.syncdata lane f) s fun t => SameMem s t ∧ t.mode = mSync)) ∧
  (∀ (lane : Fin 2) (f : EwxFrame) (fr : Frame) (s : State), NewFrame s lane f ftSyncctl fr → s.mode = mSync →
    fr.num 0 / 16 % 16 = 1 → fr.num 0 % 16 ≠ 3 →
    Next (.syncctl lane f) s fun t => t.mode = mSync ∧ t.get Reg.syncPhase = fr.num 0 % 16 % 2 ^ Reg.syncPhase.width ∧
      Posts s t 4 ∧ t = { s with csr := t.csr, evr := t.evr, link := t.link, out := t.out }) ∧
  (∀ (lane : Fin 2) (f : EwxFrame) (fr : Frame) (s : State), NewFrame s lane f ftSyncctl fr → s.mode = mSync →
    fr.num 0 / 16 % 16 = 3 → s.link.sync2 = [] →
    Next (.syncctl lane f) s fun t => t.mode = mSync ∧ t.md.pend = some ⟨9, 0x0A, fr.time 1⟩ ∧
      t.get Reg.syncPhase = 6 ∧ t.link.goAt = some (fr.time 1)) ∧
  (∀ (lane : Fin 2) (f : EwxFrame) (fr : Frame) (s : State), NewFrame s lane f ftSyncctl fr → s.mode = mSync →
    fr.num 0 / 16 % 16 = 4 →
    Next (.syncctl lane f) s fun t => Entered t mSync mIsolated 0x0B ∧ t.get Reg.syncAbort = fr.num 0 / 256 % 16) ∧
  (∀ s : State, s.inControl = true → s.syncAcked = true → s.link.goAt = none → 1 ≤ s.link.sendPhase → s.link.sendPhase < 5 →
    Sound s →
    Next .syncPhaseEnd s fun t => t.link.sendPhase = s.link.sendPhase + 1 ∧ t.mode = s.mode ∧ SameMem s t ∧ Posts s t 4) ∧
  (∀ s : State, s.inControl = true → s.syncAcked = true → s.link.goAt = none → s.link.sendPhase = 5 → Sound s →
    Next .syncPhaseEnd s fun t => t.link.sendPhase = 5 ∧ t.link.dirty = [] ∧ t.mode = s.mode ∧ SameMem s t ∧
      t.get Reg.syncPasses = min (s.get Reg.syncPasses + 1) (2 ^ Reg.syncPasses.width - 1)) ∧
  (∀ (b : Int) (s : State), s.inControl = true → s.link.sendPhase = 5 → s.link.goAt = none → s.windowDue = some b →
    s.qualifies = true → s.link.phase2Dirty = false → s.get Reg.syncDs + 40 * s.get Reg.syncDr ≤ 800 → Sound s →
    Next .syncFinalWindow s fun t => t.link.goAt = some b ∧ t.link.dirty = [] ∧ t.mode = s.mode ∧ SameMem s t) ∧
  (∀ (b : Int) (s : State), s.inControl = true → s.link.sendPhase = 5 → s.link.goAt = some b → s.matches (b - 2000) = true →
    s.drv.urgentInW = true →
    Next .syncFinalWindow s fun t => t = { s with link := { s.link with goAt := some s.now } }.flushWindow) ∧
  (∀ (b : Int) (s : State), s.inControl = true → s.link.sendPhase = 5 → s.link.goAt = some b → s.matches (b - 2000) = true →
    s.drv.urgentInW = false →
    Next .syncFinalWindow s fun t => t.link.sendPhase = 6 ∧ t.link.goAt = some b ∧ t.mode = s.mode ∧ SameMem s t ∧
      (s.mode = mSolo ∧ s.md.pend = none → t.md.pend = some ⟨18, 0x0F, b⟩) ∧
      (s.mode ≠ mSolo → t = { s with link := t.link, out := t.out })) ∧
  (∀ (a : Int) (s : State), s.link.phase3At = some a → s.mode = mSync → s.link.goAt = none →
    a + (s.get Reg.convlim : Int) * 1000000000 ≤ s.now →
    Next .convergenceLimitExpiry s fun t => Entered t mSync mIsolated 0x0B ∧ t.get Reg.syncAbort = 3)

/-- A MIRROR record or update joins the queue of mirrored records. An OBJECT part that leaves its set incomplete is held;
an image that arrives whole in one part on a STANDBY module becomes the file of its idle flash slot, which is valid
again. A MANIFEST frame is held and its firmware release and class are shown. An ECHO request is answered, and
ECHO_SEND sends one, on every lane that is up; a reply shows the lane's latency. ACK ends the wait of its frame and of
no other; an unacknowledged frame is counted and sent again, and after 8 attempts is given up with a class-4 event.
What the spec leaves open here is as log entries 22, 58, 62 and 64 have it. Spec: 09_pair_redundancy.md (rules 233,
234, 235, 258, 259); 13_time_base_and_ptp.md (rule 344); 18_event_recorder.md (rule 446);
07_program_exchange_and_restart.md (rule 174). -/
def Obligations.FramesOfTheLink : Prop :=
  (∀ (lane : Fin 2) (f : EwxFrame) (fr : Frame) (s : State), NewFrame s lane f ftMirror fr → fr.num 0 % 4 = 1 →
    Next (.mirror lane f) s fun t => t.evr.mirror = s.evr.mirror ++
        [.record ((valueBytes (fr.payload.drop 1)).take (fr.num 0 / 2 ^ 16 % 2 ^ 16))] ∧
      t = { s with evr := t.evr, link := t.link, out := t.out }) ∧
  (∀ (lane : Fin 2) (f : EwxFrame) (fr : Frame) (s : State), NewFrame s lane f ftMirror fr → fr.num 0 % 4 = 2 →
    Next (.mirror lane f) s fun t => t.evr.mirror = s.evr.mirror ++ [.update (fr.num 1) (fr.num 2)] ∧
      t = { s with evr := t.evr, link := t.link, out := t.out }) ∧
  (∀ (lane : Fin 2) (f : EwxFrame) (fr : Frame) (s : State), NewFrame s lane f ftObject fr → s.runtime = true →
    fr.num 0 / 2 ^ 16 % 65536 = 0 → (s.link.objs.find? fun o => o.kind == fr.num 0 % 16) = none →
    (valueBytes (fr.payload.drop 1)).length < fr.num 0 / 2 ^ 32 →
    Next (.object lane f) s fun t =>
      (ObjRx.mk (fr.num 0 % 16) (fr.num 0 / 2 ^ 32) [(0, valueBytes (fr.payload.drop 1))]) ∈ t.link.objs ∧
      t = { s with csr := t.csr, link := t.link, out := t.out } ∧ KeepRegs s t [Reg.xchFree]) ∧
  (∀ (lane : Fin 2) (f : EwxFrame) (fr : Frame) (s : State), NewFrame s lane f ftObject fr → s.runtime = true →
    s.mode = mStandby → fr.num 0 % 16 = 1 → fr.num 0 / 2 ^ 16 % 65536 = 0 → (s.link.objs.find? fun o => o.kind == 1) = none →
    fr.num 0 / 2 ^ 32 ≤ (valueBytes (fr.payload.drop 1)).length →
    Next (.object lane f) s fun t =>
      t.flashImage t.idleSlot = (valueBytes (fr.payload.drop 1)).take (fr.num 0 / 2 ^ 32) ∧
      t.lcs.flashBad.testBit (2 + t.idleSlot) = false ∧ t.mode = mStandby) ∧
  (∀ (lane : Fin 2) (f : EwxFrame) (fr : Frame) (s : State), NewFrame s lane f ftManifest fr →
    s.mode ∈ [mIsolated, mSafe] →
    Next (.manifest lane f) s fun t => t.link.manifest = some fr.manifest ∧ t.get Reg.pfwRel = fmRelease fr.manifest.bytes ∧
      t.get Reg.pfwClass = fmClass fr.manifest.bytes ∧ t.mode = s.mode ∧ SameMem s t) ∧
  (∀ (lane : Fin 2) (f : EwxFrame) (fr : Frame) (s : State), NewFrame s lane f ftEcho fr → (fr.num 0).testBit 0 = true →
    Next (.echo lane f) s fun t => t.get (Reg.ewxLat lane.val) =
        min ((s.now - fr.time 1 - (fr.time 3 - fr.time 2)) / 2).toNat 65535 ∧ KeepRegs s t [Reg.ewxLat lane.val] ∧
      t = { s with csr := t.csr, link := t.link }) ∧
  (∀ (lane : Fin 2) (f : EwxFrame) (fr : Frame) (s : State), NewFrame s lane f ftEcho fr → (fr.num 0).testBit 0 = false →
    Next (.echo lane f) s fun t => t.out.length = s.out.length + s.lanesUp.length ∧
      t = { s with link := t.link, out := t.out }) ∧
  (∀ (lane : Fin 2) (s : State), s.linkRuns = true → s.laneUp lane.val = true →
    (∀ a, SMap.find s.link.echoAt lane.val = some a → a + 1000000000 ≤ s.now) →
    Next (.echoSend lane) s fun t => SMap.find t.link.echoAt lane.val = some s.now ∧
      t.out.length = s.out.length + s.lanesUp.length ∧ t = { s with link := t.link, out := t.out }) ∧
  (∀ (lane : Fin 2) (f : EwxFrame) (fr : Frame) (s : State), NewFrame s lane f ftAck fr →
    Next (.ack lane f) s fun t => t = { s with link := t.link } ∧
      ∀ a, a ∈ t.link.acks ↔ a ∈ s.link.acks ∧ ¬ (a.ty = fr.num 0 % 256 ∧ a.seq = fr.num 0 / 2 ^ 32)) ∧
  (∀ (ty : BitVec 8) (seq : BitVec 32) (a : AckWait) (s : State),
    (s.link.acks.find? fun x => x.ty == ty.toNat && x.seq == seq.toNat) = some a → a.at_ + 20000 ≤ s.now → a.tries < 8 →
    Next (.ackRetryExpiry ty seq) s fun t => t.get Reg.ewxRetx = min (s.get Reg.ewxRetx + 1) (2 ^ Reg.ewxRetx.width - 1) ∧
      { a with at_ := s.now, tries := a.tries + 1 } ∈ t.link.acks ∧ KeepRegs s t [Reg.ewxRetx] ∧
      t = { s with csr := t.csr, link := t.link, out := t.out }) ∧
  (∀ (ty : BitVec 8) (seq : BitVec 32) (a : AckWait) (s : State),
    (s.link.acks.find? fun x => x.ty == ty.toNat && x.seq == seq.toNat) = some a → a.at_ + 20000 ≤ s.now → 8 ≤ a.tries →
    ty.toNat = ftMirror →
    Next (.ackRetryExpiry ty seq) s fun t => a ∉ t.link.acks ∧ Posts s t 4 ∧ KeepRegs s t evFlds ∧
      t = { s with csr := t.csr, evr := t.evr, link := t.link })

/-- WEIR_SEARCH_ARM with ARM 1 starts a search with its kind and horizon. WEIR_WINDOW_OPEN for a commit opens the window
of a boundary that suits and prepares an armed set. WEIR_DECISION of a module in control is GO with the application
prepared and no urgent task dispatched since, otherwise the window is cancelled and counted. WEIR_APPLY at B on GO of
a prepared commit puts the checked set into effect and empties the Tarn; without GO the search goes on.
WEIR_HORIZON_EXPIRY ends the search, and an armed set returns to OPEN. What the spec leaves open here is as log entry
44 has it. Spec: 05_drover_cycle_scheduling.md (rules 144, 145, 146, 147, 514); 11_object_dictionary_and_staging.md
(rules 299, 300, 301, 302). -/
def Obligations.BoundarySearch : Prop :=
  (∀ (w : BitVec 32) (s : State), s.runtime = true → w.getLsbD 0 = true →
    Next (.weirSearchArm w) s fun t => t.flag Reg.weirArm = true ∧ t.get Reg.weirKind = w.toNat / 2 % 2 ∧
      t.get Reg.weirHorizon = w.toNat / 256 % 2 ^ 16 ∧ t.get Reg.weirState = 1 ∧ t.drv.searchAt = some s.now ∧
      t.drv.window = none ∧ t = { s with csr := t.csr, drv := t.drv } ∧
      KeepRegs s t ([Reg.weirArm, Reg.weirKind, Reg.weirHorizon, Reg.weirState, Reg.weirAtl, Reg.weirAth] ++ cfgenFlds)) ∧
  (∀ (b : Int) (s : State), s.windowDue = some b → s.windowFor b = true → s.get Reg.weirKind = 0 →
    Next .weirWindowOpen s fun t => t.drv.window = some b ∧ t.drv.decision = none ∧ t.get Reg.weirState = 2 ∧
      t.tarn.prepared = decide (s.tarn.state = 3) ∧ t = { s with csr := t.csr, drv := t.drv, tarn := t.tarn } ∧
      KeepRegs s t [Reg.weirState, Reg.weirBl, Reg.weirBh]) ∧
  (∀ (b : Int) (s : State), s.drv.window = some b → s.mode ∈ [mPrimary, mSolo] → s.drv.decision = none →
    s.matches (b - 2000) = true → s.drv.urgentInW = false → s.weirPrepared = true →
    Next .weirDecision s fun t => t.drv.decision = some true ∧ t = { s with drv := t.drv, link := t.link, out := t.out }) ∧
  (∀ (b : Int) (s : State), s.drv.window = some b → s.mode ∈ [mPrimary, mSolo] → s.drv.decision = none →
    s.matches (b - 2000) = true → (s.drv.urgentInW = true ∨ s.weirPrepared = false) →
    Next .weirDecision s fun t => t.mode = s.mode ∧ t.drv.window = none ∧ t.get Reg.weirState = 4 ∧
      t.get Reg.weirCancel = min (s.get Reg.weirCancel + 1) (2 ^ Reg.weirCancel.width - 1)) ∧
  (∀ (b : Int) (s : State), s.drv.window = some b → s.matches b = true →
    (s.drv.decision ≠ some true ∨ s.weirPrepared = false) →
    Next .weirApply s fun t => t.drv.window = none ∧ t.get Reg.weirState = 1 ∧ t.cfg = s.cfg) ∧
  (∀ (b : Int) (s : State), s.drv.window = some b → s.matches b = true → s.drv.decision = some true →
    s.get Reg.weirKind = 0 → s.tarn.prepared = true →
    Next .weirApply s fun t => t.cfg = s.candidate ∧ t.tarn.state = 0 ∧ t.tarn.entries = [] ∧ t.tarn.last = 1 ∧
      t.tarn.lastB = b ∧ t.get Reg.weirState = 3 ∧ t.flag Reg.weirArm = false ∧ t.drv.window = none) ∧
  (∀ (a : Int) (s : State), s.drv.searchAt = some a → s.flag Reg.weirArm = true → s.drv.window = none →
    a + (s.get Reg.weirHorizon : Int) * 10000000 + 1 ≤ s.now → s.get Reg.weirKind = 0 → s.tarn.state = 3 →
    Next .weirHorizonExpiry s fun t => t.get Reg.weirState = 5 ∧ t.flag Reg.weirArm = false ∧ t.tarn.state = 1 ∧
      t.tarn.last = 3 ∧ t.tarn.entries = s.tarn.entries ∧ t.cfg = s.cfg ∧ Posts s t 6)

/-- In a machine without a damaged word, RELEASE of an enabled task at a release instant, with no cycle open and nothing
that takes effect before it, begins the snapshot of a cycle for that instant, counts it, and notes whether the module
is in control. With a cycle open it is skipped and counted; where the skips in a row of a safety-related task then
reach its limit in control, the module enters SAFE with cause 0x16. SNAPSHOT_COMPLETE out of STANDBY, of a cycle
released in control and the first in order, in a machine without a damaged word, copies the point of a snapshot list
of one to its destination and, the place being free, drained, owed no KEEP copy and awaited by no other task, and
nothing to check, starts the task's logic there; in STANDBY it starts logic once every entry has arrived; with a task
of higher priority running there the task waits. Spec: 05_drover_cycle_scheduling.md (rules 118, 119, 120, 121, 124,
125, 129, 131); 06_process_image.md (rule 158); 02_operating_modes.md (rule 37). -/
def Obligations.ReleaseAndSnapshot : Prop :=
  (∀ (n : Fin 16) (a : Int) (s : State), s.releaseDue n.val = some a → s.openCycle n.val = false → s.upsets = [] →
    Next (.release n false) s fun t => (t.task n.val).rel = some a ∧ (t.task n.val).lastRel = some a ∧
      (t.task n.val).own = s.inControl ∧ t.tstate n.val = tsSnapshot ∧
      t.get (Reg.trel n.val) = (s.get (Reg.trel n.val) + 1) % 2 ^ (Reg.trel n.val).width ∧ t.mode = s.mode) ∧
  (∀ (n : Fin 16) (a : Int) (s : State), s.releaseDue n.val = some a → s.openCycle n.val = true → s.upsets = [] →
    (s.inControl = false ∨ s.get (Reg.tstConsec n.val) + 1 < s.get (Reg.tcfgSkiplim n.val)) →
    Next (.release n false) s fun t =>
      t.get (Reg.tskip n.val) = min (s.get (Reg.tskip n.val) + 1) (2 ^ (Reg.tskip n.val).width - 1) ∧
      t.mode = s.mode ∧ (t.task n.val).rel = (s.task n.val).rel ∧ Posts s t 5) ∧
  (∀ (n : Fin 16) (a : Int) (s : State), s.releaseDue n.val = some a → s.openCycle n.val = true → s.inControl = true → s.upsets = [] →
    s.flag (Reg.tcfgSafety n.val) = true → s.get (Reg.tcfgSkiplim n.val) ≤ s.get (Reg.tstConsec n.val) + 1 →
    s.get (Reg.tcfgSkiplim n.val) < 2 ^ (Reg.tstConsec n.val).width →
    Next (.release n false) s fun t =>
      t.get (Reg.tskip n.val) = min (s.get (Reg.tskip n.val) + 1) (2 ^ (Reg.tskip n.val).width - 1) ∧
      Entered t s.mode mSafe 0x16 ∧ t.flag Reg.modeDrive = true) ∧
  (∀ (n : Fin 16) (p d : Nat) (s : State), s.mode ∈ [mPrimary, mSolo] → (s.task n.val).own = true → s.inSnapshot n.val = true →
    s.snapshotFirst n.val = true → s.tstate n.val = tsSnapshot → s.snapList n.val = [(p, d)] → s.upsets = [] →
    s.finalHold = false → s.runningAt (s.place n.val) = none → (s.pair (s.place n.val / 2)).ahead = [] →
    (∀ m ∈ cycleTasks, s.waits m = true → s.place m ≠ s.place n.val) → NoChecks s n.val → s.place n.val ∉ s.xch.keep →
    Next (.snapshotComplete ⟨n.val, by omega⟩ false) s fun t => t.word d = s.word p ∧ KeepWords s t (· = d) ∧
      t.runningAt (s.place n.val) = some n.val ∧ t.tstate n.val = tsLogic ∧ t.mode = s.mode) ∧
  (∀ (n : Fin 16) (s : State), s.mode = mStandby → s.inSnapshot n.val = true → s.tstate n.val = tsSnapshot →
    s.snapHeld n.val = true → s.runningAt (s.place n.val) = none → (s.pair (s.place n.val / 2)).ahead = [] →
    (∀ m ∈ cycleTasks, s.waits m = true → s.place m ≠ s.place n.val) → NoChecks s n.val → s.place n.val ∉ s.xch.keep →
    Next (.snapshotComplete ⟨n.val, by omega⟩ false) s fun t => SameMem s t ∧ t.runningAt (s.place n.val) = some n.val ∧
      t.tstate n.val = tsLogic ∧ t.mode = mStandby) ∧
  (∀ (n : Fin 16) (m : Nat) (s : State), s.mode = mStandby → s.inSnapshot n.val = true → s.tstate n.val = tsSnapshot →
    s.snapHeld n.val = true → s.runningAt (s.place n.val) = some m → s.before n.val m = false →
    Next (.snapshotComplete ⟨n.val, by omega⟩ false) s fun t => t.waits n.val = true ∧ t.tstate n.val = tsWaiting ∧
      t.runningAt (s.place n.val) = some m ∧ SameMem s t ∧ t = { s with csr := t.csr, drv := t.drv })

/-- END_OF_CYCLE of the cyclic task that runs, with both cores of a locked pair alike and drained, no damaged word or
register, its output words readable, no task waiting for the place and nothing to check, before the output instant:
the cycle has ended, its skips in a row are 0, the task awaits its output instant and its pair is free of it.
OUTPUT_INSTANT of a cycle that has ended makes the task idle, notes the instant, and in STANDBY writes the cycle's one
output word to its unforced point. What the spec leaves open here is as log entries 40 and 42 have it. Spec:
05_drover_cycle_scheduling.md (rules 126, 127, 130); 08_lockstep_execution.md (rules 212, 213). -/
def Obligations.EndOfCycleAndOutput : Prop :=
  (∀ (n : Fin 16) (s : State), s.runningAt (s.place n.val) = some n.val → SMap.get [] s.drv.stack (s.place n.val) = [] →
    Sound s → Alike s (s.place n.val) → (∀ e ∈ s.outList n.val, StubMay s (s.place n.val) .read e.2 1) →
    (∀ m ∈ cycleTasks, s.waits m = true → s.place m ≠ s.place n.val) → NoChecks s n.val → s.now < s.outputOf n.val ((s.task n.val).rel.getD 0) →
    Next (.endOfCycle ⟨n.val, by omega⟩ false) s fun t => (t.task n.val).ended = true ∧ t.tstate n.val = tsEnded ∧
      t.get (Reg.tstConsec n.val) = 0 ∧ t.runningAt (s.place n.val) = none) ∧
  (∀ (n : Fin 16) (r : Int) (s : State), s.outputDue n.val = some r → (s.task n.val).rel = some r →
    (s.task n.val).ended = true → (s.task n.val).noPublish = false → (s.task n.val).lateOuts = none →
    Next (.outputInstant n false) s fun t => t.tstate n.val = tsIdle ∧
      (t.task n.val).lastOut = some (s.outputOf n.val r) ∧
      (∀ p w, p < 0xFF00 → (s.task n.val).outs = [(p, w)] → (s.task n.val).own = false → s.mode = mStandby →
        s.urgentHeld p r = false → s.forceOf p = none → s.portHeld = false → t.word p = w))

/-- URGENT_TRIGGER out of STANDBY of an enabled urgent task dispatches it for the trigger's time stamp at its place,
drained, owed no KEEP copy and with nothing to check: a cyclic task there is preempted and its registers saved where
the stub may write them; while an urgent task runs there the trigger is held, and a further one merged into it and
counted, its pair woken; in STANDBY it changes nothing. USOFT_WRITE of one bit dispatches a task with the software
source. URGENT_PENDING_DISPATCH dispatches the pending task that comes first. URGENT_BUDGET_EXPIRY ends the activation
without publishing and records a class-5 event. URGENT_STORE_PUBLISH in STANDBY writes the next accepted store to its
point. WRITE_PORT_QUEUE_APPLY empties the queue and writes no word but the points named in it. What the spec leaves
 open here is as log entries 15, 34 and 41 have it. Spec: 05_drover_cycle_scheduling.md (rules 121, 132, 133, 134, 136,
137); 06_process_image.md (rules 159, 164). -/
def Obligations.UrgentTasks : Prop :=
  (∀ (k : Fin 8) (a : Int) (rec : List TW) (s : State), s.mode ≠ mStandby → s.active = true → s.enabled (k.val + 16) = true →
    s.get (Reg.utrigSrc (k.val + 16)) ≠ 0 → (s.task (k.val + 16)).pend = none → (s.task (k.val + 16)).lastDispatch = none →
    s.runningAt (s.place (k.val + 16)) = none → (s.pair (s.place (k.val + 16) / 2)).ahead = [] → NoChecks s (k.val + 16) →
    s.place (k.val + 16) ∉ s.xch.keep →
    Next (.urgentTrigger k a rec) s fun t => (t.task (k.val + 16)).rel = some a ∧
      (t.task (k.val + 16)).lastDispatch = some s.now ∧ (t.get Reg.drvUrun).testBit k.val = true ∧
      t.runningAt (s.place (k.val + 16)) = some (k.val + 16)) ∧
  (∀ (k : Fin 8) (m : Fin 16) (a : Int) (rec : List TW) (s : State), s.mode ≠ mStandby → s.active = true →
    s.enabled (k.val + 16) = true → s.get (Reg.utrigSrc (k.val + 16)) ≠ 0 → (s.task (k.val + 16)).pend = none →
    (s.task (k.val + 16)).lastDispatch = none → s.runningAt (s.place (k.val + 16)) = some m.val →
    Alike s (s.place (k.val + 16)) → StubMay s (s.place (k.val + 16)) .write (s.saveBase (s.place (k.val + 16))) 73 →
    NoChecks s (k.val + 16) → s.place (k.val + 16) ∉ s.xch.keep →
    Next (.urgentTrigger k a rec) s fun t => (t.task (k.val + 16)).rel = some a ∧
      t.runningAt (s.place (k.val + 16)) = some (k.val + 16) ∧ SMap.get [] t.drv.stack (s.place (k.val + 16)) =
        ⟨m.val, s.core (s.place (k.val + 16) / 2) false, s.core (s.place (k.val + 16) / 2) true⟩ ::
          SMap.get [] s.drv.stack (s.place (k.val + 16))) ∧
  (∀ (k : Fin 8) (a : Int) (rec : List TW) (s : State), s.mode ≠ mStandby → s.active = true → s.enabled (k.val + 16) = true →
    s.get (Reg.utrigSrc (k.val + 16)) ≠ 0 → (s.task (k.val + 16)).pend = none → s.urgentAt (s.place (k.val + 16)) = true →
    Next (.urgentTrigger k a rec) s fun t =>
      (t.task (k.val + 16)).pend = some (a, if s.get (Reg.utrigSrc (k.val + 16)) = 1 then rec else []) ∧
      (t.get Reg.drvUpend).testBit k.val = true ∧ t = { s with csr := t.csr, drv := t.drv, pwr := t.pwr, pairs := t.pairs }) ∧
  (∀ (k : Fin 8) (a : Int) (rec : List TW) (x : Int × List TW) (s : State), s.mode ≠ mStandby → s.active = true →
    s.enabled (k.val + 16) = true → s.get (Reg.utrigSrc (k.val + 16)) ≠ 0 → (s.task (k.val + 16)).pend = some x →
    Next (.urgentTrigger k a rec) s fun t => Counts s t (Reg.tstMerge (k.val + 16)) ∧
      (t.task (k.val + 16)).pend = some x ∧ t = { s with csr := t.csr, pwr := t.pwr, pairs := t.pairs } ∧
      (s.get (Reg.sleepState (s.pairOf (k.val + 16))) = slRun → KeepRegs s t [Reg.tstMerge (k.val + 16)]) ∧
      (s.pairOf (k.val + 16) < 12 → t.get (Reg.sleepState (s.pairOf (k.val + 16))) = slRun)) ∧
  (∀ (k : Fin 8) (a : Int) (rec : List TW) (s : State), s.mode = mStandby → Next (.urgentTrigger k a rec) s fun t => t = s) ∧
  (∀ (b : Fin 8) (s : State), s.runtime = true → s.mode ≠ mStandby → s.active = true → s.enabled (16 + b.val) = true →
    s.get (Reg.utrigSrc (16 + b.val)) = 2 → (s.task (16 + b.val)).pend = none → (s.task (16 + b.val)).lastDispatch = none →
    s.runningAt (s.place (16 + b.val)) = none → (s.pair (s.place (16 + b.val) / 2)).ahead = [] →
    NoChecks s (16 + b.val) → s.place (16 + b.val) ∉ s.xch.keep →
    Next (.usoftWrite (BitVec.ofNat 32 (2 ^ b.val))) s fun t => (t.task (16 + b.val)).rel = some s.now ∧
      (t.get Reg.drvUrun).testBit b.val = true) ∧
  (∀ (pair : Fin 12) (n p : Nat) (a : Int) (rec : List TW) (s : State), s.active = true → p ∈ s.placesOf pair.val →
    (∀ q ∈ s.placesOf pair.val, s.runningAt q = none) → (s.pair pair.val).ahead = [] →
    s.nextUrgent p = some n → (s.task n).pend = some (a, rec) → (∀ m ∈ urgentTasks, NoChecks s m) → p ∉ s.xch.keep →
    Next (.urgentPendingDispatch pair) s fun t => (t.task n).rel = some a ∧ (t.task n).pend = none ∧
      (t.task n).lastDispatch = some s.now ∧ t.runningAt p = some n) ∧
  (∀ (k : Fin 8) (a : Int) (s : State), (s.task (k.val + 16)).startAt = some a →
    s.runningAt (s.place (k.val + 16)) = some (k.val + 16) → s.budgetUnits (k.val + 16) + 2000000 < (s.now - a) * 10000 →
    SMap.get [] s.drv.stack (s.place (k.val + 16)) = [] → Sound s → s.flag (Reg.tcfgSafety (k.val + 16)) = false →
    Alike s (s.place (k.val + 16)) → (∀ e ∈ s.outList (k.val + 16), StubMay s (s.place (k.val + 16)) .read e.2 1) →
    (∀ m ∈ cycleTasks, s.waits m = true → s.place m ≠ s.place (k.val + 16)) →
    Next (.urgentBudgetExpiry k) s fun t => (t.task (k.val + 16)).ended = true ∧ (t.task (k.val + 16)).noPublish = true ∧
      t.runningAt (s.place (k.val + 16)) = none ∧ Posts s t 5) ∧
  (∀ (k : Fin 8) (p a : Nat) (w : TW) (l : List (Nat × TW)) (s : State), s.runningAt (s.place (k.val + 16)) = some (k.val + 16) →
    s.mode = mStandby → (s.task (k.val + 16)).stores.drop (s.task (k.val + 16)).published = (a, w) :: l →
    (s.outList (k.val + 16)).filter (fun e => e.2 == a) = [(p, a)] → s.forceOf p = none → s.portHeld = false →
    Next (.urgentStorePublish k) s fun t => t.word p = w ∧ KeepWords s t (· = p) ∧
      (t.task (k.val + 16)).published = (s.task (k.val + 16)).published + 1) ∧
  (∀ s : State, s.link.goAt = none → State.portHeld { s with pimg := { s.pimg with queue := [] } } = false →
    Next .writePortQueueApply s fun t => t.pimg.queue = [] ∧ KeepWords s t (fun a => a ∈ s.pimg.queue.map (·.point)) ∧
      (∀ x, s.pimg.queue = [x] → s.forceOf x.point = none → t.word x.point = x.word) ∧
      t = { s with csr := t.csr, mem := t.mem, upsets := t.upsets, pimg := t.pimg, link := t.link })

/-- DOZE_ENTRY of a cluster whose pairs all wait with DOZE selected, with DOZE enabled, no urgent task on it, no release
on it within MINIDLE and no canary reading owed, puts every pair of it in DOZE and keeps its rail to be restored.
DOZE_LEAD once the next release is at most LEAD away, and DOZE_REFRESH after 100 ms, restore rail and bias and record
the wake with its source and cluster; after DOZE_REFRESH the cluster owes a canary reading. Memory and the cores stay
as they were. The rail in DOZE itself is the model's choice (log 37). Spec: 05_drover_cycle_scheduling.md (rules 139,
140, 141); 19_power_states_and_life_cycle.md (rules 455, 456, 459, 460, 461). -/
def Obligations.Doze : Prop :=
  (∀ (c : Fin 3) (s : State), (∀ u ∈ clusterPairs c.val, s.get (Reg.sleepState u) = slWaitDoze) → s.flag Reg.dozeEn = true →
    (∀ a, s.nextReleaseIn c.val = some a → (s.get Reg.dozeMinidle : Int) * 1000 < a) →
    (∀ n ∈ urgentTasks, s.enabled n = true → s.pairOf n ∉ clusterPairs c.val) → c.val ∉ s.pwr.owed →
    Next (.dozeEntry c) s fun t => (∀ u ∈ clusterPairs c.val, t.get (Reg.sleepState u) = slDoze) ∧
      SMap.find t.pwr.dozeAt c.val = some s.now ∧
      SMap.find t.pwr.dozeRail c.val = some (s.get (Reg.vltVolt c.val), s.get (Reg.vltBias c.val)) ∧
      t = { s with csr := t.csr, pwr := t.pwr } ∧
      KeepRegs s t ([Reg.vltVolt c.val, Reg.vltBias c.val, Reg.spdAtmax c.val] ++ (clusterPairs c.val).map Reg.sleepState)) ∧
  (∀ (c : Fin 3) (a b : Int) (v x : Nat) (s : State), SMap.find s.pwr.dozeAt c.val = some a →
    SMap.find s.pwr.dozeRail c.val = some (v, x) → s.nextReleaseIn c.val = some b → b ≤ (s.get Reg.dozeLead : Int) * 1000 →
    Next (.dozeLead c) s fun t => t.get Reg.wakeSrc = 3 ∧ t.get Reg.wakeUnit = 12 + c.val ∧
      t.get (Reg.vltVolt c.val) = v % 2 ^ 10 ∧ t.get (Reg.vltBias c.val) = x % 2 ^ 2 ∧
      SMap.find t.pwr.dozeAt c.val = none ∧ t = { s with csr := t.csr, pwr := t.pwr }) ∧
  (∀ (c : Fin 3) (a : Int) (v x : Nat) (s : State), SMap.find s.pwr.dozeAt c.val = some a →
    SMap.find s.pwr.dozeRail c.val = some (v, x) → a + 100000000 ≤ s.now →
    Next (.dozeRefresh c) s fun t => t.get Reg.wakeSrc = 4 ∧ t.get Reg.wakeUnit = 12 + c.val ∧ c.val ∈ t.pwr.owed ∧
      t.get (Reg.vltVolt c.val) = v % 2 ^ 10 ∧ t.get (Reg.vltBias c.val) = x % 2 ^ 2 ∧
      SMap.find t.pwr.dozeAt c.val = none ∧ t = { s with csr := t.csr, pwr := t.pwr })

/-- On operands of one integer type and with legal mod bits, ADD, SUB, MUL, DIV, REM, NEG and ABS give the exact result,
wrapped or saturated with Limit; DIV rounds toward zero and REM takes the sign of the dividend; a zero divisor under
policy VALUE gives 0, BAD, with Limit. MULH gives the high 64 bits of the product. CLAMP gives the nearest value
within the bounds of its PAIR32 operand, with Limit where it differs. Every result has the lowest quality of its
operands and the OR of their flags. Nothing changes but rd and the instruction address of the leading core; on a
locked unit the instruction joins those that core 1 has still to retire. Spec: 03_tagged_word_and_instruction_set.md
(rules 58, 66, 67, 75, 76, 507). -/
def Obligations.IntegerArithmetic : Prop :=
  (∀ (c : CoreId) (rd rs1 : GReg) (b : Src2) (s : State), Ready c s → b.legal false = true →
    ((s.coreAt c).reg rs1).ty ≤ 1 → ((s.coreAt c).src2 b ((s.coreAt c).reg rs1).ty).ty = ((s.coreAt c).reg rs1).ty →
    let x := (s.coreAt c).reg rs1
    let y := (s.coreAt c).src2 b x.ty
    let p := intOf x.ty x.val
    let q := intOf x.ty y.val
    Gives (.add c rd rs1 b) c s rd (IntIs x.ty b.wrap [x, y] (p + q)) ∧
    Gives (.sub c rd rs1 b) c s rd (IntIs x.ty b.wrap [x, y] (p - q)) ∧
    Gives (.mul c rd rs1 b) c s rd (IntIs x.ty b.wrap [x, y] (p * q)) ∧
    Gives (.mulh c rd rs1 b) c s rd (fun w => w.val = BitVec.ofInt 64 (p * q / 2 ^ 64) ∧ TagOf [x, y] x.ty 3 false w)) ∧
  (∀ (c : CoreId) (rd rs1 : GReg) (b : Src2) (v r : Int) (s : State), Ready c s → b.legal false = true →
    ((s.coreAt c).reg rs1).ty ≤ 1 → ((s.coreAt c).src2 b ((s.coreAt c).reg rs1).ty).ty = ((s.coreAt c).reg rs1).ty →
    let x := (s.coreAt c).reg rs1
    let y := (s.coreAt c).src2 b x.ty
    (y.val ≠ 0#64 → intOf x.ty x.val = v * intOf x.ty y.val + r → r.natAbs < (intOf x.ty y.val).natAbs →
      (r ≠ 0 → (r < 0 ↔ intOf x.ty x.val < 0)) →
      Gives (.div c rd rs1 b) c s rd (IntIs x.ty b.wrap [x, y] v) ∧ Gives (.rem c rd rs1 b) c s rd (IntIs x.ty b.wrap [x, y] r)) ∧
    (y.val = 0#64 → (s.coreAt c).divpol = false →
      Gives (.div c rd rs1 b) c s rd (fun w => w.val = 0#64 ∧ TagOf [x, y] x.ty 0 true w) ∧
      Gives (.rem c rd rs1 b) c s rd (fun w => w.val = 0#64 ∧ TagOf [x, y] x.ty 0 true w))) ∧
  (∀ (c : CoreId) (rd rs1 : GReg) (m : BitVec 6) (s : State), Ready c s → modOk false m = true →
    ((s.coreAt c).reg rs1).ty ≤ 1 →
    let x := (s.coreAt c).reg rs1
    Gives (.neg c rd rs1 m) c s rd (IntIs x.ty (m.getLsbD 2) [x] (-intOf x.ty x.val)) ∧
    Gives (.abs c rd rs1 m) c s rd (IntIs x.ty (m.getLsbD 2) [x] (intOf x.ty x.val).natAbs)) ∧
  (∀ (c : CoreId) (rd rs1 rs2 : GReg) (m : BitVec 6) (s : State), Ready c s → modOk false m = true →
    ((s.coreAt c).reg rs1).ty ≤ 1 → ((s.coreAt c).reg rs2).ty = tyPair →
    let x := (s.coreAt c).reg rs1
    let y := (s.coreAt c).reg rs2
    let p := intOf x.ty x.val
    let v := if p < laneLo y.val then laneLo y.val else if laneHi y.val < p then laneHi y.val else p
    Gives (.clamp c rd rs1 rs2 m) c s rd (fun w => intOf x.ty w.val = max (lowest x.ty) (min v (highest x.ty)) ∧
      TagOf [x, y] x.ty 3 (w.val != x.val) w))

/-- On FLOAT64 operands and with legal mod bits, FADD, FSUB, FMUL, FDIV, FMA (with the prior content of rd as addend) and
FSQRT give the result rounded by RND, and the exceptional results of R78; a NaN operand gives the canonical NaN, BAD,
with Limit. A zero divisor is treated under policy VALUE here. FABS and FNEG pass any bit pattern with the sign
cleared or inverted. FCLAMP gives its operand or the bound that it passes. Nothing changes but rd and the instruction
address of the leading core; on a locked unit the instruction joins those that core 1 has still to retire. Spec:
03_tagged_word_and_instruction_set.md (rules 58, 65, 67, 76, 77, 78, 507). -/
def Obligations.FloatArithmetic : Prop :=
  (∀ (c : CoreId) (rd rs1 : GReg) (b : Src2) (s : State), Ready c s → b.legal true = true →
    ((s.coreAt c).reg rs1).ty = tyFloat → ((s.coreAt c).src2 b tyFloat).ty = tyFloat →
    let x := (s.coreAt c).reg rs1
    let y := (s.coreAt c).src2 b tyFloat
    let p := FNum.ofBits x.val
    let q := FNum.ofBits y.val
    let nan := isNaN x || isNaN y
    Gives (.fadd c rd rs1 b) c s rd (FloatIs [x, y] (if nan then .invalid else fAdd b.rnd p q)) ∧
    Gives (.fsub c rd rs1 b) c s rd (FloatIs [x, y] (if nan then .invalid else fAdd b.rnd p q.neg)) ∧
    Gives (.fmul c rd rs1 b) c s rd (FloatIs [x, y] (if nan then .invalid else fMul b.rnd p q)) ∧
    (fDiv b.rnd p q ≠ .divZero ∨ (s.coreAt c).divpol = false →
      Gives (.fdiv c rd rs1 b) c s rd (FloatIs [x, y] (if nan then .invalid else fDiv b.rnd p q)))) ∧
  (∀ (c : CoreId) (rd rs1 rs2 : GReg) (m : BitVec 6) (s : State), Ready c s → modOk true m = true →
    ((s.coreAt c).reg rs1).ty = tyFloat →
    let x := (s.coreAt c).reg rs1
    let y := (s.coreAt c).reg rs2
    let z := (s.coreAt c).reg rd
    let r := Rnd.ofBits (m.extractLsb' 0 2)
    (y.ty = tyFloat → z.ty = tyFloat → Gives (.fma c rd rs1 rs2 m) c s rd (FloatIs [x, y, z]
      (if isNaN x || isNaN y || isNaN z then .invalid else fFma r (.ofBits x.val) (.ofBits y.val) (.ofBits z.val)))) ∧
    Gives (.fsqrt c rd rs1 m) c s rd (FloatIs [x] (if isNaN x then .invalid else fSqrt r (.ofBits x.val))) ∧
    Gives (.fabs c rd rs1 m) c s rd (fun w => TagOf [x] tyFloat 3 false w ∧
      ∀ k < 64, w.val.getLsbD k = (x.val.getLsbD k && k != 63)) ∧
    Gives (.fneg c rd rs1 m) c s rd (fun w => TagOf [x] tyFloat 3 false w ∧
      ∀ k < 64, w.val.getLsbD k = (x.val.getLsbD k != (k == 63)))) ∧
  (∀ (c : CoreId) (rd rs1 rs2 : GReg) (m : BitVec 6) (s : State), Ready c s → modOk true m = true →
    rs2.val ≠ 63 → ((s.coreAt c).reg rs1).ty = tyFloat → ((s.coreAt c).reg rs2).ty = tyFloat →
    ((s.coreAt c).reg (rs2 + 1)).ty = tyFloat →
    let x := (s.coreAt c).reg rs1
    let lo := (s.coreAt c).reg rs2
    let hi := (s.coreAt c).reg (rs2 + 1)
    let r := if (FNum.ofBits x.val).lt (.ofBits lo.val) then lo.val
      else if (FNum.ofBits hi.val).lt (.ofBits x.val) then hi.val else x.val
    Gives (.fclamp c rd rs1 rs2 m) c s rd (fun w =>
      if isNaN x || isNaN lo || isNaN hi then w.val = 0x7FF8000000000000#64 ∧ TagOf [x, lo, hi] tyFloat 0 true w
      else if FNum.ofBits r = .inf r.msb then w.val = f64MaxFin r.msb ∧ TagOf [x, lo, hi] tyFloat 1 true w
      else w.val = r ∧ TagOf [x, lo, hi] tyFloat 3 (r != x.val) w))

/-- TADD and TSUB of a TIME and an INT64 give a TIME, TSUB of two TIMEs an INT64, saturating whatever the WRAP bit holds.
TREL gives the release instant word of the task that runs on the core. PADD, PSUB and PMUL compute the two signed
32-bit lanes apart, each wrapped or saturated; Limit where one saturates. PHI and PLO give a lane as INT64, PPACK
packs two INT64 operands; which of the two is the high lane the spec leaves open, and so does this statement. Nothing
else changes. Spec: R82. -/
def Obligations.TimeAndPairs : Prop :=
  (∀ (c : CoreId) (rd rs1 : GReg) (b : Src2) (s : State), Ready c s → b.legal false = true →
    ((s.coreAt c).reg rs1).ty = tyTime →
    let x := (s.coreAt c).reg rs1
    let y := (s.coreAt c).src2 b tyInt
    (y.ty = tyInt → Gives (.tadd c rd rs1 b) c s rd (IntIs tyTime false [x, y] (x.val.toInt + y.val.toInt)) ∧
      Gives (.tsub c rd rs1 b) c s rd (IntIs tyTime false [x, y] (x.val.toInt - y.val.toInt))) ∧
    (y.ty = tyTime → Gives (.tsub c rd rs1 b) c s rd (IntIs tyInt false [x, y] (x.val.toInt - y.val.toInt)))) ∧
  (∀ (c : CoreId) (rd : GReg) (n : Nat) (s : State), Ready c s → s.runningAt (coreKey c.unit (s.lead c)) = some n →
    Gives (.trel c rd) c s rd (· = (s.task n).relWord) true) ∧
  (∀ (c : CoreId) (rd rs1 rs2 : GReg) (m : BitVec 6) (s : State), Ready c s → modOk false m = true →
    ((s.coreAt c).reg rs1).ty = tyPair →
    let x := (s.coreAt c).reg rs1
    let y := (s.coreAt c).reg rs2
    let wr := m.getLsbD 2
    (y.ty = tyPair →
      (∀ e ∈ [(Instr.padd c rd rs1 rs2 m, laneHi x.val + laneHi y.val, laneLo x.val + laneLo y.val),
          (.psub c rd rs1 rs2 m, laneHi x.val - laneHi y.val, laneLo x.val - laneLo y.val),
          (.pmul c rd rs1 rs2 m, laneHi x.val * laneHi y.val, laneLo x.val * laneLo y.val)],
        Gives e.1 c s rd (fun w => LaneIs wr e.2.1 (w.val.extractLsb' 32 32) ∧ LaneIs wr e.2.2 (w.val.extractLsb' 0 32) ∧
          TagOf [x, y] tyPair 3 (laneMoves wr e.2.1 || laneMoves wr e.2.2) w))) ∧
    Gives (.phi c rd rs1 m) c s rd (fun w => w.val.toInt = laneHi x.val ∧ TagOf [x] tyInt 3 false w) ∧
    Gives (.plo c rd rs1 m) c s rd (fun w => w.val.toInt = laneLo x.val ∧ TagOf [x] tyInt 3 false w)) ∧
  (∀ (c : CoreId) (rd rs1 rs2 : GReg) (m : BitVec 6) (s : State), Ready c s → modOk false m = true →
    ((s.coreAt c).reg rs1).ty = tyInt → ((s.coreAt c).reg rs2).ty = tyInt →
    let x := (s.coreAt c).reg rs1
    let y := (s.coreAt c).reg rs2
    let wr := m.getLsbD 2
    Gives (.ppack c rd rs1 rs2 m) c s rd (fun w =>
      ((LaneIs wr x.val.toInt (w.val.extractLsb' 32 32) ∧ LaneIs wr y.val.toInt (w.val.extractLsb' 0 32)) ∨
        (LaneIs wr y.val.toInt (w.val.extractLsb' 32 32) ∧ LaneIs wr x.val.toInt (w.val.extractLsb' 0 32))) ∧
      TagOf [x, y] tyPair 3 (laneMoves wr x.val.toInt || laneMoves wr y.val.toInt) w))

/-- On BITS64 operands (the second also INT64 for a count or description), AND, OR, XOR, NOT, SHL, SHR, SAR, ROT, EXT and
INS give each bit of their result as the spec defines them, for every count, the counts of 64 and more and the fields
that pass bit 63 included; INS takes its background from rd as a third operand. The result is BITS64 with the default
tag. Nothing changes but rd and the instruction address of the leading core; on a locked unit the instruction joins
those that core 1 has still to retire. Spec: 03_tagged_word_and_instruction_set.md (rules 58, 66, 67, 509). -/
def Obligations.LogicAndShift : Prop :=
  (∀ (c : CoreId) (rd rs1 : GReg) (b : Src2) (s : State), Ready c s → b.legal false = true →
    ((s.coreAt c).reg rs1).ty = tyBits → ((s.coreAt c).src2 b tyBits).ty = tyBits →
    let x := (s.coreAt c).reg rs1
    let y := (s.coreAt c).src2 b tyBits
    ∀ e ∈ [(Instr.and c rd rs1 b, fun p q => p && q), (.or c rd rs1 b, fun p q => p || q), (.xor c rd rs1 b, fun p q => p != q)],
      Gives e.1 c s rd (fun w => (∀ k < 64, w.val.getLsbD k = e.2 (x.val.getLsbD k) (y.val.getLsbD k)) ∧ TagOf [x, y] tyBits 3 false w)) ∧
  (∀ (c : CoreId) (rd rs1 : GReg) (m : BitVec 6) (s : State), Ready c s → modOk false m = true →
    ((s.coreAt c).reg rs1).ty = tyBits →
    let x := (s.coreAt c).reg rs1
    Gives (.not c rd rs1 m) c s rd (fun w => (∀ k < 64, w.val.getLsbD k = !x.val.getLsbD k) ∧ TagOf [x] tyBits 3 false w)) ∧
  (∀ (c : CoreId) (rd rs1 : GReg) (b : Src2) (s : State), Ready c s → b.legal false = true →
    ((s.coreAt c).reg rs1).ty = tyBits → ((s.coreAt c).src2 b tyBits).ty ∈ [tyBits, tyInt] →
    let x := (s.coreAt c).reg rs1
    let y := (s.coreAt c).src2 b tyBits
    let z := (s.coreAt c).reg rd
    let n := y.val.toNat
    let p := n % 64
    let l := n / 64 % 64 + 1
    (∀ e ∈ [(Instr.shl c rd rs1 b, fun k => decide (n ≤ k) && x.val.getLsbD (k - n)), (.shr c rd rs1 b, fun k => x.val.getLsbD (k + n)),
        (.sar c rd rs1 b, fun k => if k + n < 64 then x.val.getLsbD (k + n) else x.val.getLsbD 63),
        (.rot c rd rs1 b, fun k => x.val.getLsbD ((k + 64 - n % 64) % 64)),
        (.ext c rd rs1 b, fun k => decide (k < l) && x.val.getLsbD (p + k))],
      Gives e.1 c s rd (fun w => (∀ k < 64, w.val.getLsbD k = e.2 k) ∧ TagOf [x, y] tyBits 3 false w)) ∧
    (z.ty = tyBits → Gives (.ins c rd rs1 b) c s rd (fun w => TagOf [x, y, z] tyBits 3 false w ∧
      ∀ k < 64, w.val.getLsbD k = if p ≤ k ∧ k < p + l then x.val.getLsbD (k - p) else z.val.getLsbD k)))

/-- CEQ and CNE of two words of one type (enumerations with one identifier), CLT and CLE of two words of one ordered type,
and CUN of two FLOAT64 words give BITS64 1 or 0 with the default tag; with a NaN, CEQ, CLT and CLE give 0, CNE and CUN
1, with quality BAD. SEL gives the first source where the BITS64 condition in rd is not 0, else the second, and only
the condition and the selected word contribute. MIN and MAX give the lesser or greater of two words of one ordered
type, the sign deciding between two zeros; with a NaN the canonical NaN, BAD, with Limit. Spec:
03_tagged_word_and_instruction_set.md (rules 55, 66, 67, 78, 79, 508). -/
def Obligations.CompareAndSelect : Prop :=
  (∀ (c : CoreId) (rd rs1 : GReg) (b : Src2) (s : State), Ready c s → b.legal false = true →
    ((s.coreAt c).reg rs1).ty < 8 → ((s.coreAt c).src2 b ((s.coreAt c).reg rs1).ty).ty = ((s.coreAt c).reg rs1).ty →
    let x := (s.coreAt c).reg rs1
    let y := (s.coreAt c).src2 b x.ty
    let fl := decide (x.ty = tyFloat)
    let nan := fl && (isNaN x || isNaN y)
    let eq := if fl then (FNum.ofBits x.val).eq (.ofBits y.val) else decide (x.val = y.val)
    let lt := if fl then (FNum.ofBits x.val).lt (.ofBits y.val) else decide (intOf x.ty x.val < intOf x.ty y.val)
    let gt := if fl then (FNum.ofBits y.val).lt (.ofBits x.val) else decide (intOf x.ty y.val < intOf x.ty x.val)
    let bit := fun (i : Instr) (r : Bool) => Gives i c s rd (fun w => w.val = (if r then 1#64 else 0#64) ∧
      TagOf [x, y] tyBits (if nan then 0 else 3) false w)
    let least := fun (i : Instr) (r other : Bool) (small : Bool) => Gives i c s rd (fun w =>
      if nan then w.val = 0x7FF8000000000000#64 ∧ TagOf [x, y] tyFloat 0 true w
      else TagOf [x, y] x.ty 3 false w ∧ (r = true → w.val = x.val) ∧ (other = true → w.val = y.val) ∧
        (r = false → other = false → x.val = y.val → w.val = x.val) ∧
        (r = false → other = false → x.val ≠ y.val → w.val = if small then 0x8000000000000000#64 else 0#64))
    ((x.ty = tyEnum → x.val.extractLsb' 32 16 = y.val.extractLsb' 32 16) →
      bit (.ceq c rd rs1 b) (!nan && eq) ∧ bit (.cne c rd rs1 b) (nan || !eq)) ∧
    (x.ty ≤ tyTime → bit (.clt c rd rs1 b) (!nan && lt) ∧ bit (.cle c rd rs1 b) (!nan && !gt) ∧
      least (.min c rd rs1 b) lt gt true ∧ least (.max c rd rs1 b) gt lt false) ∧
    (x.ty = tyFloat → bit (.cun c rd rs1 b) nan)) ∧
  (∀ (c : CoreId) (rd rs1 rs2 : GReg) (m : BitVec 6) (s : State), Ready c s → modOk false m = true →
    ((s.coreAt c).reg rs1).ty < 8 → ((s.coreAt c).reg rs2).ty < 8 → ((s.coreAt c).reg rd).ty = tyBits →
    let z := (s.coreAt c).reg rd
    let x := if z.val = 0#64 then (s.coreAt c).reg rs2 else (s.coreAt c).reg rs1
    Gives (.sel c rd rs1 rs2 m) c s rd (fun w => w.val = x.val ∧ TagOf [z, x] x.ty 3 false w))

/-- TGET gives the tag byte as INT64, GOOD, with Forced of its source. TSET replaces the selected fields of the tag and
never clears Forced. TCPY keeps value and type of the first source and takes quality and Limit of the second and
Forced of either. QMIN lifts the lower quality of its sources to the floor unless it is BAD. RETYPE changes the type
alone, from any type. None of them changes a value. Spec: R70; R72. -/
def Obligations.TagInstructions : Prop :=
  (∀ (c : CoreId) (rd rs1 : GReg) (s : State), Ready c s →
    Gives (.tget c rd rs1) c s rd (fun w => w.val.toNat = ((s.coreAt c).reg rs1).tag.toNat ∧ w.q = 3 ∧ w.ty = tyInt ∧
      w.limit = false ∧ w.forced = ((s.coreAt c).reg rs1).forced)) ∧
  (∀ (c : CoreId) (rd rs1 : GReg) (tag8 : BitVec 8) (mask : BitVec 4) (s : State), Ready c s → tag8.toNat % 16 < 8 →
    let x := (s.coreAt c).reg rs1
    (x.ty < 8 ∨ mask.getLsbD 0 = true) →
    Gives (.tset c rd rs1 tag8 mask) c s rd (fun w => w.val = x.val ∧
      w.q = (if mask.getLsbD 3 then tag8.toNat / 64 else x.q) ∧ w.forced = (x.forced || mask.getLsbD 2 && tag8.getLsbD 5) ∧
      w.limit = (if mask.getLsbD 1 then tag8.getLsbD 4 else x.limit) ∧
      w.ty = if mask.getLsbD 0 then tag8.toNat % 16 else x.ty)) ∧
  (∀ (c : CoreId) (rd rs1 rs2 : GReg) (m : BitVec 6) (s : State), Ready c s →
    ((s.coreAt c).reg rs1).ty < 8 → ((s.coreAt c).reg rs2).ty < 8 →
    let x := (s.coreAt c).reg rs1
    let y := (s.coreAt c).reg rs2
    (modOk false m = true → Gives (.tcpy c rd rs1 rs2 m) c s rd (fun w => w.val = x.val ∧ w.ty = x.ty ∧ w.q = y.q ∧
      w.limit = y.limit ∧ w.forced = (x.forced || y.forced))) ∧
    (m.toNat < 4 → Gives (.qmin c rd rs1 rs2 m) c s rd (fun w => w.val = x.val ∧ w.ty = x.ty ∧
      w.limit = (x.limit || y.limit) ∧ w.forced = (x.forced || y.forced) ∧
      w.q = if x.q = 0 ∨ y.q = 0 then 0 else max m.toNat (min x.q y.q)))) ∧
  (∀ (c : CoreId) (rd rs1 : GReg) (rs2f m : BitVec 6) (s : State), Ready c s → modOk false m = true → rs2f.toNat < 8 →
    let x := (s.coreAt c).reg rs1
    Gives (.retype c rd rs1 rs2f m) c s rd (fun w => w.val = x.val ∧ w.ty = rs2f.toNat ∧ w.q = x.q ∧ w.limit = x.limit ∧
      w.forced = x.forced))

/-- CVTIF rounds an INT64 to FLOAT64 by RND. CVTFI rounds a finite FLOAT64 by RND to an INT64, saturating with Limit; an
infinity gives the bound of its sign with Limit and a NaN 0, BAD, with Limit. CVTIU and CVTUI saturate with Limit.
LIMM loads a sign-extended immediate with tag GOOD INT64; LSHI shifts rd left by 24 bits, puts its immediate below and
keeps the tag. Nothing changes but rd and the instruction address of the leading core; on a locked unit the
instruction joins those that core 1 has still to retire. Spec: 03_tagged_word_and_instruction_set.md (rules 64, 66,
77, 79). -/
def Obligations.Conversions : Prop :=
  (∀ (c : CoreId) (rd rs1 : GReg) (m : BitVec 6) (s : State), Ready c s → modOk true m = true →
    let x := (s.coreAt c).reg rs1
    let r := Rnd.ofBits (m.extractLsb' 0 2)
    (x.ty = tyInt → Gives (.cvtif c rd rs1 m) c s rd (fun w => w.val = intToF64 r x.val.toInt ∧ TagOf [x] tyFloat 3 false w)) ∧
    (x.ty = tyFloat →
      (∀ g n e, FNum.ofBits x.val = .fin g n e → Gives (.cvtfi c rd rs1 m) c s rd (IntIs tyInt false [x] (f64ToInt r g n e))) ∧
      (∀ g, FNum.ofBits x.val = .inf g → Gives (.cvtfi c rd rs1 m) c s rd (fun w =>
        w.val.toInt = (if g then -(2 ^ 63) else 2 ^ 63 - 1) ∧ TagOf [x] tyInt 3 true w)) ∧
      (isNaN x = true → Gives (.cvtfi c rd rs1 m) c s rd (fun w => w.val = 0#64 ∧ TagOf [x] tyInt 0 true w)))) ∧
  (∀ (c : CoreId) (rd rs1 : GReg) (m : BitVec 6) (s : State), Ready c s → modOk false m = true →
    let x := (s.coreAt c).reg rs1
    (x.ty = tyInt → Gives (.cvtiu c rd rs1 m) c s rd (IntIs tyUint false [x] x.val.toInt)) ∧
    (x.ty = tyUint → Gives (.cvtui c rd rs1 m) c s rd (IntIs tyInt false [x] x.val.toNat))) ∧
  (∀ (c : CoreId) (rd : GReg) (i : BitVec 24) (s : State), Ready c s →
    let z := (s.coreAt c).reg rd
    Gives (.limm c rd i) c s rd (fun w => w.val.toInt = i.toInt ∧ TagOf [] tyInt 3 false w) ∧
    (z.ty < 8 → Gives (.lshi c rd i) c s rd (fun w => w.tag = z.tag ∧
      ∀ k < 64, w.val.getLsbD k = if k < 24 then i.getLsbD k else z.val.getLsbD (k - 24))))

/-- LD and LDX of an undamaged word that the MPU permits give the word with its tag; on a locked unit, the word that it
still holds for that address, where it holds one. ST and STX that the MPU permits: a core of a split pair writes the
word with its tag at the computed address, no other word of memory, no register of a core, and goes to the next
instruction, and a store of a task's own stream joins its store list; a locked unit goes on with the store held back,
and memory as it is. The address of LD and ST is the low half of the base plus the sign-extended immediate, modulo
2^32; LDX and STX take base word plus index of a REF, within its extent. An LD of a CSR, and CSRR in privileged code,
give the register as GOOD INT64 on a unit that holds back no write to a CSR; CSRW has the effect of the register's own
write rule, at once on a split pair, of which the write of SLEEP.MODE by its pair is stated, and held back on a locked
unit. That a held write takes effect when core 1 has presented the same token, LockstepCommands states. What the spec
leaves open here is as log entries 36, 38 and 39 have it. Spec: 00_scope.md (rule 8);
03_tagged_word_and_instruction_set.md (rules 64, 69, 511); 04_cores_clusters_and_memory.md (rules 101, 102, 104, 106);
08_lockstep_execution.md (rules 204, 208); 16_memory_protection.md (rules 409, 415); 05_drover_cycle_scheduling.md
(rule 125). -/
def Obligations.LoadsAndStores : Prop :=
  (∀ (c : CoreId) (rd g x : GReg) (i : BitVec 18) (s : State), Ready c s →
    let k := s.coreAt c
    let a := ((k.reg g).val.toNat % 2 ^ 32 + (i.toInt % 2 ^ 32).toNat) % 2 ^ 32
    let r := (k.reg g).val.toNat % 2 ^ 32 + (k.reg x).val.toNat
    let here := fun b => (if s.isSplit c.unit then none else s.heldStore c.unit b).getD (s.word b)
    ((s.mpuCheck (k.access c (s.lead c) .read a)).1 = true → areaOf a ≠ .csr → SMap.find s.upsets a = none →
      Gives (.ld c rd g i 0#80) c s rd (· = here a) true) ∧
    ((s.mpuCheck (k.access c (s.lead c) .read a)).1 = true → areaOf a = .csr → canWindow a = none → a ≠ 0xF0060001 →
      NoHeldCsr s c.unit →
      Gives (.ld c rd g i 0#80) c s rd (fun w => w.val.toNat = s.csrValue a % 2 ^ 64 ∧ TagOf [] tyInt 3 false w) true) ∧
    ((k.reg g).ty = tyRef → (k.reg x).ty = tyInt → (k.reg x).val.toNat < (k.reg g).val.toNat / 2 ^ 32 →
      (s.mpuCheck (k.access c (s.lead c) .read r)).1 = true → areaOf r ≠ .csr → SMap.find s.upsets r = none →
      Gives (.ldx c rd g x 0#80) c s rd (· = here r) true)) ∧
  (∀ (c : CoreId) (rs g x : GReg) (i : BitVec 18) (s : State), Ready c s →
    let k := s.coreAt c
    let a := ((k.reg g).val.toNat % 2 ^ 32 + (i.toInt % 2 ^ 32).toNat) % 2 ^ 32
    let r := (k.reg g).val.toNat % 2 ^ 32 + (k.reg x).val.toNat
    ∀ e ∈ [(Instr.st c rs g i, a, true), (.stx c rs g x, r, decide ((k.reg g).ty = tyRef ∧ (k.reg x).ty = tyInt ∧
        (k.reg x).val.toNat < (k.reg g).val.toNat / 2 ^ 32))], e.2.2 = true →
      (s.mpuCheck (k.access c (s.lead c) .write e.2.1)).1 = true → areaOf e.2.1 ≠ .csr →
      (s.isSplit c.unit = false → Next e.1 s fun t =>
        Retires e.1 c s t (some zeroWord) (some (e.2.1, k.reg rs)) (fun y => { y with iaddr := nextAddr y.iaddr })) ∧
      (s.isSplit c.unit = true → Next e.1 s fun t => t.word e.2.1 = k.reg rs ∧ KeepWords s t (· = e.2.1) ∧
        KeepRegs s t [Reg.xchDirtys, Reg.xchDirtyr, Reg.syncDs, Reg.syncDr] ∧
        t.cores = (s.onCrew c fun _ y => { y with iaddr := nextAddr y.iaddr }).cores ∧
        (∀ n, k.priv = false → s.runningAt (coreKey c.unit (s.lead c)) = some n →
          (t.task n).stores = (s.task n).stores ++ [(e.2.1, k.reg rs)]) ∧
        t = { s with csr := t.csr, mem := t.mem, upsets := t.upsets, cores := t.cores, pairs := (s.noteStep c k).pairs,
                     drv := t.drv, xch := t.xch, link := t.link })) ∧
  (∀ (c : CoreId) (rd rs : GReg) (a : BitVec 32) (s : State), Ready c s → (s.coreAt c).priv = true → areaOf a.toNat = .csr →
    let k := s.coreAt c
    let next := fun y : CoreSt => { y with iaddr := nextAddr y.iaddr }
    ((s.mpuCheck (k.access c (s.lead c) .read a.toNat)).1 = true → canWindow a.toNat = none → a ≠ 0xF0060001#32 →
      NoHeldCsr s c.unit →
      Gives (.csrr c rd a) c s rd (fun w => w.val.toNat = s.csrValue a.toNat % 2 ^ 64 ∧ TagOf [] tyInt 3 false w) true) ∧
    ((s.mpuCheck (k.access c (s.lead c) .write a.toNat)).1 = true → (k.reg rs).ty < 8 →
      (s.isSplit c.unit = false → Next (.csrw c rs a) s fun t => Retires (.csrw c rs a) c s t none (some (a.toNat, k.reg rs)) next) ∧
      (s.isSplit c.unit = true → Next (.csrw c rs a) s fun t =>
        t = ((s.onCrew c fun _ y => next y).noteStep c k).csrWrite c.unit a.toNat ((k.reg rs).val.toNat % 2 ^ 32) ∧
        (a.toNat = (Reg.sleepMode c.unit).addr →
          t.get (Reg.sleepMode c.unit) = (k.reg rs).val.toNat / 2 ^ (Reg.sleepMode c.unit).lsb % 2 ^ (Reg.sleepMode c.unit).width))))

/-- On an operand with a defined type code, BZ and BNZ branch on the value alone; BQ branches where the quality is below
the one its condition encodes, BLIM on Limit, BFRC on Forced. Taken, the next instruction is at the branch's address
plus its offset (and a base of 0 or 1 that the spec leaves open), where that is an instruction address; else execution
goes on. A reserved type code is trap 0x04. J and CALL go to their absolute address, CALL leaving the address of the
next instruction as GOOD INT64 in g63, and RET to the value of g63. No other register or word changes. A target
outside the instruction addresses of the privilege is trap 0x01. What the spec leaves open here is as log entries 28
and 30 have it. Spec: 03_tagged_word_and_instruction_set.md (rules 61, 62, 63, 64, 74, 83);
04_cores_clusters_and_memory.md (rule 97). -/
def Obligations.BranchesAndJumps : Prop :=
  (∀ (c : CoreId) (rs : GReg) (off : BitVec 20) (cond : BitVec 4) (s : State), Ready c s → cond.toNat ≤ 5 →
    let k := s.coreAt c
    let x := k.reg rs
    let a := (k.iaddr.toNat : Int) + Config.branchBase + off.toInt
    ∀ e ∈ [(Instr.bz c rs off, decide (x.val = 0#64)), (.bnz c rs off, decide (x.val ≠ 0#64)),
        (.bq c rs cond off, if cond.toNat ≤ 3 then decide (x.q < cond.toNat) else if cond.toNat = 4 then x.limit else x.forced),
        (.blim c rs off, x.limit), (.bfrc c rs off, x.forced)],
      x.ty < 8 →
      (e.2 = false → Moves e.1 c s (fun y => { y with iaddr := nextAddr k.iaddr })) ∧
      (e.2 = true → 0 ≤ a → a < (if k.priv then 2 ^ 21 else 2 ^ 22) →
        Moves e.1 c s (fun y => { y with iaddr := BitVec.ofInt 22 a })) ∧
      (e.2 = true → (a < 0 ∨ (if k.priv then 2 ^ 21 else 2 ^ 22) ≤ a) → Traps e.1 c s 1)) ∧
  (∀ (c : CoreId) (rs : GReg) (off : BitVec 20) (cond : BitVec 4) (s : State), Ready c s → cond.toNat ≤ 5 →
    8 ≤ ((s.coreAt c).reg rs).ty → ∀ i ∈ [Instr.bz c rs off, .bnz c rs off, .bq c rs cond off, .blim c rs off, .bfrc c rs off],
      Traps i c s 4) ∧
  (∀ (c : CoreId) (i : BitVec 24) (s : State), Ready c s →
    let k := s.coreAt c
    let top := if k.priv then 2 ^ 21 else 2 ^ 22
    (i.toNat < top → Moves (.j c i) c s (fun y => { y with iaddr := i.truncate 22 })) ∧
    (i.toNat < top → Moves (.call c i) c s (fun y =>
      { y.setReg 63 ⟨(nextAddr k.iaddr).zeroExtend 64, 0xC0#8⟩ with iaddr := i.truncate 22 })) ∧
    ((k.reg 63).ty < 8 → (k.reg 63).val.toNat < top →
      Moves (.ret c) c s (fun y => { y with iaddr := (k.reg 63).val.truncate 22 })) ∧
    (top ≤ i.toNat → Traps (.j c i) c s 1 ∧ Traps (.call c i) c s 1) ∧
    (8 ≤ (k.reg 63).ty → Traps (.ret c) c s 4))

/-- In privileged code: WAIT with nothing pending, once the stagger has drained, enters WAIT, or the state for DOZE where
that is selected, at the next instruction; on a core of a split pair whose other core runs a task it goes on; with a
wake source pending it only counts the early wake and goes on; the supervisor pair's WAIT goes on. TNOW gives TIME as
a TIME word; FENCE goes on once the stagger has drained; ERET resumes at TEPC with PRIV and DIVPOL of TSTAT; CRR reads
a control register as GOOD INT64 and CRW writes TVEC, TEPC, TSTAT, SCRATCH or, of STATUS, DIVPOL alone. In user code
each of them is trap 0x02. TRAP is trap 0x08 in either and records its immediate and its own address; in user code
where no task runs each core goes on at TVEC in privileged mode. What the spec leaves open here is as log entries 14,
31, 33 and 36 have it. Spec: 03_tagged_word_and_instruction_set.md (rules 64, 83); 04_cores_clusters_and_memory.md
(rules 97, 98, 99); 19_power_states_and_life_cycle.md (rules 457, 458); 13_time_base_and_ptp.md (rule 338). -/
def Obligations.SystemInstructions : Prop :=
  (∀ (c : CoreId) (s : State), Ready c s → (s.coreAt c).priv = true →
    let k := s.coreAt c
    let u := c.unit.val
    let next := fun y : CoreSt => { y with iaddr := nextAddr y.iaddr }
    (Level c s → u < 12 → s.wakePending u = false → (s.isSplit u = true → s.runningAt (coreKey u (!c.core)) = none) →
      Next (.wait c) s fun t => Together c s t [Reg.sleepState u] next ∧
        t.get (Reg.sleepState u) = if s.get (Reg.sleepMode u) = 1 then slWaitDoze else slWait) ∧
    (Level c s → u < 12 → s.wakePending u = true → Next (.wait c) s fun t => Together c s t [Reg.wakeEarly] next ∧
      t.get Reg.wakeEarly = (s.get Reg.wakeEarly + 1) % 2 ^ Reg.wakeEarly.width) ∧
    (Level c s → u = 12 → Next (.wait c) s fun t => Together c s t [] next) ∧
    (s.isSplit u = true → s.wakePending u = false → (s.runningAt (coreKey u (!c.core))).isSome = true →
      Next (.wait c) s fun t => Together c s t [] next) ∧
    (Level c s → Next (.fence c) s fun t => Together c s t [] next) ∧
    (∀ rd, Gives (.tnow c rd) c s rd (fun w => w.ty = tyTime ∧ w.val = BitVec.ofInt 64 s.now) true) ∧
    (k.tepc.toNat < (if k.tstat.getLsbD 0 then 2 ^ 21 else 2 ^ 22) → Moves (.eret c) c s (fun y =>
      { y with iaddr := k.tepc.truncate 22, priv := k.tstat.getLsbD 0, divpol := k.tstat.getLsbD 1 }))) ∧
  (∀ (c : CoreId) (rd rs : GReg) (n : Fin 8) (s : State), Ready c s → (s.coreAt c).priv = true →
    let k := s.coreAt c
    let v := (k.reg rs).val.truncate 32
    Gives (.crr c rd 0 (BitVec.ofNat 18 n.val)) c s rd (fun w => TagOf [] tyInt 3 false w ∧
      w.val = ([k.status, k.tvec, k.tepc, k.tcause, k.tval, k.ttag, k.tstat, k.scratch].getD n.val 0#32).zeroExtend 64) ∧
    ((k.reg rs).ty < 8 → Moves (.crw c rs 0 (BitVec.ofNat 18 (2 ^ 17 + n.val))) c s (fun y => { (match n.val with
      | 0 => { y with divpol := (k.reg rs).val.getLsbD 1 }
      | 1 => { y with tvec := v }
      | 2 => { y with tepc := v }
      | 6 => { y with tstat := v }
      | 7 => { y with scratch := v }
      | _ => y) with iaddr := nextAddr y.iaddr }))) ∧
  (∀ (c : CoreId) (rd : GReg) (n : Fin 8) (i : BitVec 18) (a : BitVec 32) (s : State), Ready c s →
    ((s.coreAt c).priv = false → ∀ e ∈ [Instr.wait c, .fence c, .tnow c rd, .eret c, .csrr c rd a, .csrw c rd a,
      .crr c rd 0 (BitVec.ofNat 18 n.val), .crw c rd 0 (BitVec.ofNat 18 (2 ^ 17 + n.val))], Traps e c s 2) ∧
    Traps (.trap c i) c s 8 ∧
    (Level c s → ((s.coreAt c).priv = true ∨ s.runningAt (coreKey c.unit (s.lead c)) = none) →
      Next (.trap c i) s fun t => ∀ b ∈ s.crew c,
        (t.core c.unit b).tcause.toNat = 8 + 256 * i.toNat ∧ (t.core c.unit b).tepc.toNat = (s.core c.unit b).iaddr.toNat ∧
        (t.core c.unit b).iaddr = (s.core c.unit b).tvec.truncate 22 ∧ (t.core c.unit b).priv = true) ∧
    (Level c s → (s.coreAt c).priv = false → c.unit.val < 12 → s.runningAt (coreKey c.unit (s.lead c)) = none →
      Next (.trap c i) s fun t => Together c s t [] fun y => y.enterTrap ⟨8, i, 0#32, 0#24⟩))

/-- A reserved type code in an operand is trap 0x04, operands of different types trap 0x03 (for ADD, FADD, AND, CEQ),
illegal mod bits trap 0x01, a zero divisor under policy TRAP trap 0x05, an index outside a REF trap 0x06, an access
that the MPU refuses trap 0x07. In a trap no register is written. A trap in a control task's own code, below its skip
limit and with its output words readable, ends its cycle without publishing. Traps are taken once the stagger of a
locked unit has drained. What the spec leaves open here is as log entries 15, 31 and 32 have it. Spec:
03_tagged_word_and_instruction_set.md (rules 63, 67, 68, 69, 76, 83, 84); 04_cores_clusters_and_memory.md (rule 99);
16_memory_protection.md (rule 415); 08_lockstep_execution.md (rule 203). -/
def Obligations.OperandTraps : Prop :=
  (∀ (c : CoreId) (rd rs1 rs2 : GReg) (m : BitVec 6) (s : State), Ready c s →
    let x := (s.coreAt c).reg rs1
    let y := (s.coreAt c).reg rs2
    let b := Src2.reg rs2 m
    ∀ i ∈ [Instr.add c rd rs1 b, .fadd c rd rs1 b, .and c rd rs1 b, .ceq c rd rs1 b],
      (modOk true m = false → Traps i c s 1) ∧
      (modOk false m = true → 8 ≤ x.ty ∨ 8 ≤ y.ty → Traps i c s 4) ∧
      (modOk false m = true → x.ty < 8 → y.ty < 8 → x.ty ≠ y.ty → Traps i c s 3)) ∧
  (∀ (c : CoreId) (rd rs1 rs2 : GReg) (m : BitVec 6) (s : State), Ready c s → modOk false m = true →
    (s.coreAt c).divpol = true → ((s.coreAt c).reg rs1).ty ≤ 1 → ((s.coreAt c).reg rs2).ty = ((s.coreAt c).reg rs1).ty →
    ((s.coreAt c).reg rs2).val = 0#64 →
    Traps (.div c rd rs1 (.reg rs2 m)) c s 5 ∧ Traps (.rem c rd rs1 (.reg rs2 m)) c s 5) ∧
  (∀ (c : CoreId) (rd g x : GReg) (s : State), Ready c s → ((s.coreAt c).reg g).ty = tyRef →
    ((s.coreAt c).reg x).ty = tyInt → ((s.coreAt c).reg g).val.toNat / 2 ^ 32 ≤ ((s.coreAt c).reg x).val.toNat →
    Traps (.ldx c rd g x 0#80) c s 6 ∧ Traps (.stx c rd g x) c s 6) ∧
  (∀ (c : CoreId) (rd g : GReg) (i : BitVec 18) (s : State), Ready c s →
    let k := s.coreAt c
    let a := ((k.reg g).val.toNat % 2 ^ 32 + (i.toInt % 2 ^ 32).toNat) % 2 ^ 32
    s.decideBy 0 (k.access c (s.lead c) .read a) = s.decideBy 1 (k.access c (s.lead c) .read a) →
    s.decideBy 0 (k.access c (s.lead c) .write a) = s.decideBy 1 (k.access c (s.lead c) .write a) →
    ((s.mpuCheck (k.access c (s.lead c) .read a)).1 = false → Traps (.ld c rd g i 0#80) c s 7) ∧
    ((s.mpuCheck (k.access c (s.lead c) .write a)).1 = false → Traps (.st c rd g i) c s 7)) ∧
  (∀ (c : CoreId) (n : Fin 16) (i : BitVec 18) (s : State), Ready c s → Level c s → c.unit.val < 12 → (s.coreAt c).priv = false →
    s.pairOf n.val = c.unit.val → s.coreOf n.val = s.lead c →
    s.runningAt (coreKey c.unit (s.lead c)) = some n.val → s.upsets = [] →
    (∀ e ∈ s.outList n.val, StubMay s (s.place n.val) .read e.2 1) →
    (s.inControl = false ∨ s.flag (Reg.tcfgSafety n.val) = false ∨ s.get (Reg.tstConsec n.val) + 1 < s.get (Reg.tcfgSkiplim n.val)) →
    SMap.get [] s.drv.stack (s.place n.val) = [] →
    s.nextWaiting (s.place n.val) = none →
    Next (.trap c i) s fun t => (t.task n.val).ended = true ∧ (t.task n.val).noPublish = true ∧
      t.runningAt (s.place n.val) = none ∧ SameMem s t)

/-- FENCE in privileged code on a locked unit with one instruction outstanding: core 1 retires it first, from its own
registers. A LIMM leaves both cores alike and nothing outstanding. A store whose token and FIFO entry agree takes
effect at its address, and no other word changes; with another address or word on core 1 it is a fault of kind STORE,
with wrong parity of its entry one of kind 9, with a wrong stamp or no entry one of kind 0xA: the fault is captured
with the store's instruction address, the module enters SAFE with cause 0x14, the store is withheld. A comparison
timeout of a locked unit that runs is a lockstep fault of kind 8, and a stall of a unit in RUN that has retired no
token for 5 us one of kind 0xB. SUPERVISOR_SEAL, drained, with both cores alike counts a seal of the supervisor pair
and changes no mode; with unlike seals it is a fault of kind 7. PROOF_TEST_DUE sets its flag by the age of the tests.
INJECTION_TEST of the pair that a request named ends it: with nothing missed it notes the test's instant and result 1;
a lane whose error goes unseen is result 2, a FIFO entry alone result 3, and a fault of kind 0xC. Without that request
it changes nothing. What the spec leaves open here is as log entries 15, 38, 56 and 57 have it. Spec:
08_lockstep_execution.md (rules 202, 203, 205, 206, 207, 208, 209, 210, 211, 214, 216, 217, 218, 221, 223, 229);
10_functional_safety.md (rules 266, 279). -/
def Obligations.LockstepCommands : Prop :=
  (∀ (c : CoreId) (rd : GReg) (imm : BitVec 24) (x : Ahead) (s : State), Ready c s → (s.coreAt c).priv = true →
    s.isSplit c.unit = false → (s.pair c.unit).ahead = [x] → (s.pair c.unit).skew = none → x.instr = .limm c rd imm → x.token = ⟨0, [], 0⟩ → x.held = none →
    s.core c.unit false = (s.core c.unit true).give rd ⟨imm.signExtend 64, 0xC0#8⟩ →
    Next (.fence c) s fun t => (∀ b : Bool, t.core c.unit b = (s.core c.unit false).advance) ∧ (t.pair c.unit).ahead = [] ∧
      (t.pair c.unit).count1 = (s.pair c.unit).count1 + 2 ∧ SameMem s t ∧ t.mode = s.mode) ∧
  (∀ (c : CoreId) (rs g : GReg) (i : BitVec 18) (x : Ahead) (a : Nat) (w : TW) (s : State), Ready c s → (s.coreAt c).priv = true →
    s.isSplit c.unit = false → (s.pair c.unit).ahead = [x] → (s.pair c.unit).skew = none → x.instr = .st c rs g i → x.held = some (a, w) → a < 2 ^ 32 →
    x.token = ⟨1, [BitVec.ofNat 72 a, lanesOf w], a⟩ → areaOf a ≠ .csr → s.mode ≠ mSafe → s.flag Reg.fstValid = false →
    let k := s.core c.unit true
    let p := s.pair c.unit
    let same := ((k.reg g).val.toNat % 2 ^ 32 + (i.toInt % 2 ^ 32).toNat) % 2 ^ 32 = a ∧ k.reg rs = w
    let fault := fun n : Nat => Next (.fence c) s fun t => Entered t s.mode mSafe 0x14 ∧ t.flag Reg.fstValid = true ∧
      t.get Reg.fstKind = n ∧ t.get Reg.fstUnit = c.unit.val ∧ t.get Reg.ftoken = x.iaddr.toNat ∧
      t.get Reg.faddr = (if n = 1 then a else 0) ∧ SafeMem s t
    (¬ same → fault 1) ∧
    (same → p.fifo = [] → fault 0xA) ∧
    (∀ e, p.fifo = [e] →
      (same → e.parity ≠ parityBits e.bits → fault 9) ∧
      (same → e.parity = parityBits e.bits → e.stamp ≠ p.count1 → fault 0xA) ∧
      (same → e.parity = parityBits e.bits → e.stamp = p.count1 → s.core c.unit false = k.advance →
        (c.unit.val = 12 → s.finalHold = false) →
        Next (.fence c) s fun t => t.word a = w ∧ KeepWords s t (· = a) ∧ (t.pair c.unit).ahead = [] ∧
          (t.pair c.unit).fifo = [] ∧ (∀ b : Bool, t.core c.unit b = k.advance.advance) ∧ t.mode = s.mode))) ∧
  (∀ (u : Fin 13) (s : State), s.mode ∈ [mIsolated, mSync, mStandby, mPrimary, mSolo] → s.flag Reg.fstValid = false →
    (s.unitRuns u = true → s.isSplit u = false → Next (.comparisonTimeout u) s fun t => Entered t s.mode mSafe 0x14 ∧
      t.flag Reg.fstValid = true ∧ t.get Reg.fstKind = 8 ∧ t.get Reg.fstUnit = u.val ∧ SafeMem s t) ∧
    (s.inRun u = true → (s.pair u).lastAt + 5000 ≤ s.tmb.raw → Next (.pairStall u) s fun t => Entered t s.mode mSafe 0x14 ∧
      t.flag Reg.fstValid = true ∧ t.get Reg.fstKind = 0xB ∧ t.get Reg.fstUnit = u.val ∧ SafeMem s t) ∧
    (s.tmb.raw < (s.pair u).lastAt + 5000 → Next (.pairStall u) s fun t => t = s) ∧
    (s.isSplit u = true → Next (.comparisonTimeout u) s fun t => t = s)) ∧
  (∀ s : State, s.runtime = true → s.core 12 false = s.core 12 true → (s.core 12 true).rflips = [] → (s.pair 12).ahead = [] →
    (s.pair 12).skew = none → Next .supervisorSeal s fun t =>
    t.get (Reg.ustSeals 12) = (s.get (Reg.ustSeals 12) + 1) % 2 ^ (Reg.ustSeals 12).width ∧
    KeepRegs s t [Reg.lksSeal 12 0, Reg.lksSeal 12 1, Reg.ustSeals 12] ∧ t = { s with csr := t.csr }) ∧
  (∀ s : State, s.runtime = true → s.mode ≠ mSafe → s.flag Reg.fstValid = false → (s.pair 12).ahead = [] →
    (s.pair 12).skew = none → (s.core 12 false).rflips = [] → (s.core 12 true).rflips = [] →
    stateSeal 0xFF s.now (s.core 12 false) [] ≠ stateSeal 0xFF s.now (s.core 12 true) [] →
    Next .supervisorSeal s fun t => Entered t s.mode mSafe 0x14 ∧ t.get Reg.fstKind = 7 ∧ t.get Reg.fstUnit = 12) ∧
  (∀ s : State, s.runtime = true → Next .proofTestDue s fun t => t.md.proofDue = s.proofOverdue ∧ t.mode = s.mode ∧
    (s.proofOverdue = true → s.md.proofDue = false → Posts s t 2)) ∧
  (∀ (p : Fin 12) (n : Fin 72) (e : Fin 8) (s : State), s.mode = mIsolated → s.functional = true → s.flag Reg.injBusy = true →
    s.get Reg.injPair = p.val →
    (Next (.injectionTest (BitVec.ofNat 4 p.val) {}) s fun t => t.get Reg.injResult = 1 ∧ t.get Reg.injBusy = 0 ∧
      t.get Reg.injPair = p.val ∧ SMap.find t.md.injAt p.val = some s.now ∧ t.mode = mIsolated) ∧
    (∀ f : Option (Fin 8), Next (.injectionTest (BitVec.ofNat 4 p.val) { lane := some n, fifo := f }) s fun t =>
      t.get Reg.injResult = 2 ∧ t.get Reg.injLane = n.val ∧ t.get Reg.fstKind = 0xC ∧ Entered t mIsolated mSafe 0x14) ∧
    (Next (.injectionTest (BitVec.ofNat 4 p.val) { fifo := some e }) s fun t =>
      t.get Reg.injResult = 3 ∧ t.get Reg.injEntry = e.val ∧ t.get Reg.fstKind = 0xC ∧ Entered t mIsolated mSafe 0x14)) ∧
  (∀ (b : BitVec 4) (m : InjMiss) (s : State), s.flag Reg.injBusy = false ∨ s.get Reg.injPair ≠ b.toNat →
    Next (.injectionTest b m) s fun t => t = s)

/-- CANARY_READING of a powered cluster shows speed and temperature; below the target it raises the rail by 10 mV, within
the hysteresis it changes nothing. SCRUB_ACCESS of an undamaged word reads it and moves on; a single flipped bit in
either pass is corrected, counted and captured, and the word keeps its value. SCRUB_INTERVAL_END after one second by
the time base's ticks raises the level where the corrected errors reach the threshold and the maximum is not reached,
and starts a new count. What the spec leaves open here is as log entries 9, 39 and 122 have it. Spec:
04_cores_clusters_and_memory.md (rules 90, 91, 93, 106, 107, 108, 109, 110, 112). -/
def Obligations.SpeedLoopAndScrubbing : Prop :=
  (∀ (u : Fin 3) (r : BitVec 16) (tj : BitVec 8) (s : State), s.functional = true → SMap.find s.pwr.dozeAt u.val = none →
    s.fixedRail u.val = false → s.mode ≠ mBoot → Next (.canaryReading u.castSucc r tj) s fun t =>
      t.get (Reg.spdSpeed u.val) = r.toNat ∧ t.get (Reg.spdTj u.val) = tj.toNat ∧ u.val ∉ t.pwr.owed ∧
      (r.toNat < s.get Reg.avsTarget → s.get (Reg.vltVolt u.val) < 890 →
        t.get (Reg.vltVolt u.val) = s.get (Reg.vltVolt u.val) + 10 ∧ t.get (Reg.vltBias u.val) = s.get (Reg.vltBias u.val)) ∧
      (s.get Reg.avsTarget ≤ r.toNat → r.toNat ≤ s.get Reg.avsTarget + s.get Reg.avsHyst →
        t.get (Reg.vltVolt u.val) = s.get (Reg.vltVolt u.val) ∧ t.get (Reg.vltBias u.val) = s.get (Reg.vltBias u.val)) ∧
      t.mode = s.mode ∧ SameMem s t) ∧
  (∀ s : State, s.functional = true →
    (sramPos (s.get Reg.scrubPos) + 1 ≠ 0x2100000 → s.flips (sramPos (s.get Reg.scrubPos)) = 0#80 →
      Next (.scrubAccess false 0#80) s fun t => t.get Reg.scrubPos = sramPos (sramPos (s.get Reg.scrubPos) + 1) ∧ SameMem s t ∧
        KeepRegs s t [Reg.scrubPos]) ∧
    (mramPos (s.get Reg.scrubMpos) + 1 ≠ 0x8400000 → s.flips (mramPos (s.get Reg.scrubMpos)) = 0#80 →
      Next (.scrubAccess true 0#80) s fun t => t.get Reg.scrubMpos = mramPos (s.get Reg.scrubMpos) + 1 ∧ SameMem s t ∧
        KeepRegs s t [Reg.scrubMpos])) ∧
  (∀ (k : Fin 80) (s : State), s.functional = true →
    (s.flips (sramPos (s.get Reg.scrubPos)) = 0#80 → Next (.scrubAccess false (1#80 <<< k.val)) s fun t =>
      t.flips (sramPos (s.get Reg.scrubPos)) = 0#80 ∧ SameMem s t ∧ t.get Reg.eccAddr = sramPos (s.get Reg.scrubPos) ∧
      t.get Reg.eccKind = 1 ∧ t.get Reg.eccCe = min (s.get Reg.eccCe + 1) (2 ^ Reg.eccCe.width - 1) ∧
      t.pwr.scrubCe = s.pwr.scrubCe + 1 ∧ t.mode = s.mode) ∧
    (s.flips (mramPos (s.get Reg.scrubMpos)) = 0#80 → Next (.scrubAccess true (1#80 <<< k.val)) s fun t =>
      t.flips (mramPos (s.get Reg.scrubMpos)) = 0#80 ∧ KeepWords s t (fun a => 0xFF00 ≤ a ∧ a < 0x10000) ∧ t.get Reg.eccKind = 1 ∧
      t.get Reg.eccAddr = mramPos (s.get Reg.scrubMpos) ∧ t.mode = s.mode)) ∧
  (∀ s : State, s.functional = true → s.pwr.scrubAt + 1000000000 ≤ s.tmb.run → Next .scrubIntervalEnd s fun t =>
    t.pwr.scrubCe = 0 ∧ t.pwr.scrubAt = s.tmb.run ∧ KeepRegs s t [Reg.scrubLvl] ∧ t = { s with csr := t.csr, pwr := t.pwr } ∧
    (0 < s.get Reg.scrubThup → s.get Reg.scrubThup ≤ s.pwr.scrubCe → s.get Reg.scrubLvl < s.get Reg.scrubMaxlvl →
      s.get Reg.scrubLvl < 3 → t.get Reg.scrubLvl = s.get Reg.scrubLvl + 1) ∧
    (s.pwr.scrubCe < s.get Reg.scrubThup → s.pwr.scrubQuiet + 1 < s.get Reg.scrubHolddn → s.get Reg.scrubLvl ≤ 3 →
      t.get Reg.scrubLvl = s.get Reg.scrubLvl))

/-- A GO write by the runtime with no drain in progress writes the staged region into both checkers, which hold the same,
and begins a new epoch; with accesses of the old epoch under way a drain begins. A write of a locked region is refused
and counted and changes no region. At the drain's completion DRAIN is clear, or the rule write that has waited takes
effect in both checkers. A drain that is not complete 2 µs after the write is an MPU fault and enters SAFE with cause
0x17. What the spec leaves open here is as log entries 10 and 88 have it. Spec: 16_memory_protection.md (rules 411,
413, 417, 418, 419, 420); 18_event_recorder.md (rule 440). -/
def Obligations.RuleWritesAndDrain : Prop :=
  (∀ (r : Fin 64) (inflight : BitVec 8) (s : State), s.runtime = true → Twin s →
    ((s.get (Reg.rAttr 0 r.val)).testBit 9 = false → s.flag Reg.mpuDrain = false →
      Next (.mpuRuleWrite (BitVec.ofNat 32 (2 ^ 31 + r.val)) inflight) s fun t =>
        (∀ c : Fin 2, t.get (Reg.rBase c.val r.val) = s.get Reg.mpuWbase % 2 ^ 32 ∧ t.get (Reg.rLim c.val r.val) = s.get Reg.mpuWlim % 2 ^ 32 ∧
          t.get (Reg.rAttr c.val r.val) = s.get Reg.mpuWattr % 2 ^ 18 ∧ t.get (Reg.rMask c.val r.val) = s.get Reg.mpuWmask % 2 ^ 21) ∧
        t.get Reg.mpuEpoch = (s.get Reg.mpuEpoch + 1) % 2 ^ 8 ∧ t.get Reg.mpuInflt = inflight.toNat ∧
        t.flag Reg.mpuDrain = decide (inflight ≠ 0#8) ∧
        KeepRegs s t ([Reg.mpuEpoch, Reg.mpuInflt, Reg.mpuDrain] ++ regionFlds r.val) ∧ Twin t ∧
        t = { s with csr := t.csr, mpu := t.mpu }) ∧
    ((s.get (Reg.rAttr 0 r.val)).testBit 9 = true →
      Next (.mpuRuleWrite (BitVec.ofNat 32 (2 ^ 31 + r.val)) inflight) s fun t => t.get Reg.mpuRefused = 1 ∧
        t.mpu.ruleRefused = s.mpu.ruleRefused + 1 ∧ KeepRegs s t (Reg.mpuRefused :: evFlds) ∧ SameMem s t)) ∧
  (∀ (inflight : BitVec 8) (s : State), s.flag Reg.mpuDrain = true → Next (.mpuDrainComplete inflight) s fun t =>
    t.mpu.waiting = none ∧
    (s.mpu.waiting = none → t.get Reg.mpuDrain = 0 ∧ t.get Reg.mpuInflt = 0 ∧ t.mpu.drainAt = none ∧
      KeepRegs s t [Reg.mpuDrain, Reg.mpuInflt]) ∧
    (∀ (r : Fin 64) (b l a m : Nat), s.mpu.waiting = some (r.val, b, l, a, m) → ∀ c : Fin 2,
      t.get (Reg.rBase c.val r.val) = b % 2 ^ 32 ∧ t.get (Reg.rLim c.val r.val) = l % 2 ^ 32 ∧
      t.get (Reg.rAttr c.val r.val) = a % 2 ^ 18 ∧ t.get (Reg.rMask c.val r.val) = m % 2 ^ 21)) ∧
  (∀ (a : Int) (s : State), s.mpu.drainAt = some a → s.flag Reg.mpuDrain = true → a + 2000 ≤ s.now → s.functional = true →
    s.mode ∈ [mIsolated, mSync, mStandby, mPrimary, mSolo] →
    Next .mpuDrainTimeout s fun t => t.get Reg.mpuFault = 1 ∧ Entered t s.mode mSafe 0x17 ∧ SafeMem s t)

/-- SCAN_START with GO on an engine that is neither busy nor faulty, over a range within one area, makes it busy; on a
busy engine it is ignored and counted; over an empty range or with a final length out of place it ends with error 3.
SCAN_END of a scan of one whole undamaged word that the MPU permits gives the word's check value by the selected
polynomial, VALID 1 and position 1, and clears BUSY. CVU_SELF_TEST after 60 s runs the test string through the
engines, which read it where no lower region lies over it, and marks those that failed; the others are left with the
string's last check value. None of them changes memory. What the spec leaves open here is as log entries 90 and 128
have it. Spec: 17_check_value_units.md (rules 424, 426, 427, 428, 429, 430, 434). -/
def Obligations.CheckValueScans : Prop :=
  (∀ (n : Fin 4) (w : BitVec 32) (s : State), s.functional = true → w.getLsbD 31 = true →
    (s.flag (Reg.cvuBusy n.val) = true → Next (.scanStart n w) s fun t =>
      t.get (Reg.cvuIgnw n.val) = min (s.get (Reg.cvuIgnw n.val) + 1) (2 ^ (Reg.cvuIgnw n.val).width - 1) ∧
      KeepRegs s t [Reg.cvuIgnw n.val] ∧ t = { s with csr := t.csr }) ∧
    (s.flag (Reg.cvuBusy n.val) = false → (s.get Reg.cvuFault).testBit n.val = false →
      (0 < s.get (Reg.cvuLen n.val) → scanRangeOk (s.get (Reg.cvuStart n.val)) (s.get (Reg.cvuLen n.val)) = true →
        (w.toNat / 256 % 8 = 0 ∨ w.getLsbD 4 = true) → Next (.scanStart n w) s fun t =>
          t.flag (Reg.cvuBusy n.val) = true ∧ t.get (Reg.cvuPoly n.val) = w.toNat % 4 ∧ t.get (Reg.cvuValid n.val) = 0 ∧
          t.get (Reg.cvuErr n.val) = 0 ∧ t = { s with csr := t.csr }) ∧
      (s.get (Reg.cvuLen n.val) = 0 ∨ (w.toNat / 256 % 8 ≠ 0 ∧ w.getLsbD 4 = false) → Next (.scanStart n w) s fun t =>
          t.get (Reg.cvuErr n.val) = 3 ∧ t.get (Reg.cvuValid n.val) = 0 ∧ t.flag (Reg.cvuBusy n.val) = false ∧
          SMap.get 0 t.cvu.errors n.val = min (2 ^ 32 - 1) (SMap.get 0 s.cvu.errors n.val + 1) ∧ SameMem s t))) ∧
  (∀ (n : Fin 4) (s : State), s.flag (Reg.cvuBusy n.val) = true → s.flag (Reg.cvuCont n.val) = false →
    s.flag (Reg.cvuSfold n.val) = false → s.flag (Reg.cvuAfold n.val) = false → s.flag (Reg.cvuWmode n.val) = false →
    s.get (Reg.cvuLen n.val) = 1 → (s.get Reg.cvuFault).testBit n.val = false →
    (s.mpuCheck ⟨16 + n.val, .read, true, s.get (Reg.cvuStart n.val), 0, false, false⟩).1 = true →
    s.flips (s.get (Reg.cvuStart n.val)) = 0#80 →
    Next (.scanEnd n) s fun t =>
      let v := crc (s.get (Reg.cvuPoly n.val)) (wordBytes (s.word (s.get (Reg.cvuStart n.val))))
      t.get (Reg.cvuResl n.val) = v % 2 ^ 32 ∧ t.get (Reg.cvuResh n.val) = v / 2 ^ 32 % 2 ^ 32 ∧ t.get (Reg.cvuBusy n.val) = 0 ∧
      t.get (Reg.cvuValid n.val) = 1 ∧ t.get (Reg.cvuErr n.val) = 0 ∧ t.get (Reg.cvuPos n.val) = 1 ∧
      KeepRegs s t [Reg.cvuBusy n.val, Reg.cvuValid n.val, Reg.cvuErr n.val, Reg.cvuResl n.val, Reg.cvuResh n.val, Reg.cvuPos n.val] ∧
      t = { s with csr := t.csr, cvu := t.cvu }) ∧
  (∀ (f : BitVec 4) (s : State), s.runtime = true → s.cvu.testAt + 60000000000 ≤ s.now → Sound s →
    s.word testStringAt = goodBits 0x3837363534333231 → s.word (testStringAt + 1) = goodBits 0x39 → s.flag Reg.mpuDrain = false →
    (s.get (Reg.rAttr 0 winCvu)).testBit 9 = false →
    (∀ r : Fin 64, r.val < winCvu → ∀ i : Fin 2, s.regionHit 0 r.val (testStringAt + i.val) = false) →
    Next (.cvuSelfTest f) s fun t =>
    (∀ k < 4, (t.get Reg.cvuFault).testBit k = ((s.get Reg.cvuFault).testBit k || f.getLsbD k)) ∧ t.cvu.testAt = s.now ∧
    (∀ n : Fin 4, f.getLsbD n.val = false → (s.get Reg.cvuFault).testBit n.val = false →
      t.get (Reg.cvuResl n.val) = 0x29B1 ∧ t.flag (Reg.cvuValid n.val) = true) ∧
    t.mode = s.mode ∧ SameMem s t ∧
    (f = 0#4 → (∀ n : Fin 4, s.flag (Reg.cvuBusy n.val) = false) →
      KeepRegs s t (engineFlds ++ regionFlds winCvu ++ [Reg.mpuEpoch, Reg.mpuInflt] ++ evFlds)))

/-- In a sound machine an accepted LOAD in ISOLATED or PRIMARY, or handed on by the partner in STANDBY, runs the checks of
R175 on the flash file of the idle slot: a failing check leaves the slot empty with its error code and STATE 12; an
image that passes and reads back well is in the slot, complete in ISOLATED, waiting for the partner in PRIMARY. A wait
of 5 s ends in error 0x0E. ACTIVATE in ISOLATED of a valid idle slot, whose tasks the configuration admits, while no
valid image is active makes it the active one on every pair, with its signal table. RELEASE_SLOT ends the rollback
slot. What the spec leaves open here is as log entries 51, 52 and 55 have it. Spec: 07_program_exchange_and_restart.md
(rules 170, 171, 175, 192, 199, 200, 201). -/
def Obligations.LoadAndActivate : Prop :=
  (∀ (sess : Nat) (c : Caller) (pt : Bool) (s : State), s.runtime = true → (pt = false → Asks s sess c rEngineer) →
    s.mode ∈ (if pt then [mStandby] else [mIsolated, mPrimary]) → s.xchBusy = false → Sound s →
    Next (.load sess pt) s fun t => t.mode = s.mode ∧ (pt = false → Answers t sess stOk) ∧
      (∀ (e : Nat) (x : List Int), s.loadCheck s.idleSlot (s.flashImage s.idleSlot) = .error (e, x) → 0 < e → e < 16 →
        t.get Reg.xchState = 12 ∧ t.get Reg.xchErr = e ∧ t.imgOf s.idleSlot = none ∧
        t.get (if s.idleSlot = 0 then Reg.xchAvalid else Reg.xchBvalid) = 0 ∧ SameMem s t) ∧
      (∀ m : Image, s.loadCheck s.idleSlot (s.flashImage s.idleSlot) = .ok m →
        ((s.fillSlot s.idleSlot m).slotCheck s.idleSlot m).1 = true → t.imgOf s.idleSlot = some m ∧
        t.get Reg.xchState = (if s.mode = mPrimary then 2 else 3) ∧ (s.mode = mPrimary → t.xch.loadAt = some s.now))) ∧
  (∀ (a : Int) (s : State), s.xch.loadAt = some a → a + 5000000000 ≤ s.now → Next .partnerLoadReportTimeout s fun t =>
    t.xch.loadAt = none ∧ t.get Reg.xchState = 12 ∧ t.get Reg.xchErr = 0x0E ∧ t.imgOf s.idleSlot = none ∧
    t.mode = s.mode ∧ SameMem s t) ∧
  (∀ (sess : Nat) (c : Caller) (m : Image) (s : State), Asks s sess c rEngineer → s.mode = mIsolated → s.xchBusy = false →
    s.idleImg = some m → s.activeImg = none → s.admits m = true →
    Next (.activate sess) s fun t => Answers t sess stOk ∧ t.get Reg.xchActive = s.idleSlot ∧ t.activeImg = some m ∧
      t.pimg.signals = m.signals ∧ (∀ (u : Fin 13) (b : Bool), (t.core u.val b).slot = (s.idleSlot == 1)) ∧ t.mode = s.mode) ∧
  (∀ (sess : Nat) (c : Caller) (pt : Bool) (s : State), s.runtime = true → (pt = false → Asks s sess c rEngineer) →
    s.mode ∈ (if pt then [mStandby] else [mIsolated, mPrimary, mSolo]) → s.xchBusy = false →
    Next (.releaseSlot sess pt) s fun t => t.get Reg.xchRollbk = 0 ∧ (pt = false → Answers t sess stOk) ∧ t.mode = s.mode)

/-- TRIAL_START in PRIMARY with the partner in STANDBY, an image in the idle slot that both modules hold and that names
the active one as predecessor, no set and no exchange pending and the admission test passed, begins a run: STATE 4, no
difference yet, the configuration generation noted, one entry per tried task. Handed on to the standby, it copies the
words of the forward map. TRIAL_STATE_TAKE 20 µs before a common boundary that qualifies copies the words that are
dirty again; at the boundary it sets STATE 5, unless a word has been stored to since. TRIAL_ABORT ends the run with
STATE 10 and clears its trial tasks. What the spec leaves open here is as log entries 52, 54 and 110 have it. Spec:
07_program_exchange_and_restart.md (rules 180, 181, 182, 184, 200, 201). -/
def Obligations.YearlingRun : Prop :=
  (∀ (sess : Nat) (c : Caller) (m a : Image) (p : Manifest) (s : State), s.runtime = true → Asks s sess c rEngineer →
    s.mode = mPrimary → s.xchBusy = false → s.partnerMode = mStandby → s.setPending = false → s.exchPending = false →
    s.idleImg = some m → s.activeImg = some a → m.pred = a.ident → s.link.manifest = some p →
    (if s.idleSlot = 0 then p.aValid && p.idA == m.ident else p.bValid && p.idB == m.ident) = true →
    admitted (s.trialSet m) (s.get Reg.splitMask) = true →
    Next (.trialStart sess false) s fun t => Answers t sess stOk ∧ t.get Reg.xchState = 4 ∧ t.get Reg.xchDiff = 0 ∧
      t.get Reg.trialDone = 0 ∧ t.xch.trialGen = s.generation ∧ t.xch.void = false ∧
      t.xch.trial.map (·.1) = (s.taskPars (some m)).map (·.num) ∧ t.mode = s.mode ∧ SameMem s t) ∧
  (∀ (sess x d : Nat) (m a : Image) (p : Manifest) (s : State), s.runtime = true → s.mode = mStandby → s.xchBusy = false →
    s.setPending = false → s.exchPending = false → s.idleImg = some m → s.activeImg = some a → m.pred = a.ident →
    s.link.manifest = some p → (if s.idleSlot = 0 then p.aValid && p.idA == m.ident else p.bValid && p.idB == m.ident) = true →
    admitted (s.trialSet m) (s.get Reg.splitMask) = true → m.fwd = [⟨x, d, 1, 1, 0, false, 0, true⟩] → s.flips x = 0#80 →
    Next (.trialStart sess true) s fun t => t.get Reg.xchState = 4 ∧ t.xch.take = some [] ∧ t.word d = s.word x ∧
      KeepWords s t (· = d) ∧ t.mode = mStandby) ∧
  (∀ (sess : Nat) (c : Caller) (pt : Bool) (s : State), s.runtime = true → (pt = false → Asks s sess c rEngineer) →
    s.mode ∈ (if pt then [mStandby] else [mPrimary, mStandby]) → s.get Reg.xchState ∈ [4, 5] →
    Next (.trialAbort sess pt) s fun t => (pt = false → Answers t sess stOk) ∧ t.get Reg.xchState = 10 ∧
      t.xch.trial = [] ∧ (∀ n : Fin 24, t.task (32 + n.val) = {}) ∧ t.mode = s.mode ∧ SameMem s t) ∧
  (∀ (b : Int) (s : State), s.mode = mStandby → s.get Reg.xchState = 4 → s.xch.take = some [] → s.xch.takeAt = none →
    s.windowDue = some b → s.qualifies = true →
    Next .trialStateTake s fun t => t = { s with xch := { s.xch with takeAt := some b } }) ∧
  (∀ (b : Int) (x d : Nat) (m : Image) (s : State), s.mode = mStandby → s.get Reg.xchState = 4 → s.xch.take = some [x] →
    s.xch.takeAt = none → s.windowDue = some b → s.qualifies = true → s.imgOf s.idleSlot = some m →
    m.fwd = [⟨x, d, 1, 1, 0, false, 0, true⟩] → s.flips x = 0#80 →
    Next .trialStateTake s fun t => t.xch.takeAt = some b ∧ t.xch.take = some [] ∧ t.word d = s.word x ∧ KeepWords s t (· = d) ∧
      t.get Reg.xchState = 4) ∧
  (∀ (b : Int) (s : State), s.mode = mStandby → s.get Reg.xchState = 4 → s.xch.take = some [] → s.xch.takeAt = some b →
    b ≤ s.now →
    Next .trialStateTake s fun t => t.get Reg.xchState = 5 ∧ t.xch.take = none ∧ t = { s with csr := t.csr, xch := t.xch } ∧
      KeepRegs s t [Reg.xchState]) ∧
  (∀ (b : Int) (x : Nat) (l : List Nat) (s : State), s.mode = mStandby → s.get Reg.xchState = 4 → s.xch.take = some (x :: l) →
    s.xch.takeAt = some b → b ≤ s.now →
    Next .trialStateTake s fun t => t = { s with xch := { s.xch with takeAt := none } })

/-- EXCHANGE in PRIMARY with the partner in STANDBY after a completed run, with the report's sequence and difference count
repeated and the task set admitted, and ROLLBACK while the rollback slot is held, start the pre-copy: STATE 7 and the
exchange noted with its flags. EXCHANGE_ABORT before the window ends it with STATE 11. The end of the first pass arms
the boundary search for an exchange at the earliest instant of the request. URGENT_END_KEEP_COPY after the urgent task
has ended, with no task waiting, gives the pair the new slot. A request of too low a role is refused and changes only
what reports it. What the spec leaves open here is as log entries 52, 53 and 109 have it. Spec:
07_program_exchange_and_restart.md (rules 185, 186, 189, 190, 191, 200, 201); 05_drover_cycle_scheduling.md (rules
144, 514). -/
def Obligations.ExchangeCommands : Prop :=
  (∀ (sess seq diff : Nat) (c : Caller) (pt : Bool) (e : Int) (m a : Image) (s : State), s.runtime = true →
    (pt = false → Asks s sess c (if s.safetyImages then rExpert else rEngineer) ∧ s.partnerMode = mStandby) →
    s.mode = (if pt then mStandby else mPrimary) → s.exchPending = false → s.xchBusy = false → s.setPending = false →
    s.idleImg = some m → s.activeImg = some a → s.upsets = [] → s.xch.ran = true → s.xch.void = false →
    s.admits m = true → seq = s.get Reg.repSeq → seq < 2 ^ 16 → diff = s.get Reg.xchDiff → diff < 2 ^ 32 → m.pred = a.ident →
    Next (.exchange sess pt false (BitVec.ofNat 16 seq) (BitVec.ofNat 32 diff) e) s fun t => (pt = false → Answers t sess stOk) ∧
      t.get Reg.xchState = 7 ∧ t.mode = s.mode ∧ ∃ x, t.xch.exch = some x ∧ x.rollback = false ∧ x.companion = false ∧
        (pt = false → x.client = c.client) ∧ x.earliest = e ∧ x.firstPass = false) ∧
  (∀ (sess : Nat) (c : Caller) (pt : Bool) (e : Int) (m a : Image) (s : State), s.runtime = true →
    (pt = false → Asks s sess c (if s.safetyImages then rExpert else rEngineer) ∧ s.partnerMode = mStandby) →
    s.mode = (if pt then mStandby else mPrimary) → s.exchPending = false → s.xchBusy = false → s.setPending = false →
    s.idleImg = some m → s.activeImg = some a → s.upsets = [] → s.flag Reg.xchRollbk = true → a.pred = m.ident → s.admits m = true →
    Next (.rollback sess pt false 0#16 0#32 e) s fun t => (pt = false → Answers t sess stOk) ∧ t.get Reg.xchState = 7 ∧
      t.mode = s.mode ∧ ∃ x, t.xch.exch = some x ∧ x.rollback = true ∧ (pt = false → x.client = c.client) ∧ x.earliest = e ∧
        x.firstPass = false) ∧
  (∀ (sess : Nat) (c : Caller) (pt : Bool) (x : Exch) (s : State), s.runtime = true → (pt = false → Asks s sess c rEngineer) →
    s.mode = (if pt then mStandby else mPrimary) → s.xch.exch = some x → s.drv.window = none →
    Next (.exchangeAbort sess pt) s fun t => (pt = false → Answers t sess stOk) ∧ t.xch.exch = none ∧
      t.get Reg.xchState = 11 ∧ t.get Reg.xchActive = s.get Reg.xchActive ∧ t.cores = s.cores ∧ t.mode = s.mode) ∧
  (∀ (x : Exch) (s : State), s.xch.exch = some x → x.firstPass = false → Next .precopyFirstPassEnd s fun t =>
    t.xch.exch = some { x with firstPass := true } ∧ t.get Reg.weirArm = 1 ∧ t.get Reg.weirKind = 1 ∧ t.get Reg.weirState = 1 ∧
    t.drv.searchAt = some s.now ∧ t.getHalves Reg.weirAtl Reg.weirAth = (BitVec.ofInt 64 x.earliest).toInt ∧
    KeepRegs s t ([Reg.weirArm, Reg.weirKind, Reg.weirState, Reg.weirAtl, Reg.weirAth] ++ cfgenFlds) ∧ SameMem s t) ∧
  (∀ (u : Fin 12) (s : State), (∃ p ∈ s.placesOf u.val, p ∈ s.xch.keep) → (∀ p ∈ s.placesOf u.val, s.urgentAt p = false) →
    s.xch.keepStores = [] → (∀ p ∈ s.placesOf u.val, s.nextUrgent p = none ∧ ∀ m ∈ cycleTasks, s.waits m = true → s.place m ≠ p) →
    Next (.urgentEndKeepCopy u) s fun t => (∀ p ∈ s.placesOf u.val, p ∉ t.xch.keep) ∧ SameMem s t ∧
      (∀ p ∈ s.placesOf u.val, p ∈ s.xch.keep → (t.core u.val (p % 2 == 1)).slot = (s.get Reg.xchActive == 1)) ∧
      (s.isSplit u.val = false → (t.core u.val true).slot = (s.get Reg.xchActive == 1)) ∧
      (∀ (v : Fin 26), v.val / 2 ≠ u.val → SMap.get {} t.cores v.val = SMap.get {} s.cores v.val)) ∧
  (∀ (sess : Nat) (c : Caller) (i : Instr) (s : State), Asks s sess c 0 →
    c.role < rEngineer → i ∈ [Instr.load sess false, .activate sess, .trialStart sess false, .trialAbort sess false,
      .exchangeAbort sess false, .releaseSlot sess false] →
    Next i s fun t => Answers t sess stRole ∧ KeepRegs s t evFlds ∧ SameMem s t ∧ t.xch = s.xch)

/-- An accepted FORCE_REQUEST adds a change for the point with the word given and Forced set, to be applied at the first
multiple of 125 µs at least 1 ms later; REMOVE_FORCE adds a removal, REMOVE_ALL_FORCES one per forced point. A point
of the status range is refused. FORCE_APPLY at that instant puts the word into the point, or takes the force away and
leaves the word Forced, UNCERTAIN at best. FRESHNESS_EXPIRY of a CAN_RX or FSK_VAR point whose limit has run out makes
its word, undamaged, BAD, once, and counts it. The classes of the events are the model's choice (log 10). Spec:
06_process_image.md (rules 152, 155, 159, 165, 166, 167); 18_event_recorder.md (rules 440, 443). -/
def Obligations.ForceCommands : Prop :=
  (∀ (sess : Nat) (c : Caller) (p : BitVec 16) (b : Bytes) (s : State), Asks s sess c (if s.safetyPoint p.toNat then rExpert else rEngineer) →
    s.mode ∈ [mIsolated, mPrimary, mSolo] →
    (b.length = 9 → OdTy.tagword.encodes b = true → p.toNat < 0xFF00 → (s.writerOf p.toNat).isSome = true → s.forcePoints.length < 255 →
      Next (.forceRequest sess p b) s fun t => Answers t sess stOk ∧ SameMem s t ∧ t.mode = s.mode ∧
        ∃ a w, t.pimg.changes = s.pimg.changes ++ [⟨p.toNat, some w, a, c.client⟩] ∧ a % 125000 = 0 ∧ s.now + 1000000 ≤ a ∧
          a < s.now + 1125000 ∧ w.val.toNat = leNat (b.take 8) ∧ w.forced = true ∧ w.q = leNat (b.drop 8) / 64 ∧
          w.ty = leNat (b.drop 8) % 16) ∧
    (b.length = 9 → OdTy.tagword.encodes b = true → 0xFF00 ≤ p.toNat → Next (.forceRequest sess p b) s fun t =>
      Answers t sess stRefused ∧ t.pimg.refusal = 1 ∧ t.pimg.changes = s.pimg.changes ∧ SameMem s t) ∧
    (p.toNat < 0xFF00 → (s.forceOf p.toNat).isSome = true → Next (.removeForce sess p) s fun t => Answers t sess stOk ∧
      (∃ a, t.pimg.changes = s.pimg.changes ++ [⟨p.toNat, none, a, c.client⟩] ∧ a % 125000 = 0 ∧ s.now + 1000000 ≤ a) ∧ SameMem s t)) ∧
  (∀ (sess : Nat) (c : Caller) (s : State), Asks s sess c rExpert → s.mode ∈ [mIsolated, mPrimary, mSolo] →
    Next (.removeAllForces sess) s fun t => Answers t sess stOk ∧ SameMem s t ∧
      t.pimg.changes.map (fun x => (x.point, x.word)) =
        s.pimg.changes.map (fun x => (x.point, x.word)) ++ s.pimg.forces.map (fun e => (e.1, none))) ∧
  (∀ (p a k : Nat) (w : TW) (s : State), p < 0xFF00 → (a : Int) ≤ s.now → s.portHeld = false →
    (s.pimg.changes = [⟨p, some w, a, k⟩] → Next .forceApply s fun t => t.word p = w ∧ t.forceOf p = some w ∧ t.pimg.changes = [] ∧
      KeepWords s t (fun x => x = p ∨ x = 0xFF04)) ∧
    (s.pimg.changes = [⟨p, none, a, k⟩] → s.forceOf p = some w →
      Next .forceApply s fun t => t.forceOf p = none ∧ t.pimg.changes = [] ∧ (t.word p).val = w.val ∧ (t.word p).forced = w.forced ∧
        (t.word p).ty = w.ty ∧ (t.word p).q = min 1 w.q ∧ KeepWords s t (fun x => x = p ∨ x = 0xFF04))) ∧
  (∀ (p : BitVec 16) (b : Binding) (s : State), s.runtime = true → b ∈ s.bindings → b.point = p.toNat →
    s.bindings.filter (fun x => x.point == p.toNat) = [b] → b.kind ∈ [bkCanRx, bkFskVar] →
    b.tmo ≠ 0 → p.toNat ∉ s.pimg.expired → s.freshUntil b ≤ s.now → s.portHeld = false → s.flips p.toNat = 0#80 → s.forceOf p.toNat = none →
    Next (.freshnessExpiry p) s fun t => (t.word p.toNat).val = (s.word p.toNat).val ∧ (t.word p.toNat).q = 0 ∧
      (t.word p.toNat).ty = (s.word p.toNat).ty ∧ p.toNat ∈ t.pimg.expired ∧ t.pimg.expiries = s.pimg.expiries + 1 ∧
      KeepWords s t (· = p.toNat) ∧ Posts s t (if b.kind = bkCanRx then 10 else 11))

/-- An accepted STAGING_WRITE of a staged object puts its entry into the Tarn, which is OPEN, and counts SEQ up; no
register, memory word or committed value changes. COMMIT of an open set by an ENGINEER in ISOLATED, PRIMARY or SOLO
begins CHECKING, in another mode it is refused; DISCARD by a role that suffices empties the Tarn. At the end of the
check of a module without a partner, the set passes where no rule fails, else returns to OPEN with the failures
counted. CONFIGURATION_COPY_WRITTEN writes the resulting configuration to the inactive copy and leaves the set ARMED
with a boundary search, or COMPANION. What the spec leaves open here is as log entries 65, 67 and 68 have it. Spec:
11_object_dictionary_and_staging.md (rules 287, 290, 292, 295, 296, 297, 298, 299, 302, 303, 304). -/
def Obligations.StagingAndCommit : Prop :=
  (∀ (sess : Nat) (c : Caller) (r : OdRow) (i : BitVec 16) (k : BitVec 8) (b : Bytes) (s : State), Asks s sess c r.role →
    s.mode ∈ [mIsolated, mPrimary, mSolo] → odFind i.toNat k.toNat = some r → r.acc = .st → odForeign i.toNat k.toNat = false →
    r.refuses k.toNat b = none → s.tarn.state < 2 → s.tarn.entries.length < 2048 →
    Next (.stagingWrite sess i k b) s fun t => Answers t sess stOk ∧ t.tarn.state = 1 ∧ t.tarn.seq = (s.tarn.seq + 1) % 2 ^ 32 ∧
      ⟨i.toNat, k.toNat, b, c.client, s.now⟩ ∈ t.tarn.entries ∧
      (∀ e, (e.index ≠ i.toNat ∨ e.sub ≠ k.toNat) → (e ∈ t.tarn.entries ↔ e ∈ s.tarn.entries)) ∧
      t = { s.seen sess with tarn := t.tarn, out := t.out }) ∧
  (∀ (sess : Nat) (c : Caller) (q : BitVec 32) (e : Int) (cp : Bool) (s : State), s.tarn.state = 1 →
    (Asks s sess c rEngineer → s.mode ∈ [mIsolated, mPrimary, mSolo] → Next (.commit sess cp q e) s fun t => Answers t sess stOk ∧ t.tarn.state = 2 ∧ t.tarn.checkAt = some s.now ∧
      t.tarn.entries = s.tarn.entries ∧ t.tarn.client = c.client ∧ t.tarn.reqSeq = q.toNat ∧ t.tarn.companion = cp ∧
      t.tarn.earliest = e ∧ t.cfg = s.cfg ∧ KeepRegs s t evFlds ∧ SameMem s t) ∧
    (Asks s sess c rEngineer → s.mode ∉ [mIsolated, mPrimary, mSolo] → Next (.commit sess cp q e) s fun t =>
      Answers t sess stMode ∧ t.tarn = s.tarn ∧ t.cfg = s.cfg ∧ KeepRegs s t evFlds ∧ SameMem s t) ∧
    (Asks s sess c (s.setRole s.candidate) → Next (.discard sess) s fun t => Answers t sess stOk ∧ t.tarn.state = 0 ∧ t.tarn.entries = [] ∧ t.cfg = s.cfg ∧
      KeepRegs s t evFlds ∧ SameMem s t)) ∧
  (∀ (a : Int) (pt : Option Bool) (s : State), s.tarn.state = 2 → s.tarn.checkAt = some a → s.tarn.passed = false →
    s.mode ∈ [mIsolated, mSolo] → s.failingRules ((s.tarn.reqSeq + 1) % 2 ^ 32 == s.tarn.seq) true = [] →
    Next (.consistencyCheckEnd pt) s fun t => t = { s with tarn := { s.tarn with passed := true } }) ∧
  (∀ (a : Int) (pt : Option Bool) (s : State), s.tarn.state = 2 → s.tarn.checkAt = some a → s.tarn.passed = false →
    s.mode ∈ [mIsolated, mSolo] → s.failingRules ((s.tarn.reqSeq + 1) % 2 ^ 32 == s.tarn.seq) true ≠ [] →
    Next (.consistencyCheckEnd pt) s fun t =>
      let l := s.failingRules ((s.tarn.reqSeq + 1) % 2 ^ 32 == s.tarn.seq) true
      t.tarn.state = 1 ∧ t.tarn.last = 2 ∧ t.tarn.failCount = l.length ∧ t.tarn.fails = l.take 32 ∧
        t.tarn.entries = s.tarn.entries ∧ t.cfg = s.cfg ∧ SameMem s t) ∧
  (∀ s : State, s.tarn.state = 2 → s.tarn.passed = true → Next .configurationCopyWritten s fun t =>
    t.tarn.written = true ∧ (if s.curCopy = 0 then t.cfg1 else t.cfg0) = s.candidate ∧ t.cfg = s.cfg ∧
    (s.tarn.companion = true → t.tarn.state = 4 ∧ t.drv = s.drv ∧ KeepRegs s t []) ∧
    (s.tarn.companion = false → t.tarn.state = 3 ∧ t.get Reg.weirArm = 1 ∧ t.get Reg.weirKind = 0 ∧ t.drv.searchAt = some s.now) ∧
    KeepWords s t (fun a => cfgCopy (1 - s.curCopy) ≤ a ∧
      a < cfgCopy (1 - s.curCopy) + 16 + (Config.cfgBody s.candidate).length) ∧ t.word cfgDir = s.word cfgDir)

/-- LIVE_WRITE of the lock or unlock threshold by an EXPERT in ISOLATED to SOLO changes its written copy alone and marks
the group. A LIVE_GROUP_WRITE of both fields whose result keeps the rule lock below unlock writes both; one that would
break it changes nothing. At the takeup a consistent written copy becomes the acting copy; an inconsistent one leaves
the acting copy and marks the group. What the spec leaves open here is as log entries 65 and 68 have it. Spec:
11_object_dictionary_and_staging.md (rules 287, 290, 306, 307, 308); 13_time_base_and_ptp.md (rule 343). -/
def Obligations.LiveFields : Prop :=
  (∀ (sess : Nat) (c : Caller) (v : BitVec 32) (s : State), Asks s sess c rExpert → mIsolated ≤ s.mode → s.mode ≤ mSolo →
    (10 ≤ v.toNat → v.toNat ≤ 10000 → Next (.liveWrite sess 0x3400#16 0x0E#8 (leBytes 4 v.toNat)) s fun t => Answers t sess stOk ∧
      t.live = { s.live with wLock := v.toNat, pend := true } ∧ KeepRegs s t evFlds ∧ SameMem s t) ∧
    (20 ≤ v.toNat → v.toNat ≤ 100000 → Next (.liveWrite sess 0x3400#16 0x0F#8 (leBytes 4 v.toNat)) s fun t => Answers t sess stOk ∧
      t.live = { s.live with wUnlock := v.toNat, pend := true } ∧ KeepRegs s t evFlds ∧ SameMem s t)) ∧
  (∀ (sess : Nat) (c : Caller) (v w : BitVec 32) (s : State), Asks s sess c rExpert → mIsolated ≤ s.mode → s.mode ≤ mSolo →
    10 ≤ v.toNat → v.toNat ≤ 10000 → 20 ≤ w.toNat → w.toNat ≤ 100000 →
    Next (.liveGroupWrite sess ([0x01#8, 0x04#8, 2#8, 0x00#8, 0x34#8, 0x0E#8, 4#8] ++ leBytes 4 v.toNat ++
        [0x00#8, 0x34#8, 0x0F#8, 4#8] ++ leBytes 4 w.toNat)) s fun t => SameMem s t ∧
      if v.toNat < w.toNat then Answers t sess stOk ∧ t.live = { s.live with wLock := v.toNat, wUnlock := w.toNat, pend := true }
      else Answers t sess stRange ∧ t.live = s.live) ∧
  (∀ s : State, s.live.pend = true → Next .liveFieldTakeup s fun t => t.live.pend = false ∧
    t.live.wLock = s.live.wLock ∧ t.live.wUnlock = s.live.wUnlock ∧ t.live.inconsistent = decide (s.live.wUnlock ≤ s.live.wLock) ∧
    (s.live.wLock < s.live.wUnlock → t.live.aLock = s.live.wLock ∧ t.live.aUnlock = s.live.wUnlock) ∧
    (s.live.wUnlock ≤ s.live.wLock → t.live.aLock = s.live.aLock ∧ t.live.aUnlock = s.live.aUnlock) ∧
    KeepWords s t (· = 0xFF05))

/-- A received frame that the MAC discards is counted on its port and changes nothing else; one that it accepts changes
nothing by itself. A malformed peer-data frame is counted. A peer-data frame of one word that one subscription takes,
in time and without a hop count, writes the word to the point bound to its element and notes the frame. An ARP request
for the port's address puts the answer into queue 0 of NET0 or NET1. NET_LAUNCH sends the frame that comes next and
takes it out of its queue. What the spec leaves open here is as log entries 63 and 72 have it. Spec:
12_network_ports_and_vop.md (rules 312, 313, 315, 316, 317, 321, 322, 333); 06_process_image.md (rules 154, 156). -/
def Obligations.NetworkFrames : Prop :=
  (∀ (p : Fin 3) (ok : Bool) (f : Bytes) (s : State), s.functional = true → Next (.ethernetFrameReceive p ok f) s fun t =>
    SMap.get 0 t.net.macDisc p.val = SMap.get 0 s.net.macDisc p.val + (if s.macAccepts p.val ok f then 0 else 1) ∧
    t = { s with net := { s.net with macDisc := t.net.macDisc } }) ∧
  (∀ (q : Fin 2) (g : PeerHead) (p : Bytes) (s : State), s.runtime = true →
    (peerFrameOk p = false → Next (.peerFrameReceive q g p) s fun t =>
      t = { s with net := { s.net with peerDisc := s.net.peerDisc + 1 } }) ∧
    (∀ (k : Fin 256) (b : Binding), peerFrameOk p = true → pfCount p = 1 → (pfWord p 0).reserved = false → netField p 1 1 = 0 →
      netField p 2 1 = 0 → (List.range 256).filter (fun j => s.subHit j q.val g.group p) = [k.val] → s.subSt k.val = {} →
      s.now < s.subRelease k.val p → s.bindings.filter (fun x => x.kind == bkPeerRx && x.sel == k.val && x.ofs == pfFirst p) = [b] →
      s.portHeld = false → s.forceOf b.point = none →
      Next (.peerFrameReceive q g p) s fun t => t.word b.point = pfWord p 0 ∧ KeepWords s t (· = b.point) ∧
        (t.subSt k.val).seq = some (pfIndex p) ∧ (t.subSt k.val).rels = [s.subRelease k.val p])) ∧
  (∀ (q : Fin 2) (f : Bytes) (s : State), s.runtime = true → s.macAccepts q.val true f = true → beNat f 12 2 = 0x0806 →
    beNat f 14 2 = 1 → beNat f 16 2 = 0x0800 → beNat f 20 2 = 1 → beNat f 38 4 = s.addrOf q.val → s.addrOf q.val ≠ 0 →
    Next (.arpIcmpAnswer q.castSucc f) s fun t => t.netQueue q.val = s.netQueue q.val ++ [⟨0, none, s.etherFrame q.val ((f.drop 22).take 6) 0 0x0806
      (be16 1 ++ be16 0x0800 ++ [6#8, 4#8] ++ be16 2 ++ macOf q.val ++ be32 (s.addrOf q.val) ++ (f.drop 22).take 10), []⟩] ∧
      t = { s with net := t.net }) ∧
  (∀ (q : Fin 2) (f : NetFrame) (a : Bool) (s : State), s.functional = true → s.netNext q.val = some f → ptpAt f.bytes = none →
    Next (.netLaunch q a) s fun t => t.netQueue q.val = (s.netQueue q.val).erase f ∧ t.out = s.out ++ [.net q.val f.bytes] ∧
      t = { s with net := t.net, out := t.out })

/-- A monitor window that counts what its rate calls for, with equal counter copies and a locked multiplier, clears the
run of failures; a difference of the copies is a fault with SAFE, cause 0x17. A commanded step in BOOT or ISOLATED in
a case of R345 (the first one since BOOT, an armed one, the alignment of a join) moves the time by the amount of STEPH
and STEPL, counts, is recorded and leaves no frame with a launch time queued at a port; out of BOOT and ISOLATED, and
in case 1 or 3 without its condition, it is refused and the time stays. ARM_ONE_STEP by an EXPERT in ISOLATED arms
one. A rate within 500 ppm is taken, one beyond is ignored and counted. The read of NOWSL latches seconds, nanoseconds
and fraction of one instant. What the spec leaves open here is as log entries 44, 81 and 82 have it. Spec:
13_time_base_and_ptp.md (rules 336, 337, 340, 345, 346, 356). -/
def Obligations.TimeBaseCommands : Prop :=
  (∀ s : State, s.functional = true → s.rate = 0 → s.tmb.sec = s.tmb.copySec → s.tmb.ns = s.tmb.copyNs →
    (Next (.timeMonitorWindow 1953125#32 false false) s fun t => t.get Reg.tmbMonrun = 0 ∧ t.get Reg.monDev = 0 ∧
      KeepRegs s t [Reg.monDev, Reg.tmbMonrun] ∧ t = { s with csr := t.csr }) ∧
    (s.flag Reg.tmbFault = false → s.mode ∈ [mIsolated, mSync, mStandby, mPrimary, mSolo] →
      Next (.timeMonitorWindow 1953125#32 true false) s fun t => t.flag Reg.tmbFault = true ∧ Entered t s.mode mSafe 0x17 ∧ SafeMem s t)) ∧
  (∀ (w : BitVec 32) (s : State), s.functional = true →
    ((w = 0x11#32 ∧ s.flag Reg.tmbStepped = false) ∨ (w = 0x21#32 ∧ s.alignable = true) ∨
        (w = 0x31#32 ∧ s.flag Reg.tmbArmed = true) → s.mode ∈ [mBoot, mIsolated] →
      0 ≤ (s.tmb.sec : Int) * 1000000000 + s.tmb.ns + s.getHalves Reg.tmbStepl Reg.tmbSteph →
      (s.tmb.sec : Int) * 1000000000 + s.tmb.ns + s.getHalves Reg.tmbStepl Reg.tmbSteph < 2 ^ 48 * 1000000000 →
      Next (.timeStep w) s fun t => t.now = s.now + s.getHalves Reg.tmbStepl Reg.tmbSteph ∧ t.tmb.ns < 1000000000 ∧
        t.tmb.frac = s.tmb.frac ∧ t.tmb.residue = s.tmb.residue ∧ t.get Reg.tmbStepped = 1 ∧
        t.get Reg.tmbSteps = min (s.get Reg.tmbSteps + 1) (2 ^ Reg.tmbSteps.width - 1) ∧ t.mode = s.mode ∧ Posts s t 8 ∧
        (∀ p : Fin 2, ∀ f ∈ t.netQueue p.val, f.launch = none) ∧ SameMem s t) ∧
    (w.toNat % 4 = 1 → s.mode ∉ [mBoot, mIsolated] ∨ (w.toNat / 16 % 4 = 1 ∧ s.flag Reg.tmbStepped = true) ∨
        (w.toNat / 16 % 4 = 3 ∧ s.flag Reg.tmbArmed = false) → Next (.timeStep w) s fun t => t.tmb = s.tmb ∧ t.get Reg.stepRefused = 1 ∧
      t.ptp.stepsRefused = s.ptp.stepsRefused + 1 ∧ KeepRegs s t (Reg.stepRefused :: evFlds) ∧ SameMem s t)) ∧
  (∀ (sess : Nat) (c : Caller) (s : State), Asks s sess c rExpert → s.mode = mIsolated → Next (.armOneStep sess) s fun t =>
    Answers t sess stOk ∧ t.get Reg.tmbArmed = 1 ∧ t.tmb.armClient = c.client ∧ KeepRegs s t (Reg.tmbArmed :: evFlds) ∧ SameMem s t) ∧
  (∀ (w : BitVec 32) (s : State), s.functional = true →
    (-549755813 ≤ w.toInt → w.toInt ≤ 549755813 → Next (.rateWrite w) s fun t => t.rate = w.toInt ∧ KeepRegs s t [Reg.tmbRate] ∧
      t = { s with csr := t.csr }) ∧
    (w.toInt < -549755813 ∨ 549755813 < w.toInt → Next (.rateWrite w) s fun t => t.rate = s.rate ∧
      t.get Reg.tmbRateref = min (s.get Reg.tmbRateref + 1) (2 ^ Reg.tmbRateref.width - 1) ∧ KeepRegs s t [Reg.tmbRateref])) ∧
  (∀ s : State, s.functional = true → Next .timeLatchRead s fun t => t.get Reg.nowsl = s.tmb.sec % 2 ^ 32 ∧
    t.get Reg.nowsh = s.tmb.sec / 2 ^ 32 % 2 ^ Reg.nowsh.width ∧ t.get Reg.nowns = s.tmb.ns % 2 ^ Reg.nowns.width ∧
    t.get Reg.nowfr = s.tmb.frac % 2 ^ Reg.nowfr.width ∧ KeepRegs s t [Reg.nowsl, Reg.nowsh, Reg.nowns, Reg.nowfr] ∧
    t.out = s.out ++ [.read 0xF0060001 (goodInt (s.tmb.sec % 2 ^ 32))])

/-- With PTP enabled: a Sync that does not come from the clock's master is counted on its port; Signaling and Management
messages are counted as discarded; a Delay_Req on a master port is answered through queue 3; a first Announce of
another clock enters it unqualified. After the receipt timeout a silent master is forgotten and the timeout counted.
In control a master port queues a Sync with the next multiple of the sync interval as launch time, and Announce
messages, none before its interval has passed; a port that follows a master queues Delay_Req once its least interval
has passed, each counting the sequence up. Message layouts and port states are those of IEEE 1588 (log 80). Spec:
13_time_base_and_ptp.md (rules 342, 347, 348, 349, 355); 12_network_ports_and_vop.md (rule 313). -/
def Obligations.PtpMessages : Prop :=
  (∀ (p : Fin 2) (m : Bytes) (a : Int) (s : State), s.functional = true → s.ptpReads m = true → badTlvs 64 ((m.take (beNat m 2 2)).drop (ptpLen (ptpType m))) = 0 →
    (ptpType m = 0 → s.fromParent p.val m = false → Next (.ptpMessageReceive p m a) s fun t =>
      SMap.get 0 t.ptp.syncs p.val = SMap.get 0 s.ptp.syncs p.val + 1 ∧ t = { s with ptp := { s.ptp with syncs := t.ptp.syncs } }) ∧
    (ptpType m = 12 ∨ ptpType m = 13 → Next (.ptpMessageReceive p m a) s fun t =>
      t = { s with ptp := { s.ptp with discarded := s.ptp.discarded + 1 } }) ∧
    (ptpType m = 1 → s.portState p.val = 6 → s.get Reg.ptpProfile = 0 → s.get Reg.ptpMap = 0 → Next (.ptpMessageReceive p m a) s fun t =>
      t.netQueue p.val = s.netQueue p.val ++ [⟨3, none, s.etherFrame p.val [0x01#8, 0x1B#8, 0x19#8, 0#8, 0#8, 0#8] (s.get Reg.ptpPcp) 0x88F7
        (s.ptpMsg p.val 9 0 (ptpCorr m) (ptpSeq m) 3 s.logDelay (ptpStamp (s.rxStamp p.val a) ++ (m.drop 20).take 10)), []⟩] ∧
      t = { s with net := t.net, free := t.free }) ∧
    (ptpType m = 11 → ptpSrc m / 65536 ≠ clockId → (beNat m 7 1).testBit 3 = true → beNat m 61 2 < 255 →
      (∀ x ∈ s.ptp.masters, x.port = p.val → x.ident ≠ ptpSrc m) → Next (.ptpMessageReceive p m a) s fun t =>
      ∃ x, t.ptp.masters = s.ptp.masters ++ [x] ∧ x.port = p.val ∧ x.ident = ptpSrc m ∧ x.qual = false ∧ x.at_ = s.now ∧
        x.rank.take 2 = [beNat m 47 1, beNat m 48 1] ∧ t.tmb = s.tmb ∧ SameMem s t)) ∧
  (∀ (p : Fin 2) (x : Master) (s : State), s.functional = true → s.flag Reg.ptpEn = true → s.ptp.masters = [x] → x.port = p.val →
    x.at_ + s.cfgNat 0x3400 4 3 * s.announceNs ≤ s.now → Next (.announceReceiptTimeout p) s fun t =>
      t.ptp.masters = [] ∧ t.ptp.timeouts = s.ptp.timeouts + 1 ∧ t.now = s.now ∧ t.mode = s.mode) ∧
  (∀ (p : Fin 2) (s : State), s.inControl = true → s.portState p.val = 6 →
    (0 < s.syncNs → s.syncNs ≤ 2000000000 → (∀ f ∈ s.netQueue p.val, f.queue ≠ 3 ∨ f.launch = none) → Next (.syncTransmit p) s fun t =>
      ∃ (f : NetFrame) (a : Int), t.netQueue p.val = s.netQueue p.val ++ [f] ∧ f.queue = 3 ∧ f.launch = some a ∧ a % s.syncNs = 0 ∧ s.now ≤ a ∧
        a < s.now + s.syncNs ∧ t.ptp.seq = (s.ptp.seq + 1) % 65536 ∧ t = { s with net := t.net, ptp := t.ptp, free := t.free }) ∧
    (s.intervalOver s.ptp.annAt p.val s.announceNs = true → Next (.announceTransmit p) s fun t => ∃ f : NetFrame,
      t.netQueue p.val = s.netQueue p.val ++ [f] ∧ f.queue = 3 ∧ f.launch = none ∧ t.ptp.seq = (s.ptp.seq + 1) % 65536 ∧
      KeepRegs s t ([Reg.ptpPort 0, Reg.ptpPort 1, Reg.ptpGml, Reg.ptpGmh, Reg.ptpUtc, Reg.ptpUtcValid] ++ evFlds) ∧
      t = { s with csr := t.csr, evr := t.evr, net := t.net, ptp := t.ptp, free := t.free }) ∧
    (s.intervalOver s.ptp.annAt p.val s.announceNs = false → Next (.announceTransmit p) s fun t => t = s)) ∧
  (∀ (p : Fin 2) (s : State), s.functional = true → s.flag Reg.ptpEn = true → s.portState p.val ∈ [8, 9] → s.get Reg.ptpProfile = 0 →
    s.get Reg.ptpMap = 0 → s.intervalOver s.ptp.reqAt p.val (logNs s.logDelay) = true → Next (.delayRequestTransmit p) s fun t => t.ptp.seq = (s.ptp.seq + 1) % 65536 ∧
      t.netQueue p.val = s.netQueue p.val ++ [⟨3, none, s.etherFrame p.val [0x01#8, 0x1B#8, 0x19#8, 0#8, 0#8, 0#8] (s.get Reg.ptpPcp) 0x88F7
        (s.ptpMsg p.val 1 0 (-(s.asym p.val) * 65536) ((s.ptp.seq + 1) % 65536) 1 127 (List.replicate 10 0#8)), []⟩] ∧
      t = { s with net := t.net, ptp := t.ptp, free := t.free })

/-- A ClientHello without a cookie is answered with a HelloRetryRequest and leaves nothing. A handshake with a cookie that
meets its rules opens a session with the next number and the certificate's client identity; where no anchor is held on
NETS in ISOLATED, the certificate becomes the anchor and the session may take EXPERT. SESSION_OPEN fixes the role that
it asks for, up to that limit. KEEPALIVE is answered and keeps the session. EVENT_READ at the head of the ring answers
the cursor with END. The idle timeout closes exactly the sessions silent for the limit; the segment timeout drops the
transfer after 10 s. What the spec leaves open here is as log entries 73, 74, 75 and 76 have it. Spec:
12_network_ports_and_vop.md (rules 323, 324, 325, 326, 327, 328, 330); 19_power_states_and_life_cycle.md (rule 472);
18_event_recorder.md (rules 450, 451). -/
def Obligations.VopSessions : Prop :=
  (∀ (p : Fin 3) (cert : Bytes) (s : State), s.vopServed p.val = true → s.net.sessions.length < 8 →
    (s.lcs.anchor = [] ∨ Config.certChains s.lcs.anchor cert = true) → Next (.dtlsHandshake p true true cert) s fun t =>
      t.net.nextSession = s.net.nextSession + 1 ∧ t.lcs.anchor = (if s.lcs.anchor = [] then cert else s.lcs.anchor) ∧
      (∃ x, t.net.sessions = s.net.sessions ++ [x] ∧ x.id = s.net.nextSession ∧ x.port = p.val ∧ x.client = clientOf cert ∧
        x.role = none ∧ x.lastReq = s.now ∧ x.maxRole = if s.lcs.anchor = [] then rExpert else 0) ∧ SameMem s t) ∧
  (∀ (p : Fin 3) (ok : Bool) (cert : Bytes) (s : State), (Next (.dtlsHandshake p false ok cert) s fun t => t = if s.vopServed p.val then s.emit (.hello p.val) else s) ∧
    (s.vopServed p.val = true → Next (.dtlsHandshake p true false cert) s fun t => t.net.sessions = s.net.sessions ∧
      t.net.hsRefused = s.net.hsRefused + 1 ∧ KeepRegs s t evFlds ∧ SameMem s t)) ∧
  (∀ (r : VopReq) (x : Session) (v : Fin 4) (s : State), Serves s r x → r.index = 0#16 → r.sub = 0#8 →
    (x.role = none → x.maxRole = rExpert → r.data = [BitVec.ofNat 8 v.val] → Next (.sessionOpen r) s fun t =>
      Responds t 6 r stOk (leBytes 8 x.client ++ [BitVec.ofNat 8 v.val]) ∧
      (∀ y ∈ t.net.sessions, y.id = r.sess → y.role = some v.val ∧ y.lastReq = s.now) ∧ SameMem s t) ∧
    (x.role.isSome = true → r.sess ≠ 0 → r.data = [] → Next (.keepalive r) s fun t => Responds t 8 r stOk [] ∧
      (∀ y ∈ t.net.sessions, y.id = r.sess → y.lastReq = s.now) ∧ t = { s with net := t.net, out := t.out, free := t.free }) ∧
    (x.role.isSome = true → r.sess ≠ 0 → s.get Reg.evrHead = s.get Reg.evrTail → s.get Reg.evrHead < 2 ^ 32 →
      r.data = leBytes 4 (s.get Reg.evrHead) ++ [0#8, 0#8, 0xFF#8, 0xFF#8, 3#8, 0#8, 0#8, 0#8] → Next (.eventRead r) s fun t =>
        Responds t 7 r stOk (leBytes 4 (s.get Reg.evrHead) ++ [0#8, 0#8, 2#8, 0#8]) ∧ t = { s with net := t.net, out := t.out, free := t.free })) ∧
  (∀ s : State, Next .sessionIdleTimeout s fun t => t.net.sessions =
      s.net.sessions.filter (fun x => decide (s.now < x.lastReq + s.odNat 0x1100 2 * 1000000000)) ∧ t.mode = s.mode ∧ SameMem s t) ∧
  (∀ (x : Transfer) (s : State), s.net.transfer = some x → x.at_ + 10000000000 ≤ s.now → Next .segmentTimeout s fun t =>
    t.net.transfer = none ∧ t.net.sessions = s.net.sessions ∧ SameMem s t)

/-- A READ with no data answers the object's value, or the refusal's status, and changes only the session; of OD 3400h.0E
it answers the written lock threshold. A WRITE of OD 3400h.0E by an EXPERT writes the threshold; a WRITE of a staged
object puts it into the Tarn. SEG_INIT of an object that may be written begins the one transfer. SEG_DATA at the next
offset appends its bytes. SEG_END of a complete program image stores the file in the flash slot of the idle program
slot, which is then no longer marked (R266). What the spec leaves open here is as log entries 65 and 78 have it. Spec:
11_object_dictionary_and_staging.md (rules 286, 287, 288, 290); 12_network_ports_and_vop.md (rules 326, 329, 330);
07_program_exchange_and_restart.md (rule 174). -/
def Obligations.VopAccess : Prop :=
  (∀ (r : VopReq) (x : Session) (b : Bytes) (s : State), Serves s r x → x.role.isSome = true → r.sess ≠ 0 → r.data = [] →
    (∀ u : State, u = (s.setSession x.id fun y => { y with lastReq := s.now }) →
      (u.odRead r.index.toNat r.sub.toNat = .ok b → b.length ≤ 1024 → Next (.read r) s fun t => Responds t 1 r stOk b ∧
        t = { s with net := t.net, out := t.out, free := t.free }) ∧
      (∀ e, u.odRead r.index.toNat r.sub.toNat = .error e → Next (.read r) s fun t => Responds t 1 r e [] ∧
        t = { s with net := t.net, out := t.out, free := t.free })) ∧
    (r.index = 0x3400#16 → r.sub = 0x0E#8 → Next (.read r) s fun t => Responds t 1 r stOk (leBytes 4 s.live.wLock) ∧
      t = { s with net := t.net, out := t.out, free := t.free })) ∧
  (∀ (r : VopReq) (x : Session) (v : BitVec 32) (s : State), Serves s r x → x.role = some rExpert → r.sess ≠ 0 → s.lcsHolds = false →
    s.mode ∈ [mIsolated, mPrimary, mSolo] →
    (r.index = 0x3400#16 → r.sub = 0x0E#8 → r.data = leBytes 4 v.toNat → 10 ≤ v.toNat → v.toNat ≤ 10000 → Next (.write r) s fun t =>
      Responds t 2 r stOk [] ∧ t.live = { s.live with wLock := v.toNat, pend := true } ∧ KeepRegs s t evFlds ∧ SameMem s t) ∧
    (r.index = 0x3000#16 → r.sub = 0x12#8 → r.data = [5#8] → s.tarn.state < 2 → s.tarn.entries = [] → Next (.write r) s fun t =>
      Responds t 2 r stOk [] ∧ t.tarn.state = 1 ∧ t.tarn.entries = [⟨0x3000, 0x12, [5#8], x.client, s.now⟩] ∧ t.cfg = s.cfg ∧
      KeepRegs s t [] ∧ SameMem s t)) ∧
  (∀ (r : VopReq) (x : Session) (n : BitVec 32) (s : State), Serves s r x → x.role = some rExpert → r.sess ≠ 0 → s.lcsHolds = false →
    s.mode = mIsolated → r.index = 0x2B00#16 → r.sub = 4#8 →
    (r.data = leBytes 4 n.toNat → n ≠ 0#32 → s.net.transfer = none → s.flag Reg.xchFree = true → s.get Reg.xchState < 4 → Next (.segInit r) s fun t =>
      Responds t 3 r stOk [] ∧ t.net.transfer = some ⟨r.sess, 0x2B00, 4, n.toNat, [], 0, s.now⟩ ∧ t.get Reg.xchState = 1 ∧
      KeepRegs s t [Reg.xchState, Reg.xchFree] ∧ SameMem s t) ∧
    (∀ y : Transfer, s.net.transfer = some y → y.session = r.sess → y.index = 0x2B00 → y.sub = 4 →
      (5 ≤ r.data.length → r.data.length ≤ 1020 → leNat (r.data.take 4) = y.got.length → y.got.length + (r.data.length - 4) ≤ y.total →
        Next (.segData r) s fun t => Responds t 4 r stOk [] ∧ KeepRegs s t [] ∧ SameMem s t ∧
          t.net.transfer = some { y with got := y.got ++ r.data.drop 4, at_ := s.now }) ∧
      (r.data = [] → y.got.length = y.total → Next (.segEnd r) s fun t => Responds t 5 r stOk [] ∧ t.net.transfer = none ∧
        t.flashImage s.idleSlot = y.got ∧ t.flashImage (1 - s.idleSlot) = s.flashImage (1 - s.idleSlot) ∧
        KeepRegs s t [Reg.xchState, Reg.xchFree, Reg.syncDs, Reg.syncDr] ∧ KeepWords s t (· = spHealth))))

/-- On the channel that serves VOP-C in control, with the request identifier and 64 bytes: a SINGLE frame that holds a
whole KEEPALIVE request is answered by one SINGLE frame of 64 bytes with the response, under the response identifier.
FIRST begins a message of its length. A CONSECUTIVE frame in sequence within 100 ms adds its 63 bytes, one out of
sequence discards the message. ABORT discards it, and so does a gap of more than 100 ms. On another channel, and with
another identifier or length, nothing happens. What the spec leaves open here is as log entries 76 and 77 have it.
Spec: 12_network_ports_and_vop.md (rules 326, 331, 332). -/
def Obligations.VopOverCan : Prop :=
  (∀ (ch : Fin 16) (f : VopcFrame) (i j : BitVec 8) (w o : Nat) (s : State),
    (s.vopcOn ch.val = true → f.id.toNat = s.odNat 0x1120 2 → f.bytes.length = 64 → w < 64 → o < 4 → s.net.vopcKept.find? (fun e => e.1 == i.toNat + 256 * j.toNat) = none →
      f.bytes.take 14 = [0#8, 12#8, 1#8, 8#8, i, j, 0#8, 0#8, 0#8, 0#8, 0#8, 0#8, 0#8, 0#8] → Next (.single ch f w o) s fun t =>
        (∃ l : Bytes, t.out = s.out ++ [.vopc ch.val (s.odNat 0x1120 3) [l]] ∧ l.length = 64 ∧
          l.take 14 = [0#8, 12#8, 1#8, 136#8, i, j, 0#8, 0#8, 0#8, 0#8, 0#8, 0#8, 0#8, 0#8]) ∧ t.net.vopc = none ∧
        t = { s with net := t.net, out := t.out, free := t.free }) ∧
    (s.vopcOn ch.val = true → f.id.toNat = s.odNat 0x1120 2 → f.bytes.length = 64 → (f.bytes.getD 0 0#8).toNat = 0x40 →
      63 ≤ leNat ((f.bytes.drop 1).take 2) → leNat ((f.bytes.drop 1).take 2) ≤ 1036 → Next (.first ch f) s fun t =>
        t = { s with net := { s.net with vopc := some ⟨leNat ((f.bytes.drop 1).take 2), f.bytes.drop 3, 1, s.now⟩ } }) ∧
    (s.vopcOn ch.val = true → f.id.toNat = s.odNat 0x1120 2 → f.bytes.length = 64 → (f.bytes.getD 0 0#8).toNat = 0xC0 →
      Next (.abort ch f) s fun t => t = { s with net := { s.net with vopc := none } }) ∧
    (s.vopcOn ch.val = false ∨ f.id.toNat ≠ s.odNat 0x1120 2 ∨ f.bytes.length ≠ 64 → (Next (.single ch f w o) s fun t => t = s) ∧ (Next (.first ch f) s fun t => t = s) ∧
      (Next (.consecutive ch f w o) s fun t => t = s) ∧ (Next (.abort ch f) s fun t => t = s))) ∧
  (∀ (ch : Fin 16) (f : VopcFrame) (w o : Nat) (x : VopcRx) (s : State), s.net.vopc = some x → s.vopcOn ch.val = true →
    f.id.toNat = s.odNat 0x1120 2 → (f.bytes.getD 0 0#8).toNat / 64 = 2 → x.at_ ≤ s.now → s.now ≤ x.at_ + 100000000 →
    f.bytes.length = 64 →
    ((f.bytes.getD 0 0#8).toNat % 64 = x.next % 64 → x.got.length + 63 < x.total → Next (.consecutive ch f w o) s fun t =>
      t = { s with net := { s.net with vopc := some { x with got := x.got ++ f.bytes.drop 1, next := x.next + 1, at_ := s.now } } }) ∧
    ((f.bytes.getD 0 0#8).toNat % 64 ≠ x.next % 64 → Next (.consecutive ch f w o) s fun t =>
      t = { s with net := { s.net with vopc := none } })) ∧
  (∀ (x : VopcRx) (s : State), s.net.vopc = some x → x.at_ + 100000000 < s.now → Next .vopcFrameGapTimeout s fun t =>
    t = { s with net := { s.net with vopc := none } })

/-- In a listening channel a remote frame is counted, a frame that no filter element accepts is counted, and the first
accepting element decides: it rejects the frame, or the receive object it names takes DLC, ESI, stamp (SOF minus 120
ns), data and NEW, with OVR where NEW was set; a locked object's frame goes to the hold buffer. A read of MOCTL locks
the selected object and shows its control word; a read of its last word releases the lock and clears NEW and OVR;
selecting an object or 100 us release the lock and are counted. What the spec leaves open here is as log entry 84 has
it. Spec: 14_can_fd_channels.md (rules 366, 367, 368, 370, 378, 383). -/
def Obligations.CanReception : Prop :=
  (∀ (n : Fin 16) (f : CanFrame) (sof : Int) (s : State), s.canOn n.val = true → (s.chan n.val).inTx = none → s.get (Reg.canMode n.val) = 2 →
    (f.rtr = true → Next (.canFrameReceive n f sof) s fun t => Counts s t (Reg.canCnt n.val 6) ∧ t.get (Reg.canIdle n.val) = 0 ∧
      KeepRegs s t [Reg.canCnt n.val 6, Reg.canIdle n.val] ∧ t = { s with csr := t.csr }) ∧
    (f.rtr = false → (∀ k : Fin 128, s.filterMatch n.val k.val f = false) → Next (.canFrameReceive n f sof) s fun t =>
      Counts s t (Reg.canCnt n.val 2) ∧ t.get (Reg.canIdle n.val) = 0 ∧
      KeepRegs s t [Reg.canCnt n.val 2, Reg.canIdle n.val] ∧ t = { s with csr := t.csr })) ∧
  (∀ (n : Fin 16) (f : CanFrame) (e : Fin 128) (sof : Int) (s : State), s.canOn n.val = true → (s.chan n.val).inTx = none → s.get (Reg.canMode n.val) = 2 →
    f.rtr = false → s.filterMatch n.val e.val f = true → (∀ k : Fin 128, k.val < e.val → s.filterMatch n.val k.val f = false) →
    (s.flag (Reg.fctlReject n.val e.val) = true → Next (.canFrameReceive n f sof) s fun t =>
      t.get (Reg.canIdle n.val) = 0 ∧ KeepRegs s t [Reg.canIdle n.val] ∧ t = { s with csr := t.csr }) ∧
    (s.flag (Reg.fctlReject n.val e.val) = false → s.flag (Reg.fctlUrgent n.val e.val) = false →
      ((s.chan n.val).obj (s.get (Reg.fctlObj n.val e.val))).dir = 1 →
      (s.bindings.filter fun b => b.kind == bkCanRx && b.ch == n.val && b.sel == s.get (Reg.fctlObj n.val e.val)) = [] →
      ((s.chan n.val).lock = none → Next (.canFrameReceive n f sof) s fun t => OneObj s t n (s.get (Reg.fctlObj n.val e.val)) ∧
        (t.chan n.val).obj (s.get (Reg.fctlObj n.val e.val)) = { (s.chan n.val).obj (s.get (Reg.fctlObj n.val e.val)) with
          rxDlc := f.dlc.toNat, esi := f.esi, stamp := sof - 120, data := frameBytes f, isNew := true,
          ovr := ((s.chan n.val).obj (s.get (Reg.fctlObj n.val e.val))).ovr || ((s.chan n.val).obj (s.get (Reg.fctlObj n.val e.val))).isNew } ∧
        t.chan n.val = { s.chan n.val with objs := (t.chan n.val).objs } ∧ Counts s t (Reg.canCnt n.val 0) ∧
        (((s.chan n.val).obj (s.get (Reg.fctlObj n.val e.val))).isNew = true → Counts s t (Reg.canCnt n.val 3)) ∧
        (((s.chan n.val).obj (s.get (Reg.fctlObj n.val e.val))).isNew = false → t.get (Reg.canCnt n.val 3) = s.get (Reg.canCnt n.val 3)) ∧
        KeepRegs s t (Reg.canIdle n.val :: Reg.canCnt n.val 0 :: Reg.canCnt n.val 3 :: chanFlds n.val)) ∧
      (∀ l : CanLock, (s.chan n.val).lock = some l → l.obj = s.get (Reg.fctlObj n.val e.val) →
        Next (.canFrameReceive n f sof) s fun t => t.chan n.val = { s.chan n.val with hold := some (f, sof - 120, (s.chan n.val).hold.isSome) } ∧
          OneObj s t n 256 ∧ t.flag (Reg.canHold n.val) = true ∧ KeepRegs s t (Reg.canIdle n.val :: chanFlds n.val)))) ∧
  (∀ (n : Fin 16) (v : BitVec 8) (s : State), s.functional = true →
    ((s.chan n.val).lock = none → Next (.objectSelect n v) s fun t => t.get (Reg.moselObj n.val) = v.toNat ∧
      KeepRegs s t [Reg.moselObj n.val] ∧ t = { s with csr := t.csr }) ∧
    ((s.chan n.val).lock ≠ none → (s.chan n.val).hold = none → Next (.objectSelect n v) s fun t => t.get (Reg.moselObj n.val) = v.toNat ∧
      t.chan n.val = { s.chan n.val with lock := none } ∧ Counts s t (Reg.canCnt n.val 10) ∧ t.flag (Reg.canLock n.val) = false ∧
      OneObj s t n 256 ∧ KeepRegs s t (Reg.moselObj n.val :: Reg.canCnt n.val 10 :: chanFlds n.val)) ∧
    ((s.chan n.val).lock = none → Next (.objectLockRead n) s fun t =>
      t.chan n.val = { s.chan n.val with lock := some ⟨s.get (Reg.moselObj n.val), s.now, (s.chan n.val).obj (s.get (Reg.moselObj n.val))⟩ } ∧
      t.out = s.out ++ [.read (Reg.canBase n.val + 0x21) (goodInt (((s.chan n.val).obj (s.get (Reg.moselObj n.val))).windowWord 0x21))] ∧
      t.flag (Reg.canLock n.val) = true ∧ t.get (Reg.canLockobj n.val) = s.get (Reg.moselObj n.val) % 256 ∧
      KeepRegs s t (chanFlds n.val) ∧ t = { s with csr := t.csr, can := t.can, out := t.out })) ∧
  (∀ (n : Fin 16) (l : CanLock) (s : State), s.functional = true → (s.chan n.val).lock = some l → (s.chan n.val).hold = none →
    (l.obj = s.get (Reg.moselObj n.val) → ((s.chan n.val).obj l.obj).dir = 1 → Next (.objectLastWordRead n) s fun t =>
      (t.chan n.val).lock = none ∧ (t.chan n.val).obj l.obj = { (s.chan n.val).obj l.obj with isNew := false, ovr := false } ∧
      (∀ k : Fin 256, k.val ≠ l.obj → (t.chan n.val).obj k.val = (s.chan n.val).obj k.val) ∧
      t.out = s.out ++ [.read (Reg.canBase n.val + l.view.lastOfs) (goodInt (l.view.windowWord l.view.lastOfs))] ∧
      KeepRegs s t (chanFlds n.val) ∧ t = { s with csr := t.csr, can := t.can, out := t.out }) ∧
    (l.at_ + 100000 ≤ s.now → Next (.objectLockTimeout n) s fun t => t.chan n.val = { s.chan n.val with lock := none } ∧
      Counts s t (Reg.canCnt n.val 10) ∧ OneObj s t n 256 ∧ KeepRegs s t (Reg.canCnt n.val 10 :: chanFlds n.val)) ∧
    (s.now < l.at_ + 100000 → Next (.objectLockTimeout n) s fun t => t = s))

/-- QUEUE takes the post at the head of the FIFO and makes its transmit object pending with the post's data and launch
time, counting a frame it replaces; behind a frame in transmission it waits. WITHDRAW clears what has not started. A
post to another object, or out of normal state, is discarded and counted; a launch more than 2 s ahead is refused and
counted. At the start of arbitration the channel offers, of the eligible frames that are the first of their launch
time in queue order, the one that wins. On departure PEND clears, the object takes the stamp of its SOF edge and the
count goes up. What the spec leaves open here is as log entry 84 has it. Spec: 14_can_fd_channels.md (rules 373, 374,
375, 378); 13_time_base_and_ptp.md (rule 355). -/
def Obligations.CanTransmission : Prop :=
  (∀ (n : Fin 16) (p : CanPost) (l : List CanPost) (s : State), (s.chan n.val).posts = p :: l → p.action = 1 →
    s.get (Reg.canMode n.val) = 3 → ((s.chan n.val).obj p.obj).dir = 2 →
    (p.launch ≤ s.now + 2000000000 → (s.chan n.val).inTx ≠ some p.obj → Next (.queue n) s fun t =>
      (t.chan n.val).posts = l ∧ OneObj s t n p.obj ∧ (t.chan n.val).obj p.obj = { (s.chan n.val).obj p.obj with
        pend := true, launch := p.launch, ord := (s.chan n.val).queued,
        data := p.data.take (dlcBytes ((s.chan n.val).obj p.obj).fdf ((s.chan n.val).obj p.obj).dlc) } ∧
      (t.chan n.val).queued = (s.chan n.val).queued + 1 ∧
      (((s.chan n.val).obj p.obj).pend = true → Counts s t (Reg.canCnt n.val 8)) ∧
      (((s.chan n.val).obj p.obj).pend = false → t.get (Reg.canCnt n.val 8) = s.get (Reg.canCnt n.val 8)) ∧
      KeepRegs s t (Reg.canCnt n.val 8 :: chanFlds n.val)) ∧
    (p.launch ≤ s.now + 2000000000 → (s.chan n.val).inTx = some p.obj → Next (.queue n) s fun t =>
      (t.chan n.val).posts = l ∧ OneObj s t n p.obj ∧ (t.chan n.val).obj p.obj = { (s.chan n.val).obj p.obj with
        behind := some (p.launch, p.data.take (dlcBytes ((s.chan n.val).obj p.obj).fdf ((s.chan n.val).obj p.obj).dlc)), ord := (s.chan n.val).queued } ∧
      (t.chan n.val).queued = (s.chan n.val).queued + 1 ∧
      KeepRegs s t (chanFlds n.val)) ∧
    (s.now + 2000000000 < p.launch → Next (.queue n) s fun t => t.chan n.val = { s.chan n.val with posts := l } ∧
      t.launchRefused = s.launchRefused + 1 ∧ KeepRegs s t (chanFlds n.val) ∧ SameMem s t)) ∧
  (∀ (n : Fin 16) (p : CanPost) (l : List CanPost) (s : State), (s.chan n.val).posts = p :: l → p.action = 2 →
    s.get (Reg.canMode n.val) = 3 → ((s.chan n.val).obj p.obj).dir = 2 → Next (.withdraw n) s fun t =>
      (t.chan n.val).posts = l ∧ OneObj s t n p.obj ∧ KeepRegs s t (chanFlds n.val) ∧
      ((s.chan n.val).inTx ≠ some p.obj → (t.chan n.val).obj p.obj = { (s.chan n.val).obj p.obj with pend := false }) ∧
      ((s.chan n.val).inTx = some p.obj → (t.chan n.val).obj p.obj = { (s.chan n.val).obj p.obj with behind := none })) ∧
  (∀ (n : Fin 16) (p : CanPost) (l : List CanPost) (i : Instr) (s : State), (s.chan n.val).posts = p :: l →
    (i, p.action) ∈ [(Instr.queue n, 1), (Instr.withdraw n, 2)] →
    s.get (Reg.canMode n.val) ≠ 3 ∨ ((s.chan n.val).obj p.obj).dir ≠ 2 → Next i s fun t =>
      t.chan n.val = { s.chan n.val with posts := l } ∧ Counts s t (Reg.canCnt n.val 9) ∧ OneObj s t n 256 ∧
      KeepRegs s t (Reg.canCnt n.val 9 :: chanFlds n.val)) ∧
  (∀ (n : Fin 16) (o : Nat) (b : CanObj) (s : State), s.canOn n.val = true → s.get (Reg.canMode n.val) = 3 →
    s.get (Reg.canState n.val) < 2 → (s.chan n.val).inTx = none → (o, b) ∈ (s.chan n.val).objs →
    FirstQueued s (s.chan n.val).objs (o, b) →
    (∀ e ∈ (s.chan n.val).objs, FirstQueued s (s.chan n.val).objs e → e = (o, b) ∨ b.arbKey < e.2.arbKey) → Next (.canArbitrationStart n) s fun t =>
      t.chan n.val = { s.chan n.val with inTx := some o } ∧ t.out = s.out ++ [.can n.val (s.canFrameOf n.val b)] ∧
      t.get (Reg.canIdle n.val) = 0 ∧ KeepRegs s t (Reg.canIdle n.val :: chanFlds n.val) ∧
      t = { s with csr := t.csr, can := t.can, out := t.out }) ∧
  (∀ (n : Fin 16) (o : Nat) (sof : Int) (s : State), (s.chan n.val).inTx = some o → s.get (Reg.canMode n.val) = 3 →
    s.get (Reg.canState n.val) = 0 → s.get (Reg.canTec n.val) < 128 → s.flag (Reg.canRp n.val) = false →
    Next (.canTransmitComplete n sof) s fun t => (t.chan n.val).inTx = none ∧ OneObj s t n o ∧
      (((s.chan n.val).obj o).behind = none → (t.chan n.val).obj o = { (s.chan n.val).obj o with pend := false, stamp := sof - 120 }) ∧
      (∀ (a : Int) (d : Bytes), ((s.chan n.val).obj o).behind = some (a, d) →
        (t.chan n.val).obj o = { (s.chan n.val).obj o with pend := true, stamp := sof - 120, launch := a, data := d, behind := none }) ∧
      Counts s t (Reg.canCnt n.val 1) ∧ t.get (Reg.canTec n.val) = s.get (Reg.canTec n.val) - 1 ∧
      KeepRegs s t (Reg.canCnt n.val 1 :: Reg.canTec n.val :: chanFlds n.val))

/-- An error in a listening channel is counted and sets the last error of its phase. In normal state the receive counter
goes up; a transmit error from 248 on makes the channel bus-off: the pending frames are discarded, the state is
recorded as an event, and CAN12 to CAN15 start recovery at once. RECOVER, or an expired recovery delay, starts
recovery on CAN0 to CAN11 while bus-off and is otherwise ignored. After 128 x 11 bit times the channel is error active
with both counters 0. RECOVER reads 1 from its write until the recovery ends. At a bus idle new timing is taken, and a
channel of a module in control enters normal state with its counters 0. What the spec leaves open here is as log entry
83 has it. Spec: 14_can_fd_channels.md (rules 360, 364, 377, 379, 380). -/
def Obligations.CanErrors : Prop :=
  (∀ (n : Fin 16) (e : CanErr) (s : State), s.canOn n.val = true → (s.chan n.val).inTx = none →
    (s.get (Reg.canMode n.val) = 2 → Next (.canError n e) s fun t => Counts s t (Reg.canCnt n.val 5) ∧
      t.get (if e.data then Reg.canDlec n.val else Reg.canLec n.val) = e.code.toNat ∧
      KeepRegs s t [Reg.canCnt n.val 5, if e.data then Reg.canDlec n.val else Reg.canLec n.val] ∧ t = { s with csr := t.csr }) ∧
    (s.get (Reg.canMode n.val) = 3 → s.get (Reg.canState n.val) = 0 → s.get (Reg.canTec n.val) < 128 → s.flag (Reg.canRp n.val) = false →
      s.get (Reg.canRec n.val) < 127 → e.count = .rec1 → Next (.canError n e) s fun t =>
        t.get (Reg.canRec n.val) = s.get (Reg.canRec n.val) + 1 ∧
        t.get (if e.data then Reg.canDlec n.val else Reg.canLec n.val) = e.code.toNat ∧
        KeepRegs s t [Reg.canRec n.val, if e.data then Reg.canDlec n.val else Reg.canLec n.val] ∧ t = { s with csr := t.csr }) ∧
    (s.get (Reg.canMode n.val) = 3 → s.get (Reg.canState n.val) < 2 → 248 ≤ s.get (Reg.canTec n.val) → e.count = .tec8 →
      Next (.canError n e) s fun t =>
        t.get (Reg.canState n.val) = (if s.get (Reg.canClass n.val) = 1 then 3 else 2) ∧ (t.chan n.val).busOffAt = some s.now ∧
        (∀ k : Fin 256, ((t.chan n.val).obj k.val).pend = false) ∧ (∀ m : Fin 16, m ≠ n → t.chan m.val = s.chan m.val) ∧
        Counts s t (Reg.canCnt n.val 4) ∧ Posts s t 10 ∧ KeepWords s t (· = spCan n.val) ∧
        KeepRegs s t (Reg.canState n.val :: Reg.canRecover n.val :: Reg.canTec n.val :: Reg.canDlec n.val :: Reg.canLec n.val :: Reg.canCnt n.val 4 ::
          Reg.canCnt n.val 9 :: Reg.syncDs :: Reg.syncDr :: chanFlds n.val ++ evFlds))) ∧
  (∀ (n : Fin 16) (i : Instr) (a : Int) (s : State), (s.chan n.val).busOffAt = some a →
    s.cfgNat (0x8001 + 16 * n.val) 0x0B 0 ≠ 0 → a + s.cfgNat (0x8001 + 16 * n.val) 0x0B 0 * 1000000 ≤ s.now →
    i ∈ [Instr.recover n, Instr.recoveryDelayExpiry n] →
    (s.get (Reg.canClass n.val) = 0 → s.get (Reg.canState n.val) = 2 → Next i s fun t => t.get (Reg.canState n.val) = 3 ∧ t.flag (Reg.canRecover n.val) = true ∧
      t.chan n.val = { s.chan n.val with recovAt := some s.tmb.raw } ∧ (∀ m : Fin 16, m ≠ n → t.chan m.val = s.chan m.val) ∧ Posts s t 10 ∧
      KeepRegs s t (Reg.canState n.val :: Reg.canRecover n.val :: Reg.syncDs :: Reg.syncDr :: chanFlds n.val ++ evFlds) ∧ KeepWords s t (· = spCan n.val)) ∧
    (s.get (Reg.canClass n.val) ≠ 0 ∨ s.get (Reg.canState n.val) ≠ 2 → Next i s fun t => t = s)) ∧
  (∀ (n : Fin 16) (s : State), (s.chan n.val).busOffAt = none ∨ s.cfgNat (0x8001 + 16 * n.val) 0x0B 0 = 0 →
    Next (.recoveryDelayExpiry n) s fun t => t = s) ∧
  (∀ (n : Fin 16) (a : Nat) (s : State), (s.chan n.val).recovAt = some a → s.get (Reg.canState n.val) = 3 →
    (a + 1408 * canBitTicks (s.chan n.val).nbt ≤ s.tmb.raw → Next (.busOffRecoveryComplete n) s fun t =>
      t.get (Reg.canState n.val) = 0 ∧ t.get (Reg.canTec n.val) = 0 ∧ t.get (Reg.canRec n.val) = 0 ∧ t.flag (Reg.canRp n.val) = false ∧
      t.flag (Reg.canRecover n.val) = false ∧
      t.chan n.val = { s.chan n.val with busOffAt := none, recovAt := none } ∧ (∀ m : Fin 16, m ≠ n → t.chan m.val = s.chan m.val) ∧
      Posts s t 10 ∧ KeepWords s t (· = spCan n.val) ∧
      KeepRegs s t (Reg.canState n.val :: Reg.canRecover n.val :: Reg.canTec n.val :: Reg.canRec n.val :: Reg.canRp n.val :: Reg.syncDs :: Reg.syncDr :: chanFlds n.val ++ evFlds)) ∧
    (s.tmb.raw < a + 1408 * canBitTicks (s.chan n.val).nbt → Next (.busOffRecoveryComplete n) s fun t => t = s)) ∧
  (∀ (n : Fin 16) (s : State), 2 ≤ s.get (Reg.canMode n.val) → (s.chan n.val).inTx = none →
    Next (.canBusIdleSwitch n) s fun t => t.get (Reg.canIdle n.val) = 1 ∧ (t.chan n.val).toNormal = false ∧
      (t.chan n.val).newTiming = false ∧ (t.chan n.val).integrating = (s.chan n.val).newTiming ∧ (t.chan n.val).objs = (s.chan n.val).objs ∧
      ((t.chan n.val).nbt, (t.chan n.val).dbt, (t.chan n.val).tdco) =
        (if (s.chan n.val).newTiming then s.timingWords n.val else ((s.chan n.val).nbt, (s.chan n.val).dbt, (s.chan n.val).tdco)) ∧
      ((s.chan n.val).toNormal = true → t.get (Reg.canMode n.val) = 3 ∧ t.get (Reg.canTec n.val) = 0 ∧ t.get (Reg.canRec n.val) = 0 ∧
        t.get (Reg.canState n.val) = 0) ∧
      ((s.chan n.val).toNormal = false → KeepRegs s t (Reg.canIdle n.val :: chanFlds n.val)) ∧
      KeepRegs s t (Reg.canIdle n.val :: Reg.canMode n.val :: Reg.canTec n.val :: Reg.canRec n.val :: Reg.canRp n.val ::
        Reg.canState n.val :: Reg.canRecover n.val :: Reg.syncDs :: Reg.syncDr :: chanFlds n.val) ∧
      (∀ m : Fin 16, m ≠ n → t.chan m.val = s.chan m.val) ∧ KeepWords s t (· = spCan n.val))

/-- A measurement is held in the channel's registers; a declared mismatch is a latching fault, and five measurements in
limit declare a compliance limit. The guard's loss starts the ramp, where none runs yet, and is declared once; excess
is recorded, a returning partner puts the floor back to half, and the ramp ends at the full floor with the guard off.
A conversion holds both codes; a fault sign makes the words BAD. Five failing comparisons latch a drift, the last
detected condition, that a passing one after CLEAR_DRIFT, from the supervisor pair or an ENGINEER session, clears. A
modem detects carrier at 120 mV, a response begun with it, and loses it below 80 mV. In control an FSK poll falls due,
its window starts with the end of the request, a failed response is tried three times, and a valid answer gives the
long address or the PV point. What the spec leaves open here is as log entries 85, 86 and 87 have it. Spec:
15_current_loop_io.md (rules 389, 390, 391, 392, 393, 395, 396, 398, 399, 400, 401, 402, 403). -/
def Obligations.CurrentLoops : Prop :=
  (∀ (n : Fin 8) (own total : BitVec 25) (head : BitVec 16) (supply : BitVec 12) (s : State), s.held = false →
    (s.now < (s.ao n.val).changedAt + 50000 → Next (.aoMeasurement n own total head supply) s fun t =>
      t.get (Reg.aoOwn n.val) = own.toNat ∧ t.get (Reg.aoTot n.val) = total.toNat ∧ t.get (Reg.aoHead n.val) = head.toNat ∧
      t.get Reg.fsupVolt = supply.toNat ∧ t.flag Reg.fsupLow = decide (supply.toNat < 2160) ∧ t.mode = s.mode ∧
      KeepWords s t (· = spAo n.val) ∧ KeepRegs s t (Reg.aoOwn n.val :: Reg.aoTot n.val :: Reg.aoHead n.val :: Reg.aoFlags n.val ::
        Reg.fsupVolt :: Reg.fsupLow :: Reg.syncDs :: Reg.syncDr :: evFlds)) ∧
    ((s.ao n.val).changedAt + 50000 ≤ s.now → (s.ao n.val).target = s.get (Reg.aoC n.val) → s.get (Reg.aoFloor n.val) = 3 → s.flag (Reg.aoGuard n.val) = false →
      (3800 ≤ head.toNat → 160000 < ((own.toNat : Int) - s.get (Reg.aoC n.val)).natAbs → 17 ≤ (s.ao n.val).mism →
        (s.ao n.val).mismatch = false → s.mode ∈ [mIsolated, mSync, mStandby, mPrimary, mSolo] →
        Next (.aoMeasurement n own total head supply) s fun t => Entered t s.mode mSafe 0x17 ∧ (t.ao n.val).mismatch = true ∧
          t.alp.mismatches = s.alp.mismatches + 1 ∧ SafeMem s t) ∧
      (head.toNat < 3800 → (own.toNat : Int) < s.get (Reg.aoC n.val) - 16000 → 4 ≤ (s.ao n.val).inLim → (s.ao n.val).limit = false →
        s.inControl = false → Next (.aoMeasurement n own total head supply) s fun t => (t.ao n.val).limit = true ∧
          t.alp.compliance = s.alp.compliance + 1 ∧ t.mode = s.mode ∧ KeepWords s t (· = spAo n.val) ∧ Posts s t 11))) ∧
  (∀ (n : Fin 8) (a : Int) (s : State), s.mode ∈ [mStandby, mPrimary] → a + 50000 ≤ s.now →
    ((s.ao n.val).engagedAt = some a → (s.ao n.val).lost = false → s.get (Reg.aoFloor n.val) = 1 → Next (.guardEngagementLoss n) s fun t =>
      t.get (Reg.aoFloor n.val) = 2 ∧ (t.ao n.val).rampAt = some s.now ∧ (t.ao n.val).lost = true ∧ Posts s t 11 ∧
      KeepRegs s t (Reg.aoFloor n.val :: Reg.aoGuard n.val :: Reg.aoSusp n.val :: Reg.aoFlags n.val :: Reg.syncDs :: Reg.syncDr :: evFlds) ∧
      KeepWords s t (· = spAo n.val)) ∧
    ((s.ao n.val).engagedAt = some a → (s.ao n.val).lost = false → s.get (Reg.aoFloor n.val) = 2 → Next (.guardEngagementLoss n) s fun t =>
      (t.ao n.val).rampAt = (s.ao n.val).rampAt ∧ (t.ao n.val).lost = true ∧ Posts s t 11 ∧
      KeepRegs s t (Reg.aoFlags n.val :: Reg.syncDs :: Reg.syncDr :: evFlds) ∧ KeepWords s t (· = spAo n.val)) ∧
    ((s.ao n.val).engagedAt = none ∨ (s.ao n.val).lost = true → Next (.guardEngagementLoss n) s fun t => t = s) ∧
    ((s.ao n.val).returnAt = some a → 2 ≤ s.get (Reg.aoFloor n.val) → Next (.partnerContributionReturn n) s fun t =>
      t.get (Reg.aoFloor n.val) = 1 ∧ t.flag (Reg.aoGuard n.val) = true ∧ (t.ao n.val).lost = false ∧ Posts s t 11 ∧
      KeepRegs s t (Reg.aoFloor n.val :: Reg.aoGuard n.val :: Reg.aoSusp n.val :: Reg.aoFlags n.val :: Reg.syncDs :: Reg.syncDr :: evFlds) ∧
      KeepWords s t (· = spAo n.val))) ∧
  (∀ (n : Fin 8) (a : Int) (s : State),
    ((s.ao n.val).excessAt = some a → (s.ao n.val).excess = false → (a + 2000000 ≤ s.now → Next (.partnerExcess n) s fun t =>
      (t.ao n.val).excess = true ∧ Posts s t 11 ∧ KeepWords s t (· = spAo n.val) ∧
      KeepRegs s t (Reg.aoFlags n.val :: Reg.syncDs :: Reg.syncDr :: evFlds)) ∧
      (s.now < a + 2000000 → Next (.partnerExcess n) s fun t => t = s)) ∧
    ((s.ao n.val).rampAt = some a → s.get (Reg.aoFloor n.val) = 2 → (a + 1200000 ≤ s.now → Next (.rampEnd n) s fun t =>
      t.get (Reg.aoFloor n.val) = 3 ∧ t.flag (Reg.aoGuard n.val) = false ∧ t.aoTarget n.val = s.get (Reg.aoC n.val) ∧
      KeepRegs s t [Reg.aoFloor n.val, Reg.aoGuard n.val, Reg.aoSusp n.val, Reg.aoFlags n.val, Reg.syncDs, Reg.syncDr] ∧
      KeepWords s t (· = spAo n.val)) ∧
      (s.now < a + 1200000 → Next (.rampEnd n) s fun t => t = s))) ∧
  (∀ (n : Fin 8) (ra rb : BitVec 24) (fa fb : Bool) (s : State), s.held = false →
    (s.bindings.filter fun b => b.kind == bkAi && b.ch == n.val && decide (b.sel ≤ 1)) = [] →
    Next (.aiConversion n ra rb fa fb) s fun t => t.get (Reg.aiRawA n.val) = ra.toNat ∧ t.get (Reg.aiRawB n.val) = rb.toNat ∧
      (t.ai n.val).faultA = fa ∧ (t.ai n.val).faultB = fb ∧ (fa = true ∨ fb = true → (t.ai n.val).word0.q = 0 ∧ (t.ai n.val).word1.q = 0) ∧
      (t.ai n.val).curA = (s.aiTrim n.val 0x28 (Config.aiCode false ra) :: (s.ai n.val).curA).take 50 ∧
      (t.ai n.val).curB = (s.aiTrim n.val 0x2C (Config.aiCode true rb) :: (s.ai n.val).curB).take 50 ∧
      KeepRegs s t [Reg.aiRawA n.val, Reg.aiRawB n.val, Reg.aiCur n.val, Reg.aiFlags n.val, Reg.syncDs, Reg.syncDr] ∧
      KeepWords s t (· = spAi n.val)) ∧
  (∀ (n : Fin 8) (s : State), s.held = false → (s.ai n.val).curA ≠ [] →
    (32000 < (((average (s.ai n.val).curA).sub (average (s.ai n.val).curB)).round Config.ioRound).natAbs →
      (s.bindings.filter fun b => b.kind == bkAi && b.ch == n.val && decide (b.sel ≤ 1)) = [] →
      4 ≤ (s.ai n.val).fails → (s.ai n.val).drift = false → Next (.aiDriftComparison n) s fun t => (t.ai n.val).drift = true ∧
        t.md.lastClass = 9 ∧ t.lcs.driftCount = s.lcs.driftCount + 1 ∧ (t.ai n.val).word0.q = 0 ∧ Posts s t 11 ∧ KeepWords s t (· = spAi n.val) ∧
        KeepRegs s t (Reg.aiDev n.val :: Reg.aiFlags n.val :: Reg.syncDs :: Reg.syncDr :: evFlds)) ∧
    ((((average (s.ai n.val).curA).sub (average (s.ai n.val).curB)).round Config.ioRound).natAbs ≤ 32000 →
      Next (.aiDriftComparison n) s fun t => (t.ai n.val).fails = 0 ∧ (t.ai n.val).clearing = false ∧
        (t.ai n.val).drift = ((s.ai n.val).drift && !(s.ai n.val).clearing) ∧
        ((s.ai n.val).drift = true → (s.ai n.val).clearing = true → Posts s t 11 ∧ t.flag (Reg.aiClr n.val) = false) ∧
        KeepRegs s t (Reg.aiDev n.val :: Reg.aiClr n.val :: Reg.aiFlags n.val :: Reg.syncDs :: Reg.syncDr :: evFlds))) ∧
  (∀ (n : Fin 8) (sess : Nat) (c : Caller) (x : Option Nat) (s : State), s.functional = true → (x = some sess → Asks s sess c rEngineer) →
    x ∈ [none, some sess] → Next (.clearDrift ⟨n, x⟩) s fun t => (t.ai n.val).clearing = true ∧
      (t.ai n.val).drift = (s.ai n.val).drift ∧ t.flag (Reg.aiClr n.val) = true ∧ (x = some sess → Answers t sess stOk) ∧
      KeepRegs s t [Reg.aiClr n.val] ∧ SameMem s t) ∧
  (∀ (c : Fin 16) (s : State),
    (s.inControl = true → (s.get Reg.hrtEn).testBit c.val = true → s.get (Reg.cstState c.val) = 0 →
      (s.hrt c.val).dueAt + (s.get (Reg.cpollMs c.val) : Int) * 1000000 ≤ s.now → Next (.fskPollDue c) s fun t =>
        t.get (Reg.cstState c.val) = 1 ∧ (t.hrt c.val).dueAt = s.now ∧ (t.hrt c.val).tries = 0 ∧
        KeepRegs s t [Reg.cstState c.val] ∧ t = { s with csr := t.csr, alp := t.alp }) ∧
    (s.inControl = false → Next (.fskPollDue c) s fun t => t = s) ∧
    (s.get (Reg.cstState c.val) = 2 → Next (.fskRequestEnd c) s fun t => t.get (Reg.cstState c.val) = 3 ∧
      (t.hrt c.val).reqEnd = some s.now ∧ KeepRegs s t [Reg.cstState c.val] ∧ t = { s with csr := t.csr, alp := t.alp }) ∧
    (s.get (Reg.cstState c.val) ≠ 2 → Next (.fskRequestEnd c) s fun t => t = s)) ∧
  (∀ (c : Fin 16) (l : Bytes) (a : Int) (i : Instr) (s : State), i ∈ [Instr.fskResponse c (.frame l) true, Instr.fskResponseTimeout c] →
    (hartBody l).isSome = true → s.inControl = true → s.get (Reg.cstState c.val) = 3 → (s.hrt c.val).reqEnd = some a → a + 300000000 ≤ s.now →
    ((s.hrt c.val).tries < 2 → Next i s fun t => t.get (Reg.cstState c.val) = 1 ∧ (t.hrt c.val).tries = (s.hrt c.val).tries + 1 ∧
      Counts s t (Reg.cstFails c.val) ∧ KeepRegs s t [Reg.cstState c.val, Reg.cstFails c.val] ∧ SameMem s t) ∧
    (2 ≤ (s.hrt c.val).tries → Next i s fun t => t.get (Reg.cstState c.val) = 0 ∧ (t.hrt c.val).tries = 0 ∧
      (t.hrt c.val).notAnswering = true ∧ t.flag (Reg.cstIdent c.val) = false ∧ Counts s t (Reg.cerr c.val) ∧ Posts s t 11 ∧
      KeepWords s t (· = (if c.val < 8 then spAo c.val else spAi (c.val - 8))))) ∧
  (∀ (c : Fin 16) (v : Nat) (e : Bool) (s : State), s.inControl = true → Next (.fskResponse c (.carrier v) e) s fun t =>
    (120 ≤ v → t.flag (Reg.cstCarrier c.val) = true ∧
      t.get (Reg.cstState c.val) = if s.get (Reg.cstState c.val) = 3 then 4 else s.get (Reg.cstState c.val)) ∧
    (v < 80 → t.flag (Reg.cstCarrier c.val) = false ∧ t.get (Reg.cstState c.val) = s.get (Reg.cstState c.val)) ∧
    (80 ≤ v → v < 120 → t.flag (Reg.cstCarrier c.val) = s.flag (Reg.cstCarrier c.val)) ∧
    KeepRegs s t [Reg.cstCarrier c.val, Reg.cstState c.val] ∧ t = { s with csr := t.csr }) ∧
  (∀ (c : Fin 16) (l k : Bytes) (f : HartFrame) (b : Binding) (s : State), s.inControl = true → s.get (Reg.cstState c.val) ∈ [3, 4] →
    hartBody l = some k → parseHart k = some f →
    (f.delim = 6 → f.cmd = 0 → (f.data.headD 0#8).toNat < 128 → Next (.fskResponse c (.frame l) false) s fun t =>
      t.flag (Reg.cstIdent c.val) = true ∧ t.get (Reg.cadrLah c.val) = ((fskIdentity f.data).headD 0#8).toNat ∧
      t.get (Reg.clal c.val) = leNat ((fskIdentity f.data).drop 1) % 2 ^ 32 ∧ t.get (Reg.cstState c.val) = 0 ∧ Counts s t (Reg.cok c.val)) ∧
    (f.delim = 0x86 → f.cmd = 3 → f.data.headD 0#8 = 0#8 → 11 ≤ f.data.length →
      (s.bindings.filter fun b => b.kind == bkFskVar && b.ch == c.val && decide (b.sel ≤ 3)) = [b] → b.sel = 0 → b.point < 0xFF00 →
      s.portHeld = false → s.forceOf b.point = none → Next (.fskResponse c (.frame l) false) s fun t =>
        t.word b.point = ⟨widen32 ((f.data.drop 7).take 4), fskTag ((f.data.drop 1).headD 0#8).toNat 0⟩ ∧
        t.get (Reg.cstDevst c.val) = ((f.data.drop 1).headD 0#8).toNat ∧ t.get (Reg.cstState c.val) = 0 ∧
        (t.hrt c.val).notAnswering = false ∧ Counts s t (Reg.cok c.val) ∧
        KeepWords s t fun a => a = b.point ∨ a = (if c.val < 8 then spAo c.val else spAi (c.val - 8))))

/-- A POST with GO builds a record from the post window (class, number, severity, truncation mark and payload) and queues
it; one of a suppressed class is only counted; with the FIFO full it is counted as refused; without GO nothing
happens. RECORD_COMMIT takes the first waiting record: a new own record that fits in its segment stands in the ring
word for word with its NUMBER, the head moves behind it and NUMBER counts on; every word outside reads as before. A
mirrored record in sequence is committed with its mirror flag where the MPU lets EWX DMA write it. A repeat update for
an unknown record is dropped and counted. With nothing waiting nothing changes. What the spec leaves open here is as
log entries 10, 11, 91 and 130 have it. Spec: 18_event_recorder.md (rules 436, 437, 438, 439, 444, 446, 447, 451). -/
def Obligations.EventRecorder : Prop :=
  (∀ (w : BitVec 32) (s : State), s.runtime = true →
    (w.getLsbD 31 = false → Next (.post w) s fun t => t = s) ∧
    (w.getLsbD 31 = true → (s.cfgNat 0x3A00 0x01 0).testBit (s.get (Reg.evrPbuf 0) / 2 ^ 28 % 16) = true → Next (.post w) s fun t =>
      t = { s with evr := { s.evr with suppressed := s.evr.suppressed + 1 } }) ∧
    (w.getLsbD 31 = true → (s.cfgNat 0x3A00 0x01 0).testBit (s.get (Reg.evrPbuf 0) / 2 ^ 28 % 16) = false → s.evr.fifo.length < 16 →
      Next (.post w) s fun t => ∃ r : EvRec,
      t.evr.fifo = s.evr.fifo ++ [r] ∧ t.evr = { s.evr with fifo := t.evr.fifo } ∧ r.cls = s.get (Reg.evrPbuf 0) / 2 ^ 28 % 16 ∧
      r.num = s.get (Reg.evrPbuf 0) / 2 ^ 16 % 4096 ∧ r.sev = s.get (Reg.evrPbuf 3) / 2 ^ 29 % 4 ∧
      r.trunc = (s.get (Reg.evrPbuf 3)).testBit 27 ∧ r.payload.length = min 1024 (s.get (Reg.evrPbuf 0) % 2 ^ 16) - recHead r.cls ∧
      t.get Reg.evrFifo = s.evr.fifo.length + 1 ∧ KeepRegs s t [Reg.evrFifo] ∧ SameMem s t) ∧
    (w.getLsbD 31 = true → (s.cfgNat 0x3A00 0x01 0).testBit (s.get (Reg.evrPbuf 0) / 2 ^ 28 % 16) = false → 16 ≤ s.evr.fifo.length →
      Next (.post w) s fun t => t.evr.fifo = s.evr.fifo ∧
      t.evr.refused = s.evr.refused + 1 ∧ Counts s t Reg.evrRefused ∧ KeepRegs s t [Reg.evrRefused] ∧ SameMem s t)) ∧
  (∀ (r : EvRec) (l : List EvRec) (s : State), s.functional = true → s.evr.dropped = 0 → s.evr.lastOwn = none → s.linkUp = false →
    (s.evr.hwq = r :: l ∨ s.evr.hwq = [] ∧ s.evr.fifo = r :: l) → recHead r.cls + r.payload.length ≤ 1024 →
    0 < curOfs (s.get Reg.evrHead) % 2048 → curOfs (s.get Reg.evrHead) % 2048 + recWords (recHead r.cls + r.payload.length) ≤ 2048 →
    Next .recordCommit s fun t =>
      t.ringBytes (s.get Reg.evrHead) (recWords (recHead r.cls + r.payload.length)) = r.bytes (s.get Reg.evrNumber) ++
        List.replicate (recWords (recHead r.cls + r.payload.length) * 8 - (recHead r.cls + r.payload.length)) 0#8 ∧
      t.get Reg.evrHead = curAdd (s.get Reg.evrHead) (recWords (recHead r.cls + r.payload.length)) ∧ t.get Reg.evrTail = s.get Reg.evrTail ∧
      t.get Reg.evrNumber = (s.get Reg.evrNumber + 1) % 2 ^ 32 ∧ t.evr.written = s.evr.written + 1 ∧
      (s.evr.hwq = r :: l → t.evr.hwq = l ∧ t.evr.fifo = s.evr.fifo) ∧ (s.evr.hwq = [] → t.evr.fifo = l) ∧
      KeepRegs s t [Reg.evrHead, Reg.evrNumber, Reg.evrFifo, Reg.evrHwq] ∧
      KeepWords s t fun a => ringBase + curOfs (s.get Reg.evrHead) ≤ a ∧ a < ringBase + curOfs (s.get Reg.evrHead) + recWords (recHead r.cls + r.payload.length)) ∧
  (∀ (b : Bytes) (l : List MirrorIn) (s : State), s.functional = true → s.evr.dropped = 0 → s.evr.hwq = [] → s.evr.fifo = [] →
    s.evr.mirror = .record b :: l → s.heldId = s.partnerId → leNat ((b.drop 4).take 4) = (s.get Reg.evrPnum + 1) % 2 ^ 32 →
    16 ≤ b.length → b.length ≤ 1024 → 0 < curOfs (s.get Reg.evrHead) % 2048 →
    (∀ i : Fin (recWords b.length), (s.mpuCheck ⟨mEwx, .write, true, ringBase + curOfs (s.get Reg.evrHead) + i.val, 0, false, false⟩).1 = true) →
    curOfs (s.get Reg.evrHead) % 2048 + recWords b.length ≤ 2048 → Next .recordCommit s fun t =>
      (t.ringBytes (s.get Reg.evrHead) (recWords b.length)).take b.length = b.take 15 ++ (b.getD 15 0#8 ||| 2#8) :: b.drop 16 ∧
      t.get Reg.evrPnum = leNat ((b.drop 4).take 4) ∧ t.get Reg.evrNumber = s.get Reg.evrNumber ∧
      t.get Reg.evrHead = curAdd (s.get Reg.evrHead) (recWords b.length) ∧ t.evr.mirrored = s.evr.mirrored + 1 ∧ t.evr.mirror = l ∧
      KeepRegs s t [Reg.evrHead, Reg.evrPnum] ∧
      KeepWords s t fun a => ringBase + curOfs (s.get Reg.evrHead) ≤ a ∧ a < ringBase + curOfs (s.get Reg.evrHead) + recWords b.length) ∧
  (∀ (n v : Nat) (l : List MirrorIn) (s : State), s.functional = true → s.evr.hwq = [] → s.evr.fifo = [] →
    s.evr.mirror = .update n v :: l → s.evr.lastMirror = none → Next .recordCommit s fun t =>
      t = { s with evr := { s.evr with mirror := l, updDropped := s.evr.updDropped + 1 } }) ∧
  (∀ s : State, s.evr.hwq = [] → s.evr.fifo = [] → s.evr.mirror = [] → Next .recordCommit s fun t => t = s)

/-- A firmware file is written into the slot that is not running; it is refused, and the slot left empty, where it does
not verify. An EXPERT in ISOLATED selects a valid slot, raises the minimum release up to the running one, enrols an
image key into the next fuse slot, replaces the trust anchor (every session closes) and the certificate. A life-cycle
request that fails its check is refused and the nonce changes; one that passes runs its steps in order, the entry of
the target being written at step 2 and BOOT following step 6; an interrupted change resumes. The four operations of
LCS.CMD act in ISOLATED only. What the spec leaves open here is as log entries 74, 94 and 95 have it. Spec:
19_power_states_and_life_cycle.md (rules 469, 471, 472, 475, 476, 477, 480). -/
def Obligations.KeysAndLifeCycle : Prop :=
  (∀ (sess : Nat) (c : Caller) (b : Bytes) (s : State), Asks s sess c rExpert → s.mode ∈ [mIsolated, mStandby, mPrimary, mSolo] →
    Next (.firmwareTransfer sess b) s fun t => Answers t sess (if s.fwOk b then stOk else stRefused) ∧
      t.flashFile (1 - s.get Reg.bootFwslot) = (if s.fwOk b then b else []) ∧
      t.lcs.fwValid.testBit (1 - s.get Reg.bootFwslot) = s.fwOk b ∧ t.get Reg.bootFwslot = s.get Reg.bootFwslot) ∧
  (∀ (sess : Nat) (c : Caller) (b : Bytes) (v : BitVec 8) (s : State), Asks s sess c rExpert → s.mode = mIsolated →
    (1 < v.toNat → Next (.bootFirmwareSlot sess v) s fun t => Answers t sess stRange ∧ t = { s.seen sess with out := t.out }) ∧
    (v.toNat ≤ 1 → s.lcs.fwValid.testBit v.toNat = true → s.lcs.flashBad.testBit v.toNat = false → Next (.bootFirmwareSlot sess v) s fun t => Answers t sess stOk ∧
      t.lcs = { s.lcs with bootSel := v.toNat } ∧ KeepRegs s t evFlds ∧ SameMem s t) ∧
    ((∀ k : Fin 2, s.lcs.fwValid.testBit k.val = true ∧ s.runningMajor ≤ s.fwRelease k.val / 256) →
      Next (.raiseFirmwareMinimum sess) s fun t => Answers t sess stOk ∧
        t.get Reg.fwminMajor = max (s.get Reg.fwminMajor) (min s.runningMajor 32) % 64 ∧ KeepRegs s t (Reg.fwminMajor :: evFlds) ∧ SameMem s t) ∧
    (b.length ≠ 97 → Next (.imageKeyEnrolment sess b) s fun t => Answers t sess stType ∧ t = { s.seen sess with out := t.out }) ∧
    (b.length = 97 → s.get Reg.lcsState ∈ [1, 2] → s.keyActive = false → s.get Reg.kslotUsed < 8 → Next (.imageKeyEnrolment sess b) s fun t =>
      Answers t sess stOk ∧ t.lcs.imageKey = b ∧ SMap.find t.lcs.keyHash (s.get Reg.kslotUsed) = some (Config.sha384 b) ∧
      t.get Reg.kslotUsed = s.get Reg.kslotUsed + 1 ∧ t.get Reg.kslotActive = s.get Reg.kslotUsed ∧
      KeepRegs s t (Reg.kslotUsed :: Reg.kslotActive :: evFlds) ∧ Posts s t 13) ∧
    (1 ≤ b.length → b.length ≤ 4096 → Next (.trustAnchor sess b) s fun t => Answers t sess stOk ∧ t.lcs.anchor = b ∧
      t.net.sessions = [] ∧ Posts s t 13 ∧ SameMem s t) ∧
    (1 ≤ b.length → b.length ≤ 4096 → Next (.moduleCertificate sess b) s fun t =>
      Answers t sess (if Config.certSameKey s.lcs.certKey b then stOk else stRefused) ∧
      t.lcs = { s.lcs with cert := if Config.certSameKey s.lcs.certKey b then b else s.lcs.cert } ∧ KeepRegs s t evFlds ∧ SameMem s t)) ∧
  (∀ (sess : Nat) (c : Caller) (b : Bytes) (k : Fin 7) (s : State), Asks s sess c rExpert → s.mode = mIsolated →
    (b.length ≠ 12 ∧ b.length ≠ 108 → Next (.lifeCycleChange sess b k) s fun t => Answers t sess stType ∧
      t.lcs = { s.lcs with nonce := Config.nextNonce s.lcs.nonce % 2 ^ 64 } ∧ SameMem s t) ∧
    (b.length = 12 → s.lifeOk b = false → Next (.lifeCycleChange sess b k) s fun t => Answers t sess stRefused ∧
      t.lcs = { s.lcs with nonce := Config.nextNonce s.lcs.nonce % 2 ^ 64 } ∧ KeepRegs s t evFlds ∧ SameMem s t) ∧
    (b.length = 12 → s.lifeOk b = true → s.keyActive = false → s.get Reg.lcsUsed < 24 →
      (k.val ≤ 1 → Next (.lifeCycleChange sess b k) s fun t => Answers t sess stOk ∧ t.flag Reg.lcsPend = true ∧
        t.get Reg.lcsTarget = fileField b 0 1 % 8 ∧ t.lcs = { s.lcs with nonce := Config.nextNonce s.lcs.nonce % 2 ^ 64, steps := 1 } ∧
        KeepRegs s t [Reg.lcsPend, Reg.lcsTarget] ∧ SameMem s t) ∧
      (k.val = 2 → Next (.lifeCycleChange sess b k) s fun t => Answers t sess stOk ∧ t.flag Reg.lcsPend = true ∧
        t.get Reg.lcsState = fileField b 0 1 % 8 ∧ t.get Reg.lcsUsed = s.get Reg.lcsUsed + 1 ∧ t.lcs.steps = 2 ∧
        KeepRegs s t [Reg.lcsPend, Reg.lcsTarget, Reg.lcsState, Reg.lcsUsed] ∧ SameMem s t))) ∧
  (∀ (k : Fin 7) (s : State), s.runtime = true → s.mode = mIsolated → s.flag Reg.lcsPend = true →
    (s.lcs.steps = 1 → k.val = 2 → s.keyActive = false → s.get Reg.lcsUsed < 24 → Next (.lifeCycleChangeResume k) s fun t =>
      t.get Reg.lcsState = s.get Reg.lcsTarget % 8 ∧ t.get Reg.lcsUsed = s.get Reg.lcsUsed + 1 ∧ t.lcs.steps = 2 ∧
      KeepRegs s t [Reg.lcsState, Reg.lcsUsed] ∧ SameMem s t) ∧
    (s.lcs.steps = 5 → k.val = 6 → Next (.lifeCycleChangeResume k) s fun t => Entered t mIsolated mBoot 0x19 ∧
      t.flag Reg.lcsPend = false ∧ t.lcs.steps = 0 ∧ t.get Reg.lcsState = s.get Reg.lcsState)) ∧
  (∀ (i : Instr) (s : State), i ∈ [Instr.writeLifeCycleEntry, .revokeImageKeySlot, .writeImageKeySlot, .raiseFwmin] → s.mode ≠ mIsolated →
    Next i s fun t => t = s) ∧
  (∀ s : State, s.runtime = true → s.mode = mIsolated →
    (s.flag Reg.lcsPend = true → s.get Reg.lcsUsed < 24 → Next .writeLifeCycleEntry s fun t =>
      t.get Reg.lcsState = s.get Reg.lcsTarget % 8 ∧ t.get Reg.lcsUsed = s.get Reg.lcsUsed + 1 ∧
      KeepRegs s t [Reg.lcsState, Reg.lcsUsed] ∧ t = { s with csr := t.csr }) ∧
    (s.flag Reg.lcsPend = false → Next .writeLifeCycleEntry s fun t => t = s) ∧
    (s.keyActive = true → Next .revokeImageKeySlot s fun t => t.keyActive = false ∧
      t.get Reg.kslotActive = s.get Reg.kslotActive ∧ KeepRegs s t (Reg.kslotRevoked :: evFlds) ∧ Posts s t 13 ∧ SameMem s t) ∧
    (s.keyActive = false → Next .revokeImageKeySlot s fun t => t = s) ∧
    (s.get Reg.kslotUsed < 8 → Next .writeImageKeySlot s fun t => t.get Reg.kslotUsed = s.get Reg.kslotUsed + 1 ∧
      t.get Reg.kslotActive = s.get Reg.kslotUsed ∧ SMap.find t.lcs.keyHash (s.get Reg.kslotUsed) = some (Config.sha384 s.lcs.imageKey) ∧
      KeepRegs s t [Reg.kslotUsed, Reg.kslotActive] ∧ SameMem s t) ∧
    Next .raiseFwmin s fun t => t.get Reg.fwminMajor = max (s.get Reg.fwminMajor) (min s.runningMajor 32) % 64 ∧
      KeepRegs s t [Reg.fwminMajor] ∧ t = { s with csr := t.csr })

/-- A maintenance-bus read of a view word sends its four bytes and moves the pointer on; a written byte is held at a
mailbox offset and elsewhere counted as not acknowledged. MAILBOX_DELIVERY puts held bytes into MBOX, sets NEW and
records an event. A TAP test instruction stops the functional logic in ISOLATED with debug open and is refused
otherwise; leaving it is a restart. A DAP read shows a permitted word or register, a permitted write stores the word,
held back by the final window of SYNC, or acts on the register, and a refused access only answers an error. A register
write by the supervisor pair acts by the register's access code; one the MPU refuses is a latching fault. What the
spec leaves open here is as log entries 96 and 97 have it. Spec: 00_scope.md (rules 8, 9); 16_memory_protection.md
(rules 415, 421); 20_hardware_interfaces.md (rules 494, 495, 496, 497, 499, 500). -/
def Obligations.HardwareInterfaces : Prop :=
  (∀ (p a n : Nat) (b : Byte) (s : State), s.mnbServed = true → (s.flag Reg.wakeenMnb = false ∨ ∀ u : Fin 12, s.get (Reg.sleepState u.val) = slRun) →
    ((p, a) ∈ [(0x00, 0xF0010100), (0x04, 0xF0010104), (0x08, 0xF0010000), (0x0C, 0xF0010001), (0x10, 0xF0000000), (0x24, 0xF004000E)] →
      s.hwif.ptr = p → Next (.maintenanceBusTransaction (.read 4)) s fun t => t.out = s.out ++ [.mnb (leBytes 4 (s.csrValue a))] ∧
        t.hwif.ptr = p + 4 ∧ t.get Reg.mnbReads = (s.get Reg.mnbReads + 1) % 2 ^ 16 ∧ KeepRegs s t [Reg.mnbReads] ∧ SameMem s t) ∧
    (n < 16 → s.hwif.mail = [] → Next (.maintenanceBusTransaction (.write (BitVec.ofNat 8 (0x40 + n)) [b])) s fun t =>
      t.hwif.mail = [(n, b)] ∧ t.hwif.ptr = (if n = 15 then 0 else 0x41 + n) ∧ t.flag Reg.mnbActive = true ∧
      t.get Reg.mnbWrites = (s.get Reg.mnbWrites + 1) % 2 ^ 16 ∧ KeepRegs s t [Reg.mnbActive, Reg.mnbWrites] ∧ SameMem s t) ∧
    (n < 0x40 → s.hwif.mail = [] → Next (.maintenanceBusTransaction (.write (BitVec.ofNat 8 n) [b])) s fun t =>
      t.hwif.mail = [] ∧ t.hwif.ptr = n + 1 ∧ Counts s t Reg.mnbNaks ∧ KeepRegs s t [Reg.mnbNaks, Reg.mnbWrites] ∧ SameMem s t)) ∧
  (∀ (n : Fin 16) (b : Byte) (s : State), s.hwif.mail = [(n.val, b)] → Next .mailboxDelivery s fun t =>
    (∀ k : Fin 16, t.get (Reg.mbox (k.val / 4)) / 256 ^ (k.val % 4) % 256 =
      (if k = n then b.toNat else s.get (Reg.mbox (k.val / 4)) / 256 ^ (k.val % 4) % 256)) ∧
    t.flag Reg.mbnew = true ∧ t.flag Reg.mnbActive = false ∧ t.hwif = { s.hwif with mail := [] } ∧ Posts s t 14 ∧ SameMem s t) ∧
  (∀ s : State, s.hwif.mail = [] → Next .mailboxDelivery s fun t => t = s) ∧
  (∀ (k : TapKind) (p : Bool) (st : BitVec 4) (s : State), s.powered = true → s.hwif.pins = false →
    (k ∈ [.bypass, .idcode, .sample, .dap] → Next (.tapInstruction k p st) s fun t => t.hwif = { s.hwif with tap := k } ∧
      t.flag Reg.dbgProbe = p ∧ t.get Reg.dbgTapst = st.toNat ∧ (k = .idcode → t.get Reg.dbgIr = 1) ∧
      KeepRegs s t [Reg.dbgProbe, Reg.dbgTapst, Reg.dbgIr] ∧ SameMem s t) ∧
    (k ∈ [.extest, .clamp, .highz] → s.mode = mIsolated ∧ s.get Reg.lcsState ∈ [0, 1, 3] → Next (.tapInstruction k p st) s fun t =>
      t.hwif = { s.hwif with tap := k, pins := true } ∧ t.functional = false ∧ KeepRegs s t [Reg.dbgProbe, Reg.dbgTapst, Reg.dbgIr] ∧ SameMem s t) ∧
    (k ∈ [.extest, .clamp, .highz] → s.mode ≠ mIsolated ∨ s.get Reg.lcsState ∉ [0, 1, 3] → Next (.tapInstruction k p st) s fun t =>
      t.hwif = { s.hwif with tap := .bypass } ∧ t.flag Reg.dbgRefused = true ∧ Posts s t 13 ∧
      KeepRegs s t (Reg.dbgProbe :: Reg.dbgTapst :: Reg.dbgIr :: Reg.dbgRefused :: evFlds) ∧ SameMem s t)) ∧
  (∀ s : State, (s.hwif.pins = true → s.mode = mIsolated → Next .tapTestExit s fun t => Entered t mIsolated mBoot 0x19 ∧
      t.hwif.pins = false ∧ t.get Reg.bootStep = 1) ∧ (s.hwif.pins = false → Next .tapTestExit s fun t => t = s)) ∧
  (∀ (a : BitVec 32) (v : TW) (s : State), s.powered = true → s.hwif.tap = .dap →
    ((s.mpuCheck ⟨20, .read, true, a.toNat, 0, false, false⟩).1 = true → areaOf a.toNat ≠ .csr → s.flips a.toNat = 0#80 →
      Next (.dapAccess a none) s fun t => t = { s with out := s.out ++ [.read a.toNat (s.word a.toNat)] }) ∧
    ((s.mpuCheck ⟨20, .write, true, a.toNat, 0, false, false⟩).1 = true → areaOf a.toNat ≠ .csr →
      (s.finalHold = false ∨ s.syncTracked a.toNat = false → Next (.dapAccess a (some v)) s fun t =>
        t.word a.toNat = v ∧ KeepWords s t (· = a.toNat) ∧ t.mode = s.mode) ∧
      (s.finalHold = true → s.syncTracked a.toNat = true → Next (.dapAccess a (some v)) s fun t =>
        t = { s with link := { s.link with held := s.link.held ++ [(a.toNat, v)] } })) ∧
    ((s.mpuCheck ⟨20, .read, true, a.toNat, 0, false, false⟩).1 = true → areaOf a.toNat = .csr → canWindow a.toNat = none →
      a.toNat ≠ 0xF0060001 → Next (.dapAccess a none) s fun t =>
        t = { s with out := s.out ++ [.read a.toNat (goodInt (s.csrValue a.toNat))] }) ∧
    ((s.mpuCheck ⟨20, .write, true, a.toNat, 0, false, false⟩).1 = true → a.toNat = 0xF0100000 → v.val.getLsbD 16 = true →
      Next (.dapAccess a (some v)) s fun t => t.flag Reg.dbgRefused = false ∧ KeepRegs s t [Reg.dbgRefused] ∧ t = { s with csr := t.csr }) ∧
    (s.get Reg.lcsState = 4 → s.get Reg.mpuEpoch = s.mpu.epoch1 →
      s.decideBy 0 ⟨20, .read, true, a.toNat, 0, false, false⟩ = s.decideBy 1 ⟨20, .read, true, a.toNat, 0, false, false⟩ →
      Next (.dapAccess a none) s fun t => t.out = s.out ++ [.busError] ∧ SameMem s t ∧ t.mode = s.mode) ∧
    (s.get Reg.lcsState = 4 → s.get Reg.mpuEpoch = s.mpu.epoch1 →
      s.decideBy 0 ⟨20, .write, true, a.toNat, 0, false, false⟩ = s.decideBy 1 ⟨20, .write, true, a.toNat, 0, false, false⟩ →
      Next (.dapAccess a (some v)) s fun t => t.out = s.out ++ [.busError] ∧ SameMem s t ∧ t.mode = s.mode)) ∧
  (∀ (a w : BitVec 32) (n : Fin 8) (s : State), s.functional = true → areaOf a.toNat = .csr →
    (s.mpuCheck ⟨12, .write, true, a.toNat, 0, false, false⟩).1 = true →
      (a.toNat = Reg.aoGroup n.val 6 → Next (.csrWrite 12 a w) s fun t => t.get (Reg.aoSafe n.val) = w.toNat % 2 ^ 25 ∧
        KeepRegs s t [Reg.aoSafe n.val] ∧ t = { s with csr := t.csr }) ∧
      (a.toNat = 0xF0100000 → w.getLsbD 16 = true → s.get Reg.dbgRefused = 1 → Next (.csrWrite 12 a w) s fun t =>
        t.flag Reg.dbgRefused = false ∧ KeepRegs s t [Reg.dbgRefused] ∧ t = { s with csr := t.csr }) ∧
      (a.toNat ∈ [0xF00E0001, 0xF00E0002, 0xF0000000, 0xF0010100, 0xF0100001] → Next (.csrWrite 12 a w) s fun t => t = s)) ∧
  (∀ (a w : BitVec 32) (s : State), s.functional = true → areaOf a.toNat = .csr →
    (s.decideBy 0 ⟨12, .write, true, a.toNat, 0, false, false⟩).ok = false →
    s.decideBy 1 ⟨12, .write, true, a.toNat, 0, false, false⟩ = s.decideBy 0 ⟨12, .write, true, a.toNat, 0, false, false⟩ → s.mode ∈ [mIsolated, mSync, mStandby, mPrimary, mSolo] →
    Next (.csrWrite 12 a w) s fun t => Entered t s.mode mSafe 0x17 ∧ Counts s t Reg.vioCnt ∧ SafeMem s t)

/-- For every task and every offset from 0x0 to 0x9 of its register group: while DRV.STAT.ACTIVE is 1, a permitted write
leaves the register and everything else as they are and is counted in DRV.STAT.IGNW, saturating; while the Weir window
is open, the write is not ignored: each writable field takes its bits and IGNW stays. Spec: R117. -/
def Obligations.TaskRegistersLocked : Prop :=
  ∀ (n : Fin 24) (k : Fin 10) (a w : BitVec 32) (s : State), a.toNat = 0xF0020100 + n.val * 16 + k.val → s.functional = true →
    (s.mpuCheck ⟨12, .write, true, a.toNat, 0, false, false⟩).1 = true → s.flag Reg.drvActive = true →
    (s.get Reg.weirState ≠ 2 → Next (.csrWrite 12 a w) s fun t => t.get Reg.drvIgnw = min (s.get Reg.drvIgnw + 1) 255 ∧
      KeepRegs s t [Reg.drvIgnw] ∧ t = { s with csr := t.csr }) ∧
    (s.get Reg.weirState = 2 → Next (.csrWrite 12 a w) s fun t => t.get Reg.drvIgnw = s.get Reg.drvIgnw ∧
      (∀ f ∈ fieldsAt a.toNat, f.acc = .rw → t.get f = w.toNat / 2 ^ f.lsb % 2 ^ f.width) ∧
      KeepRegs s t (fieldsAt a.toNat) ∧ t = { s with csr := t.csr })

/-- The step of a state whose queue begins with a command is the effect of that command on the state with the rest of the
queue. With an empty queue the step is a tick of what runs by itself (the choice of the model, log 2): it answers a
next state of the same mode; beyond BOOT the queue stays empty, the raw counter of a powered module whose logic runs
goes up by one, and all but the time base stays where no exchange has copies to make, except that a closed intent
switch may open (log 24). Spec: 01_module_overview.md (rules 13, 15); 13_time_base_and_ptp.md (rule 336). -/
def Obligations.StepRunsFront : Prop :=
  (∀ (c : Instr) (l : List Instr) (s : State), s.pending = c :: l → step s = exec c { s with pending := l }) ∧
  (∀ s : State, s.pending = [] → ∃ t, step s = .next t ∧ t.mode = s.mode ∧
    (s.functional = true → s.mode ≠ mBoot → t.pending = [] ∧ t.tmb.raw = s.tmb.raw + 1) ∧
    (s.functional = true → s.mode ≠ mBoot → s.xch.exch = none → s.xch.take = none →
      t = { s with tmb := t.tmb, csr := t.csr } ∧ KeepRegs s t [Reg.intentSw] ∧ (s.flag Reg.intentSw = false → t = { s with tmb := t.tmb })) ∧
    (s.powered = false → t = { s with tmb := t.tmb } ∧ t.tmb.raw = s.tmb.raw))

/-- After reset the module is in BOOT, every register field holds the reset value of its register table (CAN channels in
loopback with both error counters 0, current limits 3,800 and 20,500 uA, FSK poll interval 2,000 ms, maintenance-bus
address 0x58, debug identity 0x17240C2B), nothing waits, the memory keeps its canonical form, and a word of a program
slot reads as the fill. That memory elsewhere reads as zero is the model's choice (log 8), and this statement does not
say it. Spec: 00_scope.md (rule 10); 02_operating_modes.md (rules 33, 50); 07_program_exchange_and_restart.md (rule
512); 14_can_fd_channels.md (rules 360, 383); 15_current_loop_io.md (rules 405, 406); 20_hardware_interfaces.md (rule
505). -/
def Obligations.ResetState : Prop :=
  State.reset.mode = mBoot ∧ (∀ f : Fld, State.reset.get f = f.reset) ∧
    (∀ n : Fin 16, State.reset.get (Reg.canMode n.val) = 1 ∧ State.reset.get (Reg.canTec n.val) = 0 ∧ State.reset.get (Reg.canRec n.val) = 0 ∧
      State.reset.get (Reg.cpollMs n.val) = 2000) ∧
    (∀ n : Fin 8, State.reset.get (Reg.aoLimMin n.val) = 3800 ∧ State.reset.get (Reg.aoLimMax n.val) = 20500) ∧
    State.reset.get Reg.mnbAddr = 0x58 ∧ State.reset.get Reg.dbgId = 0x17240C2B ∧
    State.reset.pending = [] ∧ State.reset.out = [] ∧ MemWf State.reset ∧
    ∀ a : Nat, areaOf a = .slotA ∨ areaOf a = .slotB → (State.reset.word a).val = 0xFFFFFFFFFFFFFFFF#64 ∧ (State.reset.word a).tag = 0xFF#8

/-- Whatever command stands at the front of the queue, and on an empty queue: where a step answers a next state and the
memory's list has strictly rising addresses and lists no word that an unlisted address reads as, the memory after the
step has the same form. Equal memories therefore stay equal data through every command: process image, exchange
copies, event ring, configuration copies, program slots and BOOT included. Spec: 04_cores_clusters_and_memory.md
(rules 101, 103); 06_process_image.md (rule 159); 07_program_exchange_and_restart.md (rules 185, 186, 190);
18_event_recorder.md (rule 438). -/
def Obligations.EveryStepKeepsMemory : Prop :=
  ∀ s t : State, MemWf s → step s = .next t → MemWf t
end

