-- ==== Sys2Proof/Laws/Ecc.lean ====
section
/-! SUPPORT. The check matrix (R106): its columns meet the demands whatever the free ones are, and what follows for flipped
bits. -/

namespace Sys2Proof.Machine

theorem plainColumn_ok : columnsOk plainColumn = true := by decide +kernel

/-- The columns meet the demands of R106 whatever `Config.eccColumn` is. -/
theorem eccCol_ok : columnsOk eccCol = true := by
  by_cases h : columnsOk Config.eccColumn = true
  · rw [show eccCol = Config.eccColumn from funext fun i => by simp [eccCol, h]]; exact h
  · rw [show eccCol = plainColumn from funext fun i => by simp [eccCol, h]]; exact plainColumn_ok

theorem eccCol_odd {i : Nat} (h : i < 80) : oddWeight (eccCol i) = true := by
  have := eccCol_ok
  simp only [columnsOk, Bool.and_eq_true, List.all_eq_true, List.mem_range] at this
  exact this.1.1 i h

theorem eccCol_ne {i j : Nat} (h : i < 112) (hj : j < i) : eccCol i ≠ eccCol j := by
  have := eccCol_ok
  simp only [columnsOk, Bool.and_eq_true, List.all_eq_true, List.mem_range] at this
  simpa using this.2 i h j hj

theorem oddWeight_bits : ∀ b : BitVec 8, oddWeight b =
    (b.getLsbD 0 ^^ b.getLsbD 1 ^^ b.getLsbD 2 ^^ b.getLsbD 3 ^^ b.getLsbD 4 ^^ b.getLsbD 5 ^^ b.getLsbD 6 ^^ b.getLsbD 7) := by
  decide +kernel

theorem oddWeight_xor (a b : BitVec 8) : oddWeight (a ^^^ b) = (oddWeight a ^^ oddWeight b) := by
  have k : ∀ p q r t : Bool, ((p ^^ q) ^^ (r ^^ t)) = ((p ^^ r) ^^ (q ^^ t)) := by decide
  simp only [oddWeight_bits, BitVec.getLsbD_xor]
  rw [k _ _ (a.getLsbD 1), k _ _ (a.getLsbD 2), k _ _ (a.getLsbD 3), k _ _ (a.getLsbD 4), k _ _ (a.getLsbD 5),
    k _ _ (a.getLsbD 6), k _ _ (a.getLsbD 7)]

/-- Two flipped stored bits are not corrected (R106). -/
theorem eccKind_two {f : BitVec 80} {i j : Nat} (hj : j < i) (hi : i < 80) (h : syndrome f 0#32 = eccCol i ^^^ eccCol j) (h0 : f ≠ 0#80) :
    2 ≤ eccKind f := by
  have hne : eccCol i ^^^ eccCol j ≠ 0#8 := fun e => eccCol_ne (by omega) hj (BitVec.xor_eq_zero_iff.mp e)
  simp only [eccKind, h0, if_false, h, classify, hne, oddWeight_xor, eccCol_odd hi, eccCol_odd (by omega : j < 80)]
  simp
  split <;> simp

end Sys2Proof.Machine
end

