-- ==== Sys2Proof/Laws/State.lean ====
section
/-! SUPPORT. What each base operation leaves: one lemma per field of State per update, and the laws of register fields
and of memory words. -/

namespace Sys2Proof.Machine

variable (s : State)

/-! s.set f v -/

@[simp] theorem State.set_mem (f : Fld) (v : Nat) : (s.set f v).mem = s.mem := rfl
@[simp] theorem State.set_cfg (f : Fld) (v : Nat) : (s.set f v).cfg = s.cfg := rfl
@[simp] theorem State.set_cores (f : Fld) (v : Nat) : (s.set f v).cores = s.cores := rfl
@[simp] theorem State.set_tmb (f : Fld) (v : Nat) : (s.set f v).tmb = s.tmb := rfl
@[simp] theorem State.set_pairs (f : Fld) (v : Nat) : (s.set f v).pairs = s.pairs := rfl
@[simp] theorem State.set_evr (f : Fld) (v : Nat) : (s.set f v).evr = s.evr := rfl
@[simp] theorem State.set_md (f : Fld) (v : Nat) : (s.set f v).md = s.md := rfl
@[simp] theorem State.set_link (f : Fld) (v : Nat) : (s.set f v).link = s.link := rfl
@[simp] theorem State.set_drv (f : Fld) (v : Nat) : (s.set f v).drv = s.drv := rfl
@[simp] theorem State.set_pimg (f : Fld) (v : Nat) : (s.set f v).pimg = s.pimg := rfl
@[simp] theorem State.set_can (f : Fld) (v : Nat) : (s.set f v).can = s.can := rfl
@[simp] theorem State.set_launchRefused (f : Fld) (v : Nat) : (s.set f v).launchRefused = s.launchRefused := rfl
@[simp] theorem State.set_alp (f : Fld) (v : Nat) : (s.set f v).alp = s.alp := rfl
@[simp] theorem State.set_tarn (f : Fld) (v : Nat) : (s.set f v).tarn = s.tarn := rfl
@[simp] theorem State.set_live (f : Fld) (v : Nat) : (s.set f v).live = s.live := rfl
@[simp] theorem State.set_cfg0 (f : Fld) (v : Nat) : (s.set f v).cfg0 = s.cfg0 := rfl
@[simp] theorem State.set_cfg1 (f : Fld) (v : Nat) : (s.set f v).cfg1 = s.cfg1 := rfl
@[simp] theorem State.set_net (f : Fld) (v : Nat) : (s.set f v).net = s.net := rfl
@[simp] theorem State.set_ptp (f : Fld) (v : Nat) : (s.set f v).ptp = s.ptp := rfl
@[simp] theorem State.set_xch (f : Fld) (v : Nat) : (s.set f v).xch = s.xch := rfl
@[simp] theorem State.set_pwr (f : Fld) (v : Nat) : (s.set f v).pwr = s.pwr := rfl
@[simp] theorem State.set_lcs (f : Fld) (v : Nat) : (s.set f v).lcs = s.lcs := rfl
@[simp] theorem State.set_cvu (f : Fld) (v : Nat) : (s.set f v).cvu = s.cvu := rfl
@[simp] theorem State.set_mpu (f : Fld) (v : Nat) : (s.set f v).mpu = s.mpu := rfl
@[simp] theorem State.set_hwif (f : Fld) (v : Nat) : (s.set f v).hwif = s.hwif := rfl
@[simp] theorem State.set_free (f : Fld) (v : Nat) : (s.set f v).free = s.free := rfl
@[simp] theorem State.set_upsets (f : Fld) (v : Nat) : (s.set f v).upsets = s.upsets := rfl
@[simp] theorem State.set_out (f : Fld) (v : Nat) : (s.set f v).out = s.out := rfl
@[simp] theorem State.set_pending (f : Fld) (v : Nat) : (s.set f v).pending = s.pending := rfl

/-! s.setFlag f b -/

@[simp] theorem State.setFlag_mem (f : Fld) (b : Bool) : (s.setFlag f b).mem = s.mem := rfl
@[simp] theorem State.setFlag_cfg (f : Fld) (b : Bool) : (s.setFlag f b).cfg = s.cfg := rfl
@[simp] theorem State.setFlag_cores (f : Fld) (b : Bool) : (s.setFlag f b).cores = s.cores := rfl
@[simp] theorem State.setFlag_tmb (f : Fld) (b : Bool) : (s.setFlag f b).tmb = s.tmb := rfl
@[simp] theorem State.setFlag_pairs (f : Fld) (b : Bool) : (s.setFlag f b).pairs = s.pairs := rfl
@[simp] theorem State.setFlag_evr (f : Fld) (b : Bool) : (s.setFlag f b).evr = s.evr := rfl
@[simp] theorem State.setFlag_md (f : Fld) (b : Bool) : (s.setFlag f b).md = s.md := rfl
@[simp] theorem State.setFlag_link (f : Fld) (b : Bool) : (s.setFlag f b).link = s.link := rfl
@[simp] theorem State.setFlag_drv (f : Fld) (b : Bool) : (s.setFlag f b).drv = s.drv := rfl
@[simp] theorem State.setFlag_pimg (f : Fld) (b : Bool) : (s.setFlag f b).pimg = s.pimg := rfl
@[simp] theorem State.setFlag_can (f : Fld) (b : Bool) : (s.setFlag f b).can = s.can := rfl
@[simp] theorem State.setFlag_launchRefused (f : Fld) (b : Bool) : (s.setFlag f b).launchRefused = s.launchRefused := rfl
@[simp] theorem State.setFlag_alp (f : Fld) (b : Bool) : (s.setFlag f b).alp = s.alp := rfl
@[simp] theorem State.setFlag_tarn (f : Fld) (b : Bool) : (s.setFlag f b).tarn = s.tarn := rfl
@[simp] theorem State.setFlag_live (f : Fld) (b : Bool) : (s.setFlag f b).live = s.live := rfl
@[simp] theorem State.setFlag_cfg0 (f : Fld) (b : Bool) : (s.setFlag f b).cfg0 = s.cfg0 := rfl
@[simp] theorem State.setFlag_cfg1 (f : Fld) (b : Bool) : (s.setFlag f b).cfg1 = s.cfg1 := rfl
@[simp] theorem State.setFlag_net (f : Fld) (b : Bool) : (s.setFlag f b).net = s.net := rfl
@[simp] theorem State.setFlag_ptp (f : Fld) (b : Bool) : (s.setFlag f b).ptp = s.ptp := rfl
@[simp] theorem State.setFlag_xch (f : Fld) (b : Bool) : (s.setFlag f b).xch = s.xch := rfl
@[simp] theorem State.setFlag_pwr (f : Fld) (b : Bool) : (s.setFlag f b).pwr = s.pwr := rfl
@[simp] theorem State.setFlag_lcs (f : Fld) (b : Bool) : (s.setFlag f b).lcs = s.lcs := rfl
@[simp] theorem State.setFlag_cvu (f : Fld) (b : Bool) : (s.setFlag f b).cvu = s.cvu := rfl
@[simp] theorem State.setFlag_mpu (f : Fld) (b : Bool) : (s.setFlag f b).mpu = s.mpu := rfl
@[simp] theorem State.setFlag_hwif (f : Fld) (b : Bool) : (s.setFlag f b).hwif = s.hwif := rfl
@[simp] theorem State.setFlag_free (f : Fld) (b : Bool) : (s.setFlag f b).free = s.free := rfl
@[simp] theorem State.setFlag_upsets (f : Fld) (b : Bool) : (s.setFlag f b).upsets = s.upsets := rfl
@[simp] theorem State.setFlag_out (f : Fld) (b : Bool) : (s.setFlag f b).out = s.out := rfl
@[simp] theorem State.setFlag_pending (f : Fld) (b : Bool) : (s.setFlag f b).pending = s.pending := rfl

/-! s.incWrap f -/

@[simp] theorem State.incWrap_mem (f : Fld) : (s.incWrap f).mem = s.mem := rfl
@[simp] theorem State.incWrap_cfg (f : Fld) : (s.incWrap f).cfg = s.cfg := rfl
@[simp] theorem State.incWrap_cores (f : Fld) : (s.incWrap f).cores = s.cores := rfl
@[simp] theorem State.incWrap_tmb (f : Fld) : (s.incWrap f).tmb = s.tmb := rfl
@[simp] theorem State.incWrap_pairs (f : Fld) : (s.incWrap f).pairs = s.pairs := rfl
@[simp] theorem State.incWrap_evr (f : Fld) : (s.incWrap f).evr = s.evr := rfl
@[simp] theorem State.incWrap_md (f : Fld) : (s.incWrap f).md = s.md := rfl
@[simp] theorem State.incWrap_link (f : Fld) : (s.incWrap f).link = s.link := rfl
@[simp] theorem State.incWrap_drv (f : Fld) : (s.incWrap f).drv = s.drv := rfl
@[simp] theorem State.incWrap_pimg (f : Fld) : (s.incWrap f).pimg = s.pimg := rfl
@[simp] theorem State.incWrap_can (f : Fld) : (s.incWrap f).can = s.can := rfl
@[simp] theorem State.incWrap_launchRefused (f : Fld) : (s.incWrap f).launchRefused = s.launchRefused := rfl
@[simp] theorem State.incWrap_alp (f : Fld) : (s.incWrap f).alp = s.alp := rfl
@[simp] theorem State.incWrap_tarn (f : Fld) : (s.incWrap f).tarn = s.tarn := rfl
@[simp] theorem State.incWrap_live (f : Fld) : (s.incWrap f).live = s.live := rfl
@[simp] theorem State.incWrap_cfg0 (f : Fld) : (s.incWrap f).cfg0 = s.cfg0 := rfl
@[simp] theorem State.incWrap_cfg1 (f : Fld) : (s.incWrap f).cfg1 = s.cfg1 := rfl
@[simp] theorem State.incWrap_net (f : Fld) : (s.incWrap f).net = s.net := rfl
@[simp] theorem State.incWrap_ptp (f : Fld) : (s.incWrap f).ptp = s.ptp := rfl
@[simp] theorem State.incWrap_xch (f : Fld) : (s.incWrap f).xch = s.xch := rfl
@[simp] theorem State.incWrap_pwr (f : Fld) : (s.incWrap f).pwr = s.pwr := rfl
@[simp] theorem State.incWrap_lcs (f : Fld) : (s.incWrap f).lcs = s.lcs := rfl
@[simp] theorem State.incWrap_cvu (f : Fld) : (s.incWrap f).cvu = s.cvu := rfl
@[simp] theorem State.incWrap_mpu (f : Fld) : (s.incWrap f).mpu = s.mpu := rfl
@[simp] theorem State.incWrap_hwif (f : Fld) : (s.incWrap f).hwif = s.hwif := rfl
@[simp] theorem State.incWrap_free (f : Fld) : (s.incWrap f).free = s.free := rfl
@[simp] theorem State.incWrap_upsets (f : Fld) : (s.incWrap f).upsets = s.upsets := rfl
@[simp] theorem State.incWrap_out (f : Fld) : (s.incWrap f).out = s.out := rfl
@[simp] theorem State.incWrap_pending (f : Fld) : (s.incWrap f).pending = s.pending := rfl

/-! s.addSat f n -/

@[simp] theorem State.addSat_mem (f : Fld) (n : Nat) : (s.addSat f n).mem = s.mem := rfl
@[simp] theorem State.addSat_cfg (f : Fld) (n : Nat) : (s.addSat f n).cfg = s.cfg := rfl
@[simp] theorem State.addSat_cores (f : Fld) (n : Nat) : (s.addSat f n).cores = s.cores := rfl
@[simp] theorem State.addSat_tmb (f : Fld) (n : Nat) : (s.addSat f n).tmb = s.tmb := rfl
@[simp] theorem State.addSat_pairs (f : Fld) (n : Nat) : (s.addSat f n).pairs = s.pairs := rfl
@[simp] theorem State.addSat_evr (f : Fld) (n : Nat) : (s.addSat f n).evr = s.evr := rfl
@[simp] theorem State.addSat_md (f : Fld) (n : Nat) : (s.addSat f n).md = s.md := rfl
@[simp] theorem State.addSat_link (f : Fld) (n : Nat) : (s.addSat f n).link = s.link := rfl
@[simp] theorem State.addSat_drv (f : Fld) (n : Nat) : (s.addSat f n).drv = s.drv := rfl
@[simp] theorem State.addSat_pimg (f : Fld) (n : Nat) : (s.addSat f n).pimg = s.pimg := rfl
@[simp] theorem State.addSat_can (f : Fld) (n : Nat) : (s.addSat f n).can = s.can := rfl
@[simp] theorem State.addSat_launchRefused (f : Fld) (n : Nat) : (s.addSat f n).launchRefused = s.launchRefused := rfl
@[simp] theorem State.addSat_alp (f : Fld) (n : Nat) : (s.addSat f n).alp = s.alp := rfl
@[simp] theorem State.addSat_tarn (f : Fld) (n : Nat) : (s.addSat f n).tarn = s.tarn := rfl
@[simp] theorem State.addSat_live (f : Fld) (n : Nat) : (s.addSat f n).live = s.live := rfl
@[simp] theorem State.addSat_cfg0 (f : Fld) (n : Nat) : (s.addSat f n).cfg0 = s.cfg0 := rfl
@[simp] theorem State.addSat_cfg1 (f : Fld) (n : Nat) : (s.addSat f n).cfg1 = s.cfg1 := rfl
@[simp] theorem State.addSat_net (f : Fld) (n : Nat) : (s.addSat f n).net = s.net := rfl
@[simp] theorem State.addSat_ptp (f : Fld) (n : Nat) : (s.addSat f n).ptp = s.ptp := rfl
@[simp] theorem State.addSat_xch (f : Fld) (n : Nat) : (s.addSat f n).xch = s.xch := rfl
@[simp] theorem State.addSat_pwr (f : Fld) (n : Nat) : (s.addSat f n).pwr = s.pwr := rfl
@[simp] theorem State.addSat_lcs (f : Fld) (n : Nat) : (s.addSat f n).lcs = s.lcs := rfl
@[simp] theorem State.addSat_cvu (f : Fld) (n : Nat) : (s.addSat f n).cvu = s.cvu := rfl
@[simp] theorem State.addSat_mpu (f : Fld) (n : Nat) : (s.addSat f n).mpu = s.mpu := rfl
@[simp] theorem State.addSat_hwif (f : Fld) (n : Nat) : (s.addSat f n).hwif = s.hwif := rfl
@[simp] theorem State.addSat_free (f : Fld) (n : Nat) : (s.addSat f n).free = s.free := rfl
@[simp] theorem State.addSat_upsets (f : Fld) (n : Nat) : (s.addSat f n).upsets = s.upsets := rfl
@[simp] theorem State.addSat_out (f : Fld) (n : Nat) : (s.addSat f n).out = s.out := rfl
@[simp] theorem State.addSat_pending (f : Fld) (n : Nat) : (s.addSat f n).pending = s.pending := rfl

/-! s.incSat f -/

@[simp] theorem State.incSat_mem (f : Fld) : (s.incSat f).mem = s.mem := rfl
@[simp] theorem State.incSat_cfg (f : Fld) : (s.incSat f).cfg = s.cfg := rfl
@[simp] theorem State.incSat_cores (f : Fld) : (s.incSat f).cores = s.cores := rfl
@[simp] theorem State.incSat_tmb (f : Fld) : (s.incSat f).tmb = s.tmb := rfl
@[simp] theorem State.incSat_pairs (f : Fld) : (s.incSat f).pairs = s.pairs := rfl
@[simp] theorem State.incSat_evr (f : Fld) : (s.incSat f).evr = s.evr := rfl
@[simp] theorem State.incSat_md (f : Fld) : (s.incSat f).md = s.md := rfl
@[simp] theorem State.incSat_link (f : Fld) : (s.incSat f).link = s.link := rfl
@[simp] theorem State.incSat_drv (f : Fld) : (s.incSat f).drv = s.drv := rfl
@[simp] theorem State.incSat_pimg (f : Fld) : (s.incSat f).pimg = s.pimg := rfl
@[simp] theorem State.incSat_can (f : Fld) : (s.incSat f).can = s.can := rfl
@[simp] theorem State.incSat_launchRefused (f : Fld) : (s.incSat f).launchRefused = s.launchRefused := rfl
@[simp] theorem State.incSat_alp (f : Fld) : (s.incSat f).alp = s.alp := rfl
@[simp] theorem State.incSat_tarn (f : Fld) : (s.incSat f).tarn = s.tarn := rfl
@[simp] theorem State.incSat_live (f : Fld) : (s.incSat f).live = s.live := rfl
@[simp] theorem State.incSat_cfg0 (f : Fld) : (s.incSat f).cfg0 = s.cfg0 := rfl
@[simp] theorem State.incSat_cfg1 (f : Fld) : (s.incSat f).cfg1 = s.cfg1 := rfl
@[simp] theorem State.incSat_net (f : Fld) : (s.incSat f).net = s.net := rfl
@[simp] theorem State.incSat_ptp (f : Fld) : (s.incSat f).ptp = s.ptp := rfl
@[simp] theorem State.incSat_xch (f : Fld) : (s.incSat f).xch = s.xch := rfl
@[simp] theorem State.incSat_pwr (f : Fld) : (s.incSat f).pwr = s.pwr := rfl
@[simp] theorem State.incSat_lcs (f : Fld) : (s.incSat f).lcs = s.lcs := rfl
@[simp] theorem State.incSat_cvu (f : Fld) : (s.incSat f).cvu = s.cvu := rfl
@[simp] theorem State.incSat_mpu (f : Fld) : (s.incSat f).mpu = s.mpu := rfl
@[simp] theorem State.incSat_hwif (f : Fld) : (s.incSat f).hwif = s.hwif := rfl
@[simp] theorem State.incSat_free (f : Fld) : (s.incSat f).free = s.free := rfl
@[simp] theorem State.incSat_upsets (f : Fld) : (s.incSat f).upsets = s.upsets := rfl
@[simp] theorem State.incSat_out (f : Fld) : (s.incSat f).out = s.out := rfl
@[simp] theorem State.incSat_pending (f : Fld) : (s.incSat f).pending = s.pending := rfl

/-! s.setHalves lo hi v -/

@[simp] theorem State.setHalves_mem (lo hi : Fld) (v : Int) : (s.setHalves lo hi v).mem = s.mem := rfl
@[simp] theorem State.setHalves_cfg (lo hi : Fld) (v : Int) : (s.setHalves lo hi v).cfg = s.cfg := rfl
@[simp] theorem State.setHalves_cores (lo hi : Fld) (v : Int) : (s.setHalves lo hi v).cores = s.cores := rfl
@[simp] theorem State.setHalves_tmb (lo hi : Fld) (v : Int) : (s.setHalves lo hi v).tmb = s.tmb := rfl
@[simp] theorem State.setHalves_pairs (lo hi : Fld) (v : Int) : (s.setHalves lo hi v).pairs = s.pairs := rfl
@[simp] theorem State.setHalves_evr (lo hi : Fld) (v : Int) : (s.setHalves lo hi v).evr = s.evr := rfl
@[simp] theorem State.setHalves_md (lo hi : Fld) (v : Int) : (s.setHalves lo hi v).md = s.md := rfl
@[simp] theorem State.setHalves_link (lo hi : Fld) (v : Int) : (s.setHalves lo hi v).link = s.link := rfl
@[simp] theorem State.setHalves_drv (lo hi : Fld) (v : Int) : (s.setHalves lo hi v).drv = s.drv := rfl
@[simp] theorem State.setHalves_pimg (lo hi : Fld) (v : Int) : (s.setHalves lo hi v).pimg = s.pimg := rfl
@[simp] theorem State.setHalves_can (lo hi : Fld) (v : Int) : (s.setHalves lo hi v).can = s.can := rfl
@[simp] theorem State.setHalves_launchRefused (lo hi : Fld) (v : Int) : (s.setHalves lo hi v).launchRefused = s.launchRefused := rfl
@[simp] theorem State.setHalves_alp (lo hi : Fld) (v : Int) : (s.setHalves lo hi v).alp = s.alp := rfl
@[simp] theorem State.setHalves_tarn (lo hi : Fld) (v : Int) : (s.setHalves lo hi v).tarn = s.tarn := rfl
@[simp] theorem State.setHalves_live (lo hi : Fld) (v : Int) : (s.setHalves lo hi v).live = s.live := rfl
@[simp] theorem State.setHalves_cfg0 (lo hi : Fld) (v : Int) : (s.setHalves lo hi v).cfg0 = s.cfg0 := rfl
@[simp] theorem State.setHalves_cfg1 (lo hi : Fld) (v : Int) : (s.setHalves lo hi v).cfg1 = s.cfg1 := rfl
@[simp] theorem State.setHalves_net (lo hi : Fld) (v : Int) : (s.setHalves lo hi v).net = s.net := rfl
@[simp] theorem State.setHalves_ptp (lo hi : Fld) (v : Int) : (s.setHalves lo hi v).ptp = s.ptp := rfl
@[simp] theorem State.setHalves_xch (lo hi : Fld) (v : Int) : (s.setHalves lo hi v).xch = s.xch := rfl
@[simp] theorem State.setHalves_pwr (lo hi : Fld) (v : Int) : (s.setHalves lo hi v).pwr = s.pwr := rfl
@[simp] theorem State.setHalves_lcs (lo hi : Fld) (v : Int) : (s.setHalves lo hi v).lcs = s.lcs := rfl
@[simp] theorem State.setHalves_cvu (lo hi : Fld) (v : Int) : (s.setHalves lo hi v).cvu = s.cvu := rfl
@[simp] theorem State.setHalves_mpu (lo hi : Fld) (v : Int) : (s.setHalves lo hi v).mpu = s.mpu := rfl
@[simp] theorem State.setHalves_hwif (lo hi : Fld) (v : Int) : (s.setHalves lo hi v).hwif = s.hwif := rfl
@[simp] theorem State.setHalves_free (lo hi : Fld) (v : Int) : (s.setHalves lo hi v).free = s.free := rfl
@[simp] theorem State.setHalves_upsets (lo hi : Fld) (v : Int) : (s.setHalves lo hi v).upsets = s.upsets := rfl
@[simp] theorem State.setHalves_out (lo hi : Fld) (v : Int) : (s.setHalves lo hi v).out = s.out := rfl
@[simp] theorem State.setHalves_pending (lo hi : Fld) (v : Int) : (s.setHalves lo hi v).pending = s.pending := rfl

/-! s.setWord a w -/

@[simp] theorem State.setWord_csr (a : Nat) (w : TW) : (s.setWord a w).csr = s.csr := rfl
@[simp] theorem State.setWord_cfg (a : Nat) (w : TW) : (s.setWord a w).cfg = s.cfg := rfl
@[simp] theorem State.setWord_cores (a : Nat) (w : TW) : (s.setWord a w).cores = s.cores := rfl
@[simp] theorem State.setWord_tmb (a : Nat) (w : TW) : (s.setWord a w).tmb = s.tmb := rfl
@[simp] theorem State.setWord_pairs (a : Nat) (w : TW) : (s.setWord a w).pairs = s.pairs := rfl
@[simp] theorem State.setWord_evr (a : Nat) (w : TW) : (s.setWord a w).evr = s.evr := rfl
@[simp] theorem State.setWord_md (a : Nat) (w : TW) : (s.setWord a w).md = s.md := rfl
@[simp] theorem State.setWord_link (a : Nat) (w : TW) : (s.setWord a w).link = s.link := rfl
@[simp] theorem State.setWord_drv (a : Nat) (w : TW) : (s.setWord a w).drv = s.drv := rfl
@[simp] theorem State.setWord_pimg (a : Nat) (w : TW) : (s.setWord a w).pimg = s.pimg := rfl
@[simp] theorem State.setWord_can (a : Nat) (w : TW) : (s.setWord a w).can = s.can := rfl
@[simp] theorem State.setWord_launchRefused (a : Nat) (w : TW) : (s.setWord a w).launchRefused = s.launchRefused := rfl
@[simp] theorem State.setWord_alp (a : Nat) (w : TW) : (s.setWord a w).alp = s.alp := rfl
@[simp] theorem State.setWord_tarn (a : Nat) (w : TW) : (s.setWord a w).tarn = s.tarn := rfl
@[simp] theorem State.setWord_live (a : Nat) (w : TW) : (s.setWord a w).live = s.live := rfl
@[simp] theorem State.setWord_cfg0 (a : Nat) (w : TW) : (s.setWord a w).cfg0 = s.cfg0 := rfl
@[simp] theorem State.setWord_cfg1 (a : Nat) (w : TW) : (s.setWord a w).cfg1 = s.cfg1 := rfl
@[simp] theorem State.setWord_net (a : Nat) (w : TW) : (s.setWord a w).net = s.net := rfl
@[simp] theorem State.setWord_ptp (a : Nat) (w : TW) : (s.setWord a w).ptp = s.ptp := rfl
@[simp] theorem State.setWord_xch (a : Nat) (w : TW) : (s.setWord a w).xch = s.xch := rfl
@[simp] theorem State.setWord_pwr (a : Nat) (w : TW) : (s.setWord a w).pwr = s.pwr := rfl
@[simp] theorem State.setWord_lcs (a : Nat) (w : TW) : (s.setWord a w).lcs = s.lcs := rfl
@[simp] theorem State.setWord_cvu (a : Nat) (w : TW) : (s.setWord a w).cvu = s.cvu := rfl
@[simp] theorem State.setWord_mpu (a : Nat) (w : TW) : (s.setWord a w).mpu = s.mpu := rfl
@[simp] theorem State.setWord_hwif (a : Nat) (w : TW) : (s.setWord a w).hwif = s.hwif := rfl
@[simp] theorem State.setWord_free (a : Nat) (w : TW) : (s.setWord a w).free = s.free := rfl
@[simp] theorem State.setWord_out (a : Nat) (w : TW) : (s.setWord a w).out = s.out := rfl
@[simp] theorem State.setWord_pending (a : Nat) (w : TW) : (s.setWord a w).pending = s.pending := rfl

/-! s.setCore u b c -/

@[simp] theorem State.setCore_csr (u : Nat) (b : Bool) (c : CoreSt) : (s.setCore u b c).csr = s.csr := rfl
@[simp] theorem State.setCore_mem (u : Nat) (b : Bool) (c : CoreSt) : (s.setCore u b c).mem = s.mem := rfl
@[simp] theorem State.setCore_cfg (u : Nat) (b : Bool) (c : CoreSt) : (s.setCore u b c).cfg = s.cfg := rfl
@[simp] theorem State.setCore_tmb (u : Nat) (b : Bool) (c : CoreSt) : (s.setCore u b c).tmb = s.tmb := rfl
@[simp] theorem State.setCore_pairs (u : Nat) (b : Bool) (c : CoreSt) : (s.setCore u b c).pairs = s.pairs := rfl
@[simp] theorem State.setCore_evr (u : Nat) (b : Bool) (c : CoreSt) : (s.setCore u b c).evr = s.evr := rfl
@[simp] theorem State.setCore_md (u : Nat) (b : Bool) (c : CoreSt) : (s.setCore u b c).md = s.md := rfl
@[simp] theorem State.setCore_link (u : Nat) (b : Bool) (c : CoreSt) : (s.setCore u b c).link = s.link := rfl
@[simp] theorem State.setCore_drv (u : Nat) (b : Bool) (c : CoreSt) : (s.setCore u b c).drv = s.drv := rfl
@[simp] theorem State.setCore_pimg (u : Nat) (b : Bool) (c : CoreSt) : (s.setCore u b c).pimg = s.pimg := rfl
@[simp] theorem State.setCore_can (u : Nat) (b : Bool) (c : CoreSt) : (s.setCore u b c).can = s.can := rfl
@[simp] theorem State.setCore_launchRefused (u : Nat) (b : Bool) (c : CoreSt) : (s.setCore u b c).launchRefused = s.launchRefused := rfl
@[simp] theorem State.setCore_alp (u : Nat) (b : Bool) (c : CoreSt) : (s.setCore u b c).alp = s.alp := rfl
@[simp] theorem State.setCore_tarn (u : Nat) (b : Bool) (c : CoreSt) : (s.setCore u b c).tarn = s.tarn := rfl
@[simp] theorem State.setCore_live (u : Nat) (b : Bool) (c : CoreSt) : (s.setCore u b c).live = s.live := rfl
@[simp] theorem State.setCore_cfg0 (u : Nat) (b : Bool) (c : CoreSt) : (s.setCore u b c).cfg0 = s.cfg0 := rfl
@[simp] theorem State.setCore_cfg1 (u : Nat) (b : Bool) (c : CoreSt) : (s.setCore u b c).cfg1 = s.cfg1 := rfl
@[simp] theorem State.setCore_net (u : Nat) (b : Bool) (c : CoreSt) : (s.setCore u b c).net = s.net := rfl
@[simp] theorem State.setCore_ptp (u : Nat) (b : Bool) (c : CoreSt) : (s.setCore u b c).ptp = s.ptp := rfl
@[simp] theorem State.setCore_xch (u : Nat) (b : Bool) (c : CoreSt) : (s.setCore u b c).xch = s.xch := rfl
@[simp] theorem State.setCore_pwr (u : Nat) (b : Bool) (c : CoreSt) : (s.setCore u b c).pwr = s.pwr := rfl
@[simp] theorem State.setCore_lcs (u : Nat) (b : Bool) (c : CoreSt) : (s.setCore u b c).lcs = s.lcs := rfl
@[simp] theorem State.setCore_cvu (u : Nat) (b : Bool) (c : CoreSt) : (s.setCore u b c).cvu = s.cvu := rfl
@[simp] theorem State.setCore_mpu (u : Nat) (b : Bool) (c : CoreSt) : (s.setCore u b c).mpu = s.mpu := rfl
@[simp] theorem State.setCore_hwif (u : Nat) (b : Bool) (c : CoreSt) : (s.setCore u b c).hwif = s.hwif := rfl
@[simp] theorem State.setCore_free (u : Nat) (b : Bool) (c : CoreSt) : (s.setCore u b c).free = s.free := rfl
@[simp] theorem State.setCore_upsets (u : Nat) (b : Bool) (c : CoreSt) : (s.setCore u b c).upsets = s.upsets := rfl
@[simp] theorem State.setCore_out (u : Nat) (b : Bool) (c : CoreSt) : (s.setCore u b c).out = s.out := rfl
@[simp] theorem State.setCore_pending (u : Nat) (b : Bool) (c : CoreSt) : (s.setCore u b c).pending = s.pending := rfl

/-! s.setPair u f -/

@[simp] theorem State.setPair_csr (u : Nat) (f : PairSt → PairSt) : (s.setPair u f).csr = s.csr := rfl
@[simp] theorem State.setPair_mem (u : Nat) (f : PairSt → PairSt) : (s.setPair u f).mem = s.mem := rfl
@[simp] theorem State.setPair_cfg (u : Nat) (f : PairSt → PairSt) : (s.setPair u f).cfg = s.cfg := rfl
@[simp] theorem State.setPair_cores (u : Nat) (f : PairSt → PairSt) : (s.setPair u f).cores = s.cores := rfl
@[simp] theorem State.setPair_tmb (u : Nat) (f : PairSt → PairSt) : (s.setPair u f).tmb = s.tmb := rfl
@[simp] theorem State.setPair_evr (u : Nat) (f : PairSt → PairSt) : (s.setPair u f).evr = s.evr := rfl
@[simp] theorem State.setPair_md (u : Nat) (f : PairSt → PairSt) : (s.setPair u f).md = s.md := rfl
@[simp] theorem State.setPair_link (u : Nat) (f : PairSt → PairSt) : (s.setPair u f).link = s.link := rfl
@[simp] theorem State.setPair_drv (u : Nat) (f : PairSt → PairSt) : (s.setPair u f).drv = s.drv := rfl
@[simp] theorem State.setPair_pimg (u : Nat) (f : PairSt → PairSt) : (s.setPair u f).pimg = s.pimg := rfl
@[simp] theorem State.setPair_can (u : Nat) (f : PairSt → PairSt) : (s.setPair u f).can = s.can := rfl
@[simp] theorem State.setPair_launchRefused (u : Nat) (f : PairSt → PairSt) : (s.setPair u f).launchRefused = s.launchRefused := rfl
@[simp] theorem State.setPair_alp (u : Nat) (f : PairSt → PairSt) : (s.setPair u f).alp = s.alp := rfl
@[simp] theorem State.setPair_tarn (u : Nat) (f : PairSt → PairSt) : (s.setPair u f).tarn = s.tarn := rfl
@[simp] theorem State.setPair_live (u : Nat) (f : PairSt → PairSt) : (s.setPair u f).live = s.live := rfl
@[simp] theorem State.setPair_cfg0 (u : Nat) (f : PairSt → PairSt) : (s.setPair u f).cfg0 = s.cfg0 := rfl
@[simp] theorem State.setPair_cfg1 (u : Nat) (f : PairSt → PairSt) : (s.setPair u f).cfg1 = s.cfg1 := rfl
@[simp] theorem State.setPair_net (u : Nat) (f : PairSt → PairSt) : (s.setPair u f).net = s.net := rfl
@[simp] theorem State.setPair_ptp (u : Nat) (f : PairSt → PairSt) : (s.setPair u f).ptp = s.ptp := rfl
@[simp] theorem State.setPair_xch (u : Nat) (f : PairSt → PairSt) : (s.setPair u f).xch = s.xch := rfl
@[simp] theorem State.setPair_pwr (u : Nat) (f : PairSt → PairSt) : (s.setPair u f).pwr = s.pwr := rfl
@[simp] theorem State.setPair_lcs (u : Nat) (f : PairSt → PairSt) : (s.setPair u f).lcs = s.lcs := rfl
@[simp] theorem State.setPair_cvu (u : Nat) (f : PairSt → PairSt) : (s.setPair u f).cvu = s.cvu := rfl
@[simp] theorem State.setPair_mpu (u : Nat) (f : PairSt → PairSt) : (s.setPair u f).mpu = s.mpu := rfl
@[simp] theorem State.setPair_hwif (u : Nat) (f : PairSt → PairSt) : (s.setPair u f).hwif = s.hwif := rfl
@[simp] theorem State.setPair_free (u : Nat) (f : PairSt → PairSt) : (s.setPair u f).free = s.free := rfl
@[simp] theorem State.setPair_upsets (u : Nat) (f : PairSt → PairSt) : (s.setPair u f).upsets = s.upsets := rfl
@[simp] theorem State.setPair_out (u : Nat) (f : PairSt → PairSt) : (s.setPair u f).out = s.out := rfl
@[simp] theorem State.setPair_pending (u : Nat) (f : PairSt → PairSt) : (s.setPair u f).pending = s.pending := rfl

/-! s.emit o -/

@[simp] theorem State.emit_csr (o : Out) : (s.emit o).csr = s.csr := rfl
@[simp] theorem State.emit_mem (o : Out) : (s.emit o).mem = s.mem := rfl
@[simp] theorem State.emit_cfg (o : Out) : (s.emit o).cfg = s.cfg := rfl
@[simp] theorem State.emit_cores (o : Out) : (s.emit o).cores = s.cores := rfl
@[simp] theorem State.emit_tmb (o : Out) : (s.emit o).tmb = s.tmb := rfl
@[simp] theorem State.emit_pairs (o : Out) : (s.emit o).pairs = s.pairs := rfl
@[simp] theorem State.emit_evr (o : Out) : (s.emit o).evr = s.evr := rfl
@[simp] theorem State.emit_md (o : Out) : (s.emit o).md = s.md := rfl
@[simp] theorem State.emit_link (o : Out) : (s.emit o).link = s.link := rfl
@[simp] theorem State.emit_drv (o : Out) : (s.emit o).drv = s.drv := rfl
@[simp] theorem State.emit_pimg (o : Out) : (s.emit o).pimg = s.pimg := rfl
@[simp] theorem State.emit_can (o : Out) : (s.emit o).can = s.can := rfl
@[simp] theorem State.emit_launchRefused (o : Out) : (s.emit o).launchRefused = s.launchRefused := rfl
@[simp] theorem State.emit_alp (o : Out) : (s.emit o).alp = s.alp := rfl
@[simp] theorem State.emit_tarn (o : Out) : (s.emit o).tarn = s.tarn := rfl
@[simp] theorem State.emit_live (o : Out) : (s.emit o).live = s.live := rfl
@[simp] theorem State.emit_cfg0 (o : Out) : (s.emit o).cfg0 = s.cfg0 := rfl
@[simp] theorem State.emit_cfg1 (o : Out) : (s.emit o).cfg1 = s.cfg1 := rfl
@[simp] theorem State.emit_net (o : Out) : (s.emit o).net = s.net := rfl
@[simp] theorem State.emit_ptp (o : Out) : (s.emit o).ptp = s.ptp := rfl
@[simp] theorem State.emit_xch (o : Out) : (s.emit o).xch = s.xch := rfl
@[simp] theorem State.emit_pwr (o : Out) : (s.emit o).pwr = s.pwr := rfl
@[simp] theorem State.emit_lcs (o : Out) : (s.emit o).lcs = s.lcs := rfl
@[simp] theorem State.emit_cvu (o : Out) : (s.emit o).cvu = s.cvu := rfl
@[simp] theorem State.emit_mpu (o : Out) : (s.emit o).mpu = s.mpu := rfl
@[simp] theorem State.emit_hwif (o : Out) : (s.emit o).hwif = s.hwif := rfl
@[simp] theorem State.emit_free (o : Out) : (s.emit o).free = s.free := rfl
@[simp] theorem State.emit_upsets (o : Out) : (s.emit o).upsets = s.upsets := rfl
@[simp] theorem State.emit_pending (o : Out) : (s.emit o).pending = s.pending := rfl

/-! s.post r -/

@[simp] theorem State.post_mem (r : EvRec) : (s.post r).mem = s.mem := by unfold State.post; split <;> rfl
@[simp] theorem State.post_cfg (r : EvRec) : (s.post r).cfg = s.cfg := by unfold State.post; split <;> rfl
@[simp] theorem State.post_cores (r : EvRec) : (s.post r).cores = s.cores := by unfold State.post; split <;> rfl
@[simp] theorem State.post_tmb (r : EvRec) : (s.post r).tmb = s.tmb := by unfold State.post; split <;> rfl
@[simp] theorem State.post_pairs (r : EvRec) : (s.post r).pairs = s.pairs := by unfold State.post; split <;> rfl
@[simp] theorem State.post_md (r : EvRec) : (s.post r).md = s.md := by unfold State.post; split <;> rfl
@[simp] theorem State.post_link (r : EvRec) : (s.post r).link = s.link := by unfold State.post; split <;> rfl
@[simp] theorem State.post_drv (r : EvRec) : (s.post r).drv = s.drv := by unfold State.post; split <;> rfl
@[simp] theorem State.post_pimg (r : EvRec) : (s.post r).pimg = s.pimg := by unfold State.post; split <;> rfl
@[simp] theorem State.post_can (r : EvRec) : (s.post r).can = s.can := by unfold State.post; split <;> rfl
@[simp] theorem State.post_launchRefused (r : EvRec) : (s.post r).launchRefused = s.launchRefused := by unfold State.post; split <;> rfl
@[simp] theorem State.post_alp (r : EvRec) : (s.post r).alp = s.alp := by unfold State.post; split <;> rfl
@[simp] theorem State.post_tarn (r : EvRec) : (s.post r).tarn = s.tarn := by unfold State.post; split <;> rfl
@[simp] theorem State.post_live (r : EvRec) : (s.post r).live = s.live := by unfold State.post; split <;> rfl
@[simp] theorem State.post_cfg0 (r : EvRec) : (s.post r).cfg0 = s.cfg0 := by unfold State.post; split <;> rfl
@[simp] theorem State.post_cfg1 (r : EvRec) : (s.post r).cfg1 = s.cfg1 := by unfold State.post; split <;> rfl
@[simp] theorem State.post_net (r : EvRec) : (s.post r).net = s.net := by unfold State.post; split <;> rfl
@[simp] theorem State.post_ptp (r : EvRec) : (s.post r).ptp = s.ptp := by unfold State.post; split <;> rfl
@[simp] theorem State.post_xch (r : EvRec) : (s.post r).xch = s.xch := by unfold State.post; split <;> rfl
@[simp] theorem State.post_pwr (r : EvRec) : (s.post r).pwr = s.pwr := by unfold State.post; split <;> rfl
@[simp] theorem State.post_lcs (r : EvRec) : (s.post r).lcs = s.lcs := by unfold State.post; split <;> rfl
@[simp] theorem State.post_cvu (r : EvRec) : (s.post r).cvu = s.cvu := by unfold State.post; split <;> rfl
@[simp] theorem State.post_mpu (r : EvRec) : (s.post r).mpu = s.mpu := by unfold State.post; split <;> rfl
@[simp] theorem State.post_hwif (r : EvRec) : (s.post r).hwif = s.hwif := by unfold State.post; split <;> rfl
@[simp] theorem State.post_free (r : EvRec) : (s.post r).free = s.free := by unfold State.post; split <;> rfl
@[simp] theorem State.post_upsets (r : EvRec) : (s.post r).upsets = s.upsets := by unfold State.post; split <;> rfl
@[simp] theorem State.post_out (r : EvRec) : (s.post r).out = s.out := by unfold State.post; split <;> rfl
@[simp] theorem State.post_pending (r : EvRec) : (s.post r).pending = s.pending := by unfold State.post; split <;> rfl

/-! s.event k l -/

@[simp] theorem State.event_mem (k : EvKind) (l : List Int) : (s.event k l).mem = s.mem := by unfold State.event; split <;> simp
@[simp] theorem State.event_cfg (k : EvKind) (l : List Int) : (s.event k l).cfg = s.cfg := by unfold State.event; split <;> simp
@[simp] theorem State.event_cores (k : EvKind) (l : List Int) : (s.event k l).cores = s.cores := by unfold State.event; split <;> simp
@[simp] theorem State.event_tmb (k : EvKind) (l : List Int) : (s.event k l).tmb = s.tmb := by unfold State.event; split <;> simp
@[simp] theorem State.event_pairs (k : EvKind) (l : List Int) : (s.event k l).pairs = s.pairs := by unfold State.event; split <;> simp
@[simp] theorem State.event_md (k : EvKind) (l : List Int) : (s.event k l).md = s.md := by unfold State.event; split <;> simp
@[simp] theorem State.event_link (k : EvKind) (l : List Int) : (s.event k l).link = s.link := by unfold State.event; split <;> simp
@[simp] theorem State.event_drv (k : EvKind) (l : List Int) : (s.event k l).drv = s.drv := by unfold State.event; split <;> simp
@[simp] theorem State.event_pimg (k : EvKind) (l : List Int) : (s.event k l).pimg = s.pimg := by unfold State.event; split <;> simp
@[simp] theorem State.event_can (k : EvKind) (l : List Int) : (s.event k l).can = s.can := by unfold State.event; split <;> simp
@[simp] theorem State.event_launchRefused (k : EvKind) (l : List Int) : (s.event k l).launchRefused = s.launchRefused := by unfold State.event; split <;> simp
@[simp] theorem State.event_alp (k : EvKind) (l : List Int) : (s.event k l).alp = s.alp := by unfold State.event; split <;> simp
@[simp] theorem State.event_tarn (k : EvKind) (l : List Int) : (s.event k l).tarn = s.tarn := by unfold State.event; split <;> simp
@[simp] theorem State.event_live (k : EvKind) (l : List Int) : (s.event k l).live = s.live := by unfold State.event; split <;> simp
@[simp] theorem State.event_cfg0 (k : EvKind) (l : List Int) : (s.event k l).cfg0 = s.cfg0 := by unfold State.event; split <;> simp
@[simp] theorem State.event_cfg1 (k : EvKind) (l : List Int) : (s.event k l).cfg1 = s.cfg1 := by unfold State.event; split <;> simp
@[simp] theorem State.event_net (k : EvKind) (l : List Int) : (s.event k l).net = s.net := by unfold State.event; split <;> simp
@[simp] theorem State.event_ptp (k : EvKind) (l : List Int) : (s.event k l).ptp = s.ptp := by unfold State.event; split <;> simp
@[simp] theorem State.event_xch (k : EvKind) (l : List Int) : (s.event k l).xch = s.xch := by unfold State.event; split <;> simp
@[simp] theorem State.event_pwr (k : EvKind) (l : List Int) : (s.event k l).pwr = s.pwr := by unfold State.event; split <;> simp
@[simp] theorem State.event_lcs (k : EvKind) (l : List Int) : (s.event k l).lcs = s.lcs := by unfold State.event; split <;> simp
@[simp] theorem State.event_cvu (k : EvKind) (l : List Int) : (s.event k l).cvu = s.cvu := by unfold State.event; split <;> simp
@[simp] theorem State.event_mpu (k : EvKind) (l : List Int) : (s.event k l).mpu = s.mpu := by unfold State.event; split <;> simp
@[simp] theorem State.event_hwif (k : EvKind) (l : List Int) : (s.event k l).hwif = s.hwif := by unfold State.event; split <;> simp
@[simp] theorem State.event_free (k : EvKind) (l : List Int) : (s.event k l).free = s.free := by unfold State.event; split <;> simp
@[simp] theorem State.event_upsets (k : EvKind) (l : List Int) : (s.event k l).upsets = s.upsets := by unfold State.event; split <;> simp
@[simp] theorem State.event_out (k : EvKind) (l : List Int) : (s.event k l).out = s.out := by unfold State.event; split <;> simp
@[simp] theorem State.event_pending (k : EvKind) (l : List Int) : (s.event k l).pending = s.pending := by unfold State.event; split <;> simp

/-! s.hwEvent k l -/

@[simp] theorem State.hwEvent_mem (k : EvKind) (l : List Int) : (s.hwEvent k l).mem = s.mem := by unfold State.hwEvent; split <;> rfl
@[simp] theorem State.hwEvent_cfg (k : EvKind) (l : List Int) : (s.hwEvent k l).cfg = s.cfg := by unfold State.hwEvent; split <;> rfl
@[simp] theorem State.hwEvent_cores (k : EvKind) (l : List Int) : (s.hwEvent k l).cores = s.cores := by unfold State.hwEvent; split <;> rfl
@[simp] theorem State.hwEvent_tmb (k : EvKind) (l : List Int) : (s.hwEvent k l).tmb = s.tmb := by unfold State.hwEvent; split <;> rfl
@[simp] theorem State.hwEvent_pairs (k : EvKind) (l : List Int) : (s.hwEvent k l).pairs = s.pairs := by unfold State.hwEvent; split <;> rfl
@[simp] theorem State.hwEvent_md (k : EvKind) (l : List Int) : (s.hwEvent k l).md = s.md := by unfold State.hwEvent; split <;> rfl
@[simp] theorem State.hwEvent_link (k : EvKind) (l : List Int) : (s.hwEvent k l).link = s.link := by unfold State.hwEvent; split <;> rfl
@[simp] theorem State.hwEvent_drv (k : EvKind) (l : List Int) : (s.hwEvent k l).drv = s.drv := by unfold State.hwEvent; split <;> rfl
@[simp] theorem State.hwEvent_pimg (k : EvKind) (l : List Int) : (s.hwEvent k l).pimg = s.pimg := by unfold State.hwEvent; split <;> rfl
@[simp] theorem State.hwEvent_can (k : EvKind) (l : List Int) : (s.hwEvent k l).can = s.can := by unfold State.hwEvent; split <;> rfl
@[simp] theorem State.hwEvent_launchRefused (k : EvKind) (l : List Int) : (s.hwEvent k l).launchRefused = s.launchRefused := by unfold State.hwEvent; split <;> rfl
@[simp] theorem State.hwEvent_alp (k : EvKind) (l : List Int) : (s.hwEvent k l).alp = s.alp := by unfold State.hwEvent; split <;> rfl
@[simp] theorem State.hwEvent_tarn (k : EvKind) (l : List Int) : (s.hwEvent k l).tarn = s.tarn := by unfold State.hwEvent; split <;> rfl
@[simp] theorem State.hwEvent_live (k : EvKind) (l : List Int) : (s.hwEvent k l).live = s.live := by unfold State.hwEvent; split <;> rfl
@[simp] theorem State.hwEvent_cfg0 (k : EvKind) (l : List Int) : (s.hwEvent k l).cfg0 = s.cfg0 := by unfold State.hwEvent; split <;> rfl
@[simp] theorem State.hwEvent_cfg1 (k : EvKind) (l : List Int) : (s.hwEvent k l).cfg1 = s.cfg1 := by unfold State.hwEvent; split <;> rfl
@[simp] theorem State.hwEvent_net (k : EvKind) (l : List Int) : (s.hwEvent k l).net = s.net := by unfold State.hwEvent; split <;> rfl
@[simp] theorem State.hwEvent_ptp (k : EvKind) (l : List Int) : (s.hwEvent k l).ptp = s.ptp := by unfold State.hwEvent; split <;> rfl
@[simp] theorem State.hwEvent_xch (k : EvKind) (l : List Int) : (s.hwEvent k l).xch = s.xch := by unfold State.hwEvent; split <;> rfl
@[simp] theorem State.hwEvent_pwr (k : EvKind) (l : List Int) : (s.hwEvent k l).pwr = s.pwr := by unfold State.hwEvent; split <;> rfl
@[simp] theorem State.hwEvent_lcs (k : EvKind) (l : List Int) : (s.hwEvent k l).lcs = s.lcs := by unfold State.hwEvent; split <;> rfl
@[simp] theorem State.hwEvent_cvu (k : EvKind) (l : List Int) : (s.hwEvent k l).cvu = s.cvu := by unfold State.hwEvent; split <;> rfl
@[simp] theorem State.hwEvent_mpu (k : EvKind) (l : List Int) : (s.hwEvent k l).mpu = s.mpu := by unfold State.hwEvent; split <;> rfl
@[simp] theorem State.hwEvent_hwif (k : EvKind) (l : List Int) : (s.hwEvent k l).hwif = s.hwif := by unfold State.hwEvent; split <;> rfl
@[simp] theorem State.hwEvent_free (k : EvKind) (l : List Int) : (s.hwEvent k l).free = s.free := by unfold State.hwEvent; split <;> rfl
@[simp] theorem State.hwEvent_upsets (k : EvKind) (l : List Int) : (s.hwEvent k l).upsets = s.upsets := by unfold State.hwEvent; split <;> rfl
@[simp] theorem State.hwEvent_out (k : EvKind) (l : List Int) : (s.hwEvent k l).out = s.out := by unfold State.hwEvent; split <;> rfl
@[simp] theorem State.hwEvent_pending (k : EvKind) (l : List Int) : (s.hwEvent k l).pending = s.pending := by unfold State.hwEvent; split <;> rfl

/-! s.clearWords lo hi -/

@[simp] theorem State.clearWords_csr (lo hi : Nat) : (s.clearWords lo hi).csr = s.csr := rfl
@[simp] theorem State.clearWords_cfg (lo hi : Nat) : (s.clearWords lo hi).cfg = s.cfg := rfl
@[simp] theorem State.clearWords_cores (lo hi : Nat) : (s.clearWords lo hi).cores = s.cores := rfl
@[simp] theorem State.clearWords_tmb (lo hi : Nat) : (s.clearWords lo hi).tmb = s.tmb := rfl
@[simp] theorem State.clearWords_pairs (lo hi : Nat) : (s.clearWords lo hi).pairs = s.pairs := rfl
@[simp] theorem State.clearWords_evr (lo hi : Nat) : (s.clearWords lo hi).evr = s.evr := rfl
@[simp] theorem State.clearWords_md (lo hi : Nat) : (s.clearWords lo hi).md = s.md := rfl
@[simp] theorem State.clearWords_link (lo hi : Nat) : (s.clearWords lo hi).link = s.link := rfl
@[simp] theorem State.clearWords_drv (lo hi : Nat) : (s.clearWords lo hi).drv = s.drv := rfl
@[simp] theorem State.clearWords_pimg (lo hi : Nat) : (s.clearWords lo hi).pimg = s.pimg := rfl
@[simp] theorem State.clearWords_can (lo hi : Nat) : (s.clearWords lo hi).can = s.can := rfl
@[simp] theorem State.clearWords_launchRefused (lo hi : Nat) : (s.clearWords lo hi).launchRefused = s.launchRefused := rfl
@[simp] theorem State.clearWords_alp (lo hi : Nat) : (s.clearWords lo hi).alp = s.alp := rfl
@[simp] theorem State.clearWords_tarn (lo hi : Nat) : (s.clearWords lo hi).tarn = s.tarn := rfl
@[simp] theorem State.clearWords_live (lo hi : Nat) : (s.clearWords lo hi).live = s.live := rfl
@[simp] theorem State.clearWords_cfg0 (lo hi : Nat) : (s.clearWords lo hi).cfg0 = s.cfg0 := rfl
@[simp] theorem State.clearWords_cfg1 (lo hi : Nat) : (s.clearWords lo hi).cfg1 = s.cfg1 := rfl
@[simp] theorem State.clearWords_net (lo hi : Nat) : (s.clearWords lo hi).net = s.net := rfl
@[simp] theorem State.clearWords_ptp (lo hi : Nat) : (s.clearWords lo hi).ptp = s.ptp := rfl
@[simp] theorem State.clearWords_xch (lo hi : Nat) : (s.clearWords lo hi).xch = s.xch := rfl
@[simp] theorem State.clearWords_pwr (lo hi : Nat) : (s.clearWords lo hi).pwr = s.pwr := rfl
@[simp] theorem State.clearWords_lcs (lo hi : Nat) : (s.clearWords lo hi).lcs = s.lcs := rfl
@[simp] theorem State.clearWords_cvu (lo hi : Nat) : (s.clearWords lo hi).cvu = s.cvu := rfl
@[simp] theorem State.clearWords_mpu (lo hi : Nat) : (s.clearWords lo hi).mpu = s.mpu := rfl
@[simp] theorem State.clearWords_hwif (lo hi : Nat) : (s.clearWords lo hi).hwif = s.hwif := rfl
@[simp] theorem State.clearWords_free (lo hi : Nat) : (s.clearWords lo hi).free = s.free := rfl
@[simp] theorem State.clearWords_out (lo hi : Nat) : (s.clearWords lo hi).out = s.out := rfl
@[simp] theorem State.clearWords_pending (lo hi : Nat) : (s.clearWords lo hi).pending = s.pending := rfl


/-! s.setSession id f -/

@[simp] theorem State.setSession_csr (id : Nat) (g : Session → Session) : (s.setSession id g).csr = s.csr := rfl
@[simp] theorem State.setSession_mem (id : Nat) (g : Session → Session) : (s.setSession id g).mem = s.mem := rfl
@[simp] theorem State.setSession_cfg (id : Nat) (g : Session → Session) : (s.setSession id g).cfg = s.cfg := rfl
@[simp] theorem State.setSession_cores (id : Nat) (g : Session → Session) : (s.setSession id g).cores = s.cores := rfl
@[simp] theorem State.setSession_tmb (id : Nat) (g : Session → Session) : (s.setSession id g).tmb = s.tmb := rfl
@[simp] theorem State.setSession_pairs (id : Nat) (g : Session → Session) : (s.setSession id g).pairs = s.pairs := rfl
@[simp] theorem State.setSession_evr (id : Nat) (g : Session → Session) : (s.setSession id g).evr = s.evr := rfl
@[simp] theorem State.setSession_md (id : Nat) (g : Session → Session) : (s.setSession id g).md = s.md := rfl
@[simp] theorem State.setSession_link (id : Nat) (g : Session → Session) : (s.setSession id g).link = s.link := rfl
@[simp] theorem State.setSession_drv (id : Nat) (g : Session → Session) : (s.setSession id g).drv = s.drv := rfl
@[simp] theorem State.setSession_pimg (id : Nat) (g : Session → Session) : (s.setSession id g).pimg = s.pimg := rfl
@[simp] theorem State.setSession_can (id : Nat) (g : Session → Session) : (s.setSession id g).can = s.can := rfl
@[simp] theorem State.setSession_launchRefused (id : Nat) (g : Session → Session) : (s.setSession id g).launchRefused = s.launchRefused := rfl
@[simp] theorem State.setSession_alp (id : Nat) (g : Session → Session) : (s.setSession id g).alp = s.alp := rfl
@[simp] theorem State.setSession_tarn (id : Nat) (g : Session → Session) : (s.setSession id g).tarn = s.tarn := rfl
@[simp] theorem State.setSession_live (id : Nat) (g : Session → Session) : (s.setSession id g).live = s.live := rfl
@[simp] theorem State.setSession_cfg0 (id : Nat) (g : Session → Session) : (s.setSession id g).cfg0 = s.cfg0 := rfl
@[simp] theorem State.setSession_cfg1 (id : Nat) (g : Session → Session) : (s.setSession id g).cfg1 = s.cfg1 := rfl
@[simp] theorem State.setSession_ptp (id : Nat) (g : Session → Session) : (s.setSession id g).ptp = s.ptp := rfl
@[simp] theorem State.setSession_xch (id : Nat) (g : Session → Session) : (s.setSession id g).xch = s.xch := rfl
@[simp] theorem State.setSession_pwr (id : Nat) (g : Session → Session) : (s.setSession id g).pwr = s.pwr := rfl
@[simp] theorem State.setSession_lcs (id : Nat) (g : Session → Session) : (s.setSession id g).lcs = s.lcs := rfl
@[simp] theorem State.setSession_cvu (id : Nat) (g : Session → Session) : (s.setSession id g).cvu = s.cvu := rfl
@[simp] theorem State.setSession_mpu (id : Nat) (g : Session → Session) : (s.setSession id g).mpu = s.mpu := rfl
@[simp] theorem State.setSession_hwif (id : Nat) (g : Session → Session) : (s.setSession id g).hwif = s.hwif := rfl
@[simp] theorem State.setSession_free (id : Nat) (g : Session → Session) : (s.setSession id g).free = s.free := rfl
@[simp] theorem State.setSession_upsets (id : Nat) (g : Session → Session) : (s.setSession id g).upsets = s.upsets := rfl
@[simp] theorem State.setSession_out (id : Nat) (g : Session → Session) : (s.setSession id g).out = s.out := rfl
@[simp] theorem State.setSession_pending (id : Nat) (g : Session → Session) : (s.setSession id g).pending = s.pending := rfl

/-! Sparse maps -/

theorem SMap.find_set_self {α : Type} (m : SMap α) (k : Nat) (v : α) : SMap.find (SMap.set m k v) k = some v := by
  induction m with
  | nil => simp [SMap.set, SMap.find]
  | cons e m ih =>
    obtain ⟨j, w⟩ := e
    unfold SMap.set
    split
    · simp [SMap.find]
    · split
      · simp [SMap.find]
      · simp [SMap.find, *]

theorem SMap.find_set_ne {α : Type} (m : SMap α) {j k : Nat} (v : α) (h : k ≠ j) :
    SMap.find (SMap.set m j v) k = SMap.find m k := by
  induction m with
  | nil => simp [SMap.set, SMap.find, h]
  | cons e m ih =>
    obtain ⟨i, w⟩ := e
    unfold SMap.set
    split
    · simp [SMap.find, h]
    · split
      · subst_vars; simp [SMap.find, h]
      · simp [SMap.find, ih]

theorem SMap.find_erase_self {α : Type} (m : SMap α) (k : Nat) : SMap.find (SMap.erase m k) k = none := by
  induction m with
  | nil => rfl
  | cons e m ih =>
    obtain ⟨i, w⟩ := e
    by_cases hi : i = k
    · simp_all [SMap.erase]
    · have : ¬ k = i := fun h => hi h.symm
      simp_all [SMap.erase, SMap.find]

theorem SMap.find_erase_ne {α : Type} (m : SMap α) {j k : Nat} (h : k ≠ j) : SMap.find (SMap.erase m j) k = SMap.find m k := by
  induction m with
  | nil => rfl
  | cons e m ih =>
    obtain ⟨i, w⟩ := e
    by_cases hi : i = j
    · have : ¬ k = i := by omega
      simp_all [SMap.erase, SMap.find]
    · simp_all [SMap.erase, SMap.find]

theorem SMap.get_put_self {α : Type} [DecidableEq α] (d : α) (m : SMap α) (k : Nat) (v : α) :
    SMap.get d (SMap.put d m k v) k = v := by
  unfold SMap.put SMap.get
  split <;> simp [SMap.find_erase_self, SMap.find_set_self, *]

theorem SMap.get_put_ne {α : Type} [DecidableEq α] (d e : α) (m : SMap α) {j k : Nat} (v : α) (h : k ≠ j) :
    SMap.get e (SMap.put d m j v) k = SMap.get e m k := by
  unfold SMap.put SMap.get
  split <;> simp [SMap.find_erase_ne, SMap.find_set_ne, h]

/-! Register fields -/

@[simp] theorem State.get_set_self (f : Fld) (v : Nat) : (s.set f v).get f = v % 2 ^ f.width := by
  simp [State.get, State.set, SMap.get, SMap.find_set_self]

theorem State.get_set_ne {f g : Fld} (v : Nat) (h : g.key ≠ f.key) : (s.set f v).get g = s.get g := by
  simp [State.get, State.set, SMap.get, SMap.find_set_ne _ _ h]

theorem State.get_eq_of_csr {s t : State} (h : t.csr = s.csr) (f : Fld) : t.get f = s.get f := by
  simp [State.get, h]

@[simp] theorem State.get_setSession (id : Nat) (g : Session → Session) (f : Fld) : (s.setSession id g).get f = s.get f := rfl
@[simp] theorem State.get_emit (o : Out) (f : Fld) : (s.emit o).get f = s.get f := rfl
@[simp] theorem State.get_setWord (a : Nat) (w : TW) (f : Fld) : (s.setWord a w).get f = s.get f := rfl
@[simp] theorem State.get_setCore (u : Nat) (b : Bool) (c : CoreSt) (f : Fld) : (s.setCore u b c).get f = s.get f := rfl

theorem State.get_post (r : EvRec) {f : Fld} (h : f.key ∉ evFlds.map Fld.key) : (s.post r).get f = s.get f := by
  simp [evFlds] at h
  unfold State.post State.incSat State.addSat
  split
  · rw [State.get_set_ne _ _ h.2.1]; rfl
  · rw [State.get_set_ne _ _ h.2.2]; rfl

theorem State.get_event (k : EvKind) (l : List Int) {f : Fld} (h : f.key ∉ evFlds.map Fld.key) :
    (s.event k l).get f = s.get f := by
  unfold State.event
  split
  · rfl
  · exact State.get_post _ _ h

theorem State.get_hwEvent (k : EvKind) (l : List Int) {f : Fld} (h : f.key ∉ evFlds.map Fld.key) :
    (s.hwEvent k l).get f = s.get f := by
  simp [evFlds] at h
  unfold State.hwEvent
  split
  · rw [State.get_set_ne _ _ h.1]; rfl
  · rfl

/-! Fields kept -/

theorem KeepRegs.refl (l : List Fld) : KeepRegs s s l := fun _ _ => rfl

theorem KeepRegs.trans {s t u : State} {l : List Fld} (h : KeepRegs s t l) (h' : KeepRegs t u l) : KeepRegs s u l :=
  fun f hf => (h' f hf).trans (h f hf)

theorem KeepRegs.mono {s t : State} {l m : List Fld} (h : KeepRegs s t l) (hs : ∀ f ∈ l.map Fld.key, f ∈ m.map Fld.key) :
    KeepRegs s t m := fun f hf => h f fun hm => hf (hs _ hm)

theorem KeepRegs.set {s t : State} {l : List Fld} (h : KeepRegs s t l) (f : Fld) (v : Nat) (hf : f.key ∈ l.map Fld.key) :
    KeepRegs s (t.set f v) l :=
  fun g hg => (State.get_set_ne t v fun e => hg (by rw [e]; exact hf)).trans (h g hg)

theorem KeepRegs.event {s t : State} {l : List Fld} (h : KeepRegs s t l) (k : EvKind) (a : List Int)
    (he : ∀ x ∈ evFlds.map Fld.key, x ∈ l.map Fld.key) : KeepRegs s (t.event k a) l :=
  fun g hg => (State.get_event t k a fun e => hg (he _ e)).trans (h g hg)

theorem KeepRegs.csr {s t u : State} {l : List Fld} (h : KeepRegs s t l) (e : u.csr = t.csr) : KeepRegs s u l :=
  fun g hg => (State.get_eq_of_csr e g).trans (h g hg)

/-! Cores and pairs -/

theorem coreKey_inj {u v : Nat} {b c : Bool} (h : coreKey u b = coreKey v c) : u = v ∧ b = c := by
  unfold coreKey at h
  cases b <;> cases c <;> simp at h ⊢ <;> omega

@[simp] theorem State.core_setCore_self (u : Nat) (b : Bool) (c : CoreSt) : (s.setCore u b c).core u b = c :=
  SMap.get_put_self ..

theorem State.core_setCore_ne {u v : Nat} {b d : Bool} (c : CoreSt) (h : v = u → d ≠ b) :
    (s.setCore u b c).core v d = s.core v d :=
  SMap.get_put_ne _ _ _ _ fun e => h (coreKey_inj e).1 (coreKey_inj e).2

@[simp] theorem State.pair_setPair_self (u : Nat) (f : PairSt → PairSt) : (s.setPair u f).pair u = f (s.pair u) :=
  SMap.get_put_self ..

theorem State.pair_setPair_ne {u v : Nat} (f : PairSt → PairSt) (h : v ≠ u) : (s.setPair u f).pair v = s.pair v :=
  SMap.get_put_ne _ _ _ _ h

@[simp] theorem State.pair_setCore (u v : Nat) (b : Bool) (c : CoreSt) : (s.setCore u b c).pair v = s.pair v := rfl
@[simp] theorem State.pair_set (f : Fld) (v u : Nat) : (s.set f v).pair u = s.pair u := rfl
@[simp] theorem State.core_setPair (u v : Nat) (b : Bool) (f : PairSt → PairSt) : (s.setPair u f).core v b = s.core v b := rfl
@[simp] theorem State.core_set (f : Fld) (v u : Nat) (b : Bool) : (s.set f v).core u b = s.core u b := rfl
@[simp] theorem State.get_setPair (u : Nat) (f : PairSt → PairSt) (g : Fld) : (s.setPair u f).get g = s.get g := rfl

/-! Memory words -/

@[simp] theorem State.word_setWord_self (a : Nat) (w : TW) : (s.setWord a w).word a = w := by
  simp [State.word, State.setWord, SMap.get_put_self]

theorem State.word_setWord_ne {a b : Nat} (w : TW) (h : b ≠ a) : (s.setWord a w).word b = s.word b := by
  simp [State.word, State.setWord, SMap.get_put_ne _ _ _ w h]

end Sys2Proof.Machine
end

