-- ==== Sys2Proof/Laws/Memory.lean ====
section
/-! SUPPORT. The memory's canonical form: every memory operation keeps it, and the memory after reset has it. -/

namespace Sys2Proof.Machine

/-! Sparse maps -/

/-- A lower bound of every key. -/
def SMap.above {α : Type} (k : Nat) (m : SMap α) : Prop := ∀ e ∈ m, k < e.1

theorem SMap.sorted_cons {α : Type} {e : Nat × α} {m : SMap α} (h : SMap.sorted (e :: m) = true) :
    SMap.above e.1 m ∧ SMap.sorted m = true := by
  induction m generalizing e with
  | nil => exact ⟨(fun _ h => nomatch h), rfl⟩
  | cons d m ih =>
    obtain ⟨j, v⟩ := e
    obtain ⟨k, w⟩ := d
    simp only [SMap.sorted, Bool.and_eq_true, decide_eq_true_eq] at h
    refine ⟨fun x hx => ?_, h.2⟩
    rcases List.mem_cons.1 hx with rfl | hx
    · exact h.1
    · exact Nat.lt_trans h.1 ((ih h.2).1 x hx)

theorem SMap.sorted_of_above {α : Type} {e : Nat × α} {m : SMap α} (h : SMap.above e.1 m) (hm : SMap.sorted m = true) :
    SMap.sorted (e :: m) = true := by
  obtain ⟨j, v⟩ := e
  cases m with
  | nil => rfl
  | cons d m =>
    obtain ⟨k, w⟩ := d
    simp only [SMap.sorted, Bool.and_eq_true, decide_eq_true_eq]
    exact ⟨h (k, w) (List.mem_cons_self ..), hm⟩

theorem SMap.sorted_filter {α : Type} (p : Nat × α → Bool) {m : SMap α} (h : SMap.sorted m = true) :
    SMap.sorted (m.filter p) = true := by
  induction m with
  | nil => rfl
  | cons e m ih =>
    have hc := SMap.sorted_cons h
    rw [List.filter_cons]
    split
    · exact SMap.sorted_of_above (fun x hx => hc.1 x (List.mem_filter.1 hx).1) (ih hc.2)
    · exact ih hc.2

theorem SMap.mem_set {α : Type} {m : SMap α} {k : Nat} {v : α} {e : Nat × α} (h : e ∈ SMap.set m k v) : e = (k, v) ∨ e ∈ m := by
  induction m with
  | nil => exact .inl (List.mem_singleton.1 h)
  | cons d m ih =>
    obtain ⟨j, w⟩ := d
    simp only [SMap.set] at h
    split at h
    · exact (List.mem_cons.1 h)
    · split at h
      · exact (List.mem_cons.1 h).imp id (List.mem_cons_of_mem _)
      · rcases List.mem_cons.1 h with rfl | h
        · exact .inr (List.mem_cons_self ..)
        · exact (ih h).imp id (List.mem_cons_of_mem _)

theorem SMap.sorted_set {α : Type} (k : Nat) (v : α) {m : SMap α} (h : SMap.sorted m = true) : SMap.sorted (SMap.set m k v) = true := by
  induction m with
  | nil => rfl
  | cons d m ih =>
    obtain ⟨j, w⟩ := d
    have hc := SMap.sorted_cons h
    simp only [SMap.set]
    split
    · rename_i hk
      refine SMap.sorted_of_above (fun x hx => ?_) h
      rcases List.mem_cons.1 hx with rfl | hx
      · exact hk
      · exact Nat.lt_trans hk (hc.1 x hx)
    · split
      · rename_i hk
        subst hk
        exact SMap.sorted_of_above hc.1 hc.2
      · rename_i h1 h2
        refine SMap.sorted_of_above (fun x hx => ?_) (ih hc.2)
        rcases SMap.mem_set hx with rfl | hx
        · show j < k; omega
        · exact hc.1 x hx

/-- A filtered map keeps the canonical form. -/
theorem SMap.wf_filter {α : Type} [DecidableEq α] {d : Nat → α} (p : Nat × α → Bool) {m : SMap α} (h : SMap.wf d m = true) :
    SMap.wf d (m.filter p) = true := by
  simp only [SMap.wf, Bool.and_eq_true, List.all_eq_true] at h ⊢
  exact ⟨SMap.sorted_filter p h.1, fun x hx => h.2 x (List.mem_filter.1 hx).1⟩

/-- A write keeps the canonical form. -/
theorem SMap.wf_put {α : Type} [DecidableEq α] {d : Nat → α} (k : Nat) (v : α) {m : SMap α} (h : SMap.wf d m = true) :
    SMap.wf d (SMap.put (d k) m k v) = true := by
  unfold SMap.put
  split
  · exact SMap.wf_filter _ h
  · rename_i hv
    simp only [SMap.wf, Bool.and_eq_true, List.all_eq_true, decide_eq_true_eq] at h ⊢
    refine ⟨SMap.sorted_set k v h.1, fun x hx => ?_⟩
    rcases SMap.mem_set hx with rfl | hx
    · exact hv
    · exact h.2 x hx

/-! Memory operations -/

theorem MemWf.of_mem {s t : State} (h : MemWf s) (e : t.mem = s.mem) : MemWf t := by
  unfold MemWf at h ⊢; rw [e]; exact h

theorem MemWf.setWord {s : State} (h : MemWf s) (a : Nat) (w : TW) : MemWf (s.setWord a w) := SMap.wf_put a w h

theorem MemWf.setWords {s : State} (h : MemWf s) (a : Nat) (l : List TW) : MemWf (s.setWords a l) := by
  induction l generalizing s a with
  | nil => exact h
  | cons w l ih => exact ih (h.setWord a w) (a + 1)

theorem MemWf.clearWords {s : State} (h : MemWf s) (lo hi : Nat) : MemWf (s.clearWords lo hi) := SMap.wf_filter _ h

/-- What each step of a list keeps, the whole list keeps. -/
theorem State.each_induct {α : Type} {P : State → Prop} {f : α → State → State} {l : List α} {s : State} (h : P s)
    (hf : ∀ a ∈ l, ∀ t, P t → P (f a t)) : P (s.each l f) := by
  induction l generalizing s with
  | nil => exact h
  | cons a l ih =>
    exact ih (hf a (List.mem_cons_self ..) s h) fun b hb => hf b (List.mem_cons_of_mem _ hb)

theorem MemWf.each {α : Type} {f : α → State → State} {l : List α} {s : State} (h : MemWf s)
    (hf : ∀ a ∈ l, ∀ t, MemWf t → MemWf (f a t)) : MemWf (s.each l f) := State.each_induct h hf

theorem State.word_setWords_ne {s : State} {a b : Nat} {l : List TW} (h : b < a ∨ a + l.length ≤ b) :
    (s.setWords a l).word b = s.word b := by
  induction l generalizing s a with
  | nil => rfl
  | cons w l ih =>
    simp only [List.length_cons] at h
    rw [State.setWords, ih (by omega), State.word_setWord_ne]
    omega

theorem State.word_setWords {s : State} {a k : Nat} {l : List TW} (h : k < l.length) :
    (s.setWords a l).word (a + k) = l[k] := by
  induction l generalizing s a k with
  | nil => exact absurd h (Nat.not_lt_zero k)
  | cons w l ih =>
    cases k with
    | zero =>
      rw [State.setWords, State.word_setWords_ne (by omega)]
      exact State.word_setWord_self s a w
    | succ k =>
      have := ih (s := s.setWord a w) (a := a + 1) (k := k) (by simpa using h)
      rw [State.setWords, show a + (k + 1) = a + 1 + k by omega, this]
      rfl

/-- The memory after reset has the canonical form. -/
theorem MemWf.reset : MemWf State.reset := rfl

end Sys2Proof.Machine
end

