-- ==== Sys2Proof/Laws/Ops.lean ====
section
/-! SUPPORT. What the shared operations can do, one lemma for each: requests, frames, port writes, channels, checks and
instructions. The statements' proofs cite these and do not unfold the operations. -/

namespace Sys2Proof.Machine

variable {s t : State}

/-! Commands -/

theorem Next.intro {c : Instr} {P : State → Prop} (h : exec c s = .next t) (p : P t) : Next c s P := ⟨t, h, p⟩

theorem Next.mono {c : Instr} {P Q : State → Prop} (h : Next c s P) (i : ∀ t, P t → Q t) : Next c s Q :=
  let ⟨t, e, p⟩ := h; ⟨t, e, i t p⟩

/-- A session that asks is served by the request's own effect, and its status is the last thing sent. -/
theorem State.request_asks {sess role : Nat} {c : Caller} (f : Caller → Nat × State) (h : Asks s sess c role) :
    s.request sess f = ((f c).2.setSession sess fun y => { y with lastReq := s.now }).emit (.status sess (f c).1) := by
  obtain ⟨h1, h2, -, h4, h5, h6⟩ := h
  simp [State.request, State.ask, h1, h2, h4, Nat.not_le.mpr h5, Nat.not_le.mpr h6]

/-- A request without a session does nothing. -/
theorem State.request_none {sess : Nat} (f : Caller → Nat × State) (h : s.caller sess = none) (h' : s.session sess = none) :
    s.request sess f = s := by
  unfold State.request State.ask
  split <;> simp [h, h']

theorem answers_emit (sess code : Nat) : Answers (s.emit (.status sess code)) sess code := by
  simp [Answers, State.emit]

/-! Keeping registers and words -/

theorem SameMem.of_mem (h : t.mem = s.mem) : SameMem s t := fun a => by simp [State.word, h]

theorem SameMem.trans {u : State} (h : SameMem s t) (h' : SameMem t u) : SameMem s u := fun a => (h' a).trans (h a)

theorem KeepWords.of_mem {p : Nat → Prop} (h : t.mem = s.mem) : KeepWords s t p := fun a _ => by simp [State.word, h]

theorem KeepWords.trans {p : Nat → Prop} {u : State} (h : KeepWords s t p) (h' : KeepWords t u p) : KeepWords s u p :=
  fun a ha => (h' a ha).trans (h a ha)

theorem KeepWords.setWord {p : Nat → Prop} {a : Nat} (h : KeepWords s t p) (ha : p a) (w : TW) : KeepWords s (t.setWord a w) p :=
  fun b hb => (State.word_setWord_ne t w fun e => hb (by rw [e]; exact ha)).trans (h b hb)

/-! Events -/

/-- What an event changes: the recorder's own part and the fields that show it. -/
theorem State.event_keeps (k : EvKind) (l : List Int) :
    KeepRegs s (s.event k l) evFlds ∧ SameMem s (s.event k l) ∧ (s.event k l).mode = s.mode :=
  ⟨fun _ h => State.get_event s k l h, SameMem.of_mem (State.event_mem s k l),
    State.get_event s k l (by decide)⟩

/-- An event of a class that is not suppressed joins the FIFO while it has room. -/
theorem State.event_posts (k : EvKind) (l : List Int) : Posts s (s.event k l) k.cls := by
  intro h1 h2
  refine ⟨s.evRec k l, ?_, rfl⟩
  simp [State.event, h1, State.post, h2, State.set]

/-! Instructions -/

/-- An access that both checkers permit changes nothing. -/
theorem State.mpuCheck_ok {x : Access} (h : (s.mpuCheck x).1 = true) : (s.mpuCheck x).2 = s := by
  unfold State.mpuCheck at h ⊢
  dsimp only at h ⊢
  split at h
  · cases h
  · split at h
    · rw [if_neg (by assumption), if_pos (by assumption)]
    · cases h

/-- A read of an undamaged word gives it and changes nothing. -/
theorem State.eccRead_clean {a : Nat} (g : Agent) (h : s.flips a = 0#80) : s.eccRead g a = (some (s.word a), s) := by
  simp [State.eccRead, State.eccReadAt, h]

/-- A unit that is ready fetches without effect. -/
theorem State.fetch_ready {c : CoreId} (h : Ready c s) : s.fetch c = (none, s) := by
  obtain ⟨-, -, h3, h4, h5, -⟩ := h
  unfold State.fetch
  simp only [State.mpuCheck_ok h3, h3, State.eccRead_clean (agFetch c.unit) h4]
  simp only [Bool.not_true, Bool.false_eq_true, if_false, Prod.mk.injEq, and_true]
  exact if_neg (by simpa using h5)

/-- Registers without an upset are read as they are. -/
theorem State.fileReads_clean {u : Nat} {b : Bool} (h : (s.core u b).rflips = []) (l : List GReg) : s.fileReads u b l = (true, s) := by
  induction l with
  | nil => rfl
  | cons r l ih =>
    have e : s.fileRead u b r = (true, s) := by
      unfold State.fileRead
      simp only [h]
      rfl
    unfold State.fileReads
    rw [e]
    exact ih

theorem State.lead_mem_crew (s : State) (c : CoreId) : s.lead c ∈ s.crew c := by
  unfold State.lead State.crew
  cases s.isSplit c.unit <;> simp

/-- A unit that is ready performs what its leading core decides. -/
theorem State.runUnit_ready {c : CoreId} (i : Instr) (up : BitVec 80) (h : Ready c s) :
    s.runUnit c i up = s.perform c i ((isaOp i).act (s.coreAt c)) up := by
  have hf := State.fetch_ready h
  obtain ⟨h1, h2, -, -, -, h6, h7⟩ := h
  have hs : s.strike c = s := by simp [State.strike, h2, State.each]
  have hm : s.makeRoom c = (true, s) := by
    unfold State.makeRoom
    refine if_pos ?_
    cases e : s.isSplit c.unit
    · exact .inr (h7 e).1
    · exact .inl rfl
  unfold State.runUnit
  simp only [hs, hm, hf, h1, State.fileReads_clean (h6 _ (State.lead_mem_crew s c)), Bool.not_true, Bool.false_eq_true, if_false]
  rfl

theorem State.noteOcc_keeps (u n : Nat) : s.noteOcc u n = { s with csr := (s.noteOcc u n).csr } ∧
    KeepRegs s (s.noteOcc u n) [Reg.ustMaxocc u] ∧
    (n < 16 → (s.noteOcc u n).get (Reg.ustMaxocc u) = max (s.get (Reg.ustMaxocc u)) n) := by
  unfold State.noteOcc
  split
  · exact ⟨rfl, (KeepRegs.refl s _).set _ _ (by simp), fun h => by
      rw [State.get_set_self]
      show n % 16 = _
      omega⟩
  · exact ⟨rfl, KeepRegs.refl s _, fun _ => by omega⟩

/-- A token that a core of a split pair has retired is noted in its pair alone. -/
theorem State.noteStep_keeps (c : CoreId) (k : CoreSt) :
    (∀ u b, (s.noteStep c k).core u b = s.core u b) ∧ (∀ u : Fin 13, u ≠ c.unit → (s.noteStep c k).pair u = s.pair u) ∧
      ∃ a p, (s.noteStep c k).pair c.unit = { s.pair c.unit with lastAt := s.tmb.raw, lastIaddr := a, lastPriv := p } ∧
        (c.core = false → a = k.iaddr ∧ p = k.priv) := by
  refine ⟨fun _ _ => rfl, fun u e => State.pair_setPair_ne _ _ fun e' => e (Fin.ext e'), ?_⟩
  unfold State.noteStep
  rw [State.pair_setPair_self]
  cases c.core
  · exact ⟨_, _, rfl, fun _ => ⟨rfl, rfl⟩⟩
  · exact ⟨_, _, rfl, fun h => by cases h⟩

/-- What `finish` does for an instruction without a write, and on a locked unit for any. -/
theorem State.finish_retires {c : CoreId} (i : Instr) (a : Act) (w : TW) (smp : Option (BitVec 3 × TW))
    (held : Option (Nat × TW)) (h : Ready c s) (hh : s.isSplit c.unit = true → held = none) :
    Retires i c s (s.finish c i a w smp held) (smp.map (·.2)) held (a.step w) := by
  obtain ⟨-, -, -, -, -, -, h7⟩ := h
  unfold State.finish
  split
  · rename_i hs
    rw [hh hs]
    have hl : s.lead c = c.core := by simp [State.lead, hs]
    obtain ⟨k1, k2, x, y, k3, k4⟩ := State.noteStep_keeps
      (s := s.setCore c.unit c.core (a.step w (s.core c.unit (s.lead c)))) c (s.core c.unit (s.lead c))
    refine ⟨rfl, KeepRegs.refl s _, ?_, fun u b e => ?_, fun u e => (k2 u e).trans rfl, ?_, ?_, fun e => ?_, ?_⟩
    · show State.core _ _ _ = _
      rw [k1, State.coreAt, hl, State.core_setCore_self]
    · rw [k1]
      exact State.core_setCore_ne _ _ fun e' => hl ▸ e (Fin.ext e')
    · simp only [k3]; rfl
    · simp only [k3]; rfl
    · simpa only [k3] using k4 e
    · rw [if_pos hs]
      exact ⟨by simp only [k3]; rfl, rfl⟩
  · rename_i hs
    have hs' : s.isSplit c.unit = false := by simpa using hs
    have hl : s.lead c = false := by simp [State.lead, hs']
    obtain ⟨-, h8⟩ := h7 hs'
    unfold State.retire0
    rw [if_neg (by omega)]
    dsimp only
    generalize hq : (s.pair c.unit).fifo ++ _ = q
    have hlen : q.length < 16 := by
      subst hq
      cases smp <;> simp <;> omega
    have hf : q.take (s.pair c.unit).fifo.length = (s.pair c.unit).fifo ∧
        (q.drop (s.pair c.unit).fifo.length).map (·.word) = ((smp.map (·.2)).map lanesOf).toList ∧
        ∀ e ∈ q.drop (s.pair c.unit).fifo.length, e.stamp = (s.pair c.unit).count0 ∧ e.parity = parityBits e.bits := by
      subst hq
      cases smp <;> simp [FifoEntry.make, FifoEntry.bits]
    have e1 : ((s.setCore c.unit false (a.step w (s.core c.unit false))).setPair c.unit fun x =>
        { x with count0 := x.count0 + 1, lastAt := s.tmb.raw, lastIaddr := (s.core c.unit false).iaddr,
                 lastPriv := (s.core c.unit false).priv, ahead := x.ahead ++ [⟨i, (s.core c.unit false).iaddr, (s.core c.unit false).priv,
                   a.token (s.core c.unit (s.lead c)).iaddr, held⟩], fifo := q }).csr = s.csr := rfl
    generalize hv : ((s.setCore c.unit false (a.step w (s.core c.unit false))).setPair c.unit _) = v at e1 ⊢
    obtain ⟨k1, k2, k3⟩ := State.noteOcc_keeps (s := v) c.unit q.length
    have kc : ∀ u b, (v.noteOcc c.unit q.length).core u b = v.core u b := fun u b => by rw [k1]; rfl
    have kp : ∀ u, (v.noteOcc c.unit q.length).pair u = v.pair u := fun u => by rw [k1]; rfl
    have kr : KeepRegs s (v.noteOcc c.unit q.length) [Reg.ustMaxocc c.unit] := ((KeepRegs.refl s _).csr e1).trans k2
    have km : (v.noteOcc c.unit q.length).get (Reg.ustMaxocc c.unit) = max (s.get (Reg.ustMaxocc c.unit)) q.length := by
      rw [k3 hlen, State.get_eq_of_csr e1]
    refine ⟨?_, kr, ?_, fun u b e => ?_, fun u e => ?_, ?_, ?_, fun _ => ?_, ?_⟩
    · rw [k1]; subst hv; rfl
    · rw [kc, hl]; subst hv; simp [State.coreAt, hl]
    · rw [kc]; subst hv
      simp only [State.core_setPair]
      exact State.core_setCore_ne _ _ fun e' => hl ▸ e (Fin.ext e')
    · rw [kp]; subst hv
      rw [State.pair_setPair_ne _ _ fun e' => e (Fin.ext e')]
      rfl
    · rw [kp]; subst hv; simp
    · rw [kp]; subst hv; simp
    · rw [kp]; subst hv; simp [State.coreAt, hl]
    · rw [if_neg (by simp [hs']), kp]
      subst hv
      simp only [State.pair_setPair_self, State.pair_setCore]
      refine ⟨trivial, ?_, km, hf⟩
      simp [State.coreAt, hl]

/-- Where nothing is outstanding and the cores agree, they meet at once: both retire one token, and nothing else changes. -/
theorem State.meet_level {c : CoreId} (i : Instr) (b : Bool) (toks : Act → CoreSt → List Token) (h : Ready c s) (l : Level c s) :
    ∃ t, s.meet c i b toks = (true, t) ∧ t = { s with csr := t.csr, pairs := t.pairs } ∧ KeepRegs s t [Reg.ustMaxocc c.unit] ∧
      (t.pair c.unit).lastAt = s.tmb.raw ∧ (∀ u : Fin 13, u ≠ c.unit → t.pair u = s.pair u) ∧
      (s.isSplit c.unit = false → (t.pair c.unit).ahead = [] ∧
        (t.pair c.unit).count0 = (s.pair c.unit).count0 + 1 ∧ (t.pair c.unit).count1 = (s.pair c.unit).count1 + 1) := by
  obtain ⟨-, -, -, -, -, h6, -⟩ := h
  have ne : ∀ {u : Fin 13}, u ≠ c.unit → u.val ≠ c.unit.val := fun e e' => e (Fin.ext e')
  unfold State.meet
  dsimp only
  cases hs : s.isSplit c.unit
  · obtain ⟨l1, l2, l3⟩ := l hs
    have hd : s.drain State.writeAt c.unit = (true, s) := by
      unfold State.drain
      simp [hs, l1, State.retires]
    have hr : (s.core c.unit true).rflips = [] := h6 _ (by simp [State.crew, hs])
    have hz : ∀ m : List Token, s.compare c.unit (m.zip m) = (none, s) := by
      intro m
      induction m with
      | nil => rfl
      | cons x m ih => simpa [State.compare, State.present1, l3] using ih
    simp only [hd, State.fileReads_clean hr, l2, hz, Bool.false_eq_true, if_false]
    generalize hv : (if b = true then s.noteOcc c.unit 1 else s) = v
    have kv : v = { s with csr := v.csr } ∧ KeepRegs s v [Reg.ustMaxocc c.unit] := by
      subst hv
      cases b
      · exact ⟨rfl, KeepRegs.refl s _⟩
      · exact ⟨(State.noteOcc_keeps c.unit.val 1).1, (State.noteOcc_keeps c.unit.val 1).2.1⟩
    have kp : ∀ u, v.pair u = s.pair u := fun u => by rw [kv.1]; rfl
    refine ⟨_, rfl, by rw [kv.1]; rfl, kv.2.csr rfl, by simp, fun u e => ?_, fun _ => ?_⟩
    · rw [State.pair_setPair_ne _ _ (ne e), kp]
    · simp [kp, l1]
  · obtain ⟨-, k2, x, y, k3, -⟩ := State.noteStep_keeps (s := s) c (s.core c.unit c.core)
    exact ⟨_, rfl, rfl, KeepRegs.refl s _, by simp only [k3], k2, fun e => by simp at e⟩

/-! Process image -/

theorem State.setSyncDirty_keeps (l : List Nat) :
    KeepRegs s (s.setSyncDirty l) [Reg.syncDs, Reg.syncDr] ∧ (s.setSyncDirty l).mem = s.mem :=
  ⟨((KeepRegs.csr (KeepRegs.refl s _) rfl).set _ _ (by decide)).set _ _ (by decide), rfl⟩

theorem State.noteSync_keeps (a : Nat) : KeepRegs s (s.noteSync a) [Reg.syncDs, Reg.syncDr] ∧ (s.noteSync a).mem = s.mem := by
  unfold State.noteSync
  split
  · exact ⟨KeepRegs.refl s _, rfl⟩
  · exact State.setSyncDirty_keeps _

theorem State.setPoint_keeps (p : Nat) (w : TW) :
    KeepRegs s (s.setPoint p w) [Reg.syncDs, Reg.syncDr] ∧ KeepWords s (s.setPoint p w) (· = p) ∧ (s.setPoint p w).word p = w ∧
      (MemWf s → MemWf (s.setPoint p w)) := by
  have h := State.noteSync_keeps (s := s.setWord p w) p
  refine ⟨h.1, fun a ha => ?_, ?_, fun m => (m.setWord p w).of_mem h.2⟩
  · rw [State.setPoint, ← State.word_setWord_ne s w ha]; simp [State.word, h.2]
  · have e : (s.setPoint p w).word p = (s.setWord p w).word p := by simp [State.setPoint, State.word, h.2]
    rw [e, State.word_setWord_self]

/-- A write through the port changes the word of its point and SYNC's dirty counts, nothing else of memory and
registers. -/
theorem State.portWrite_keeps (kind p : Nat) (w : TW) :
    KeepRegs s (s.portWrite kind p w) [Reg.syncDs, Reg.syncDr] ∧ KeepWords s (s.portWrite kind p w) (· = p) ∧
      (MemWf s → MemWf (s.portWrite kind p w)) := by
  have same : ∀ {u : State}, u.csr = s.csr → u.mem = s.mem →
      KeepRegs s u [Reg.syncDs, Reg.syncDr] ∧ KeepWords s u (· = p) ∧ (MemWf s → MemWf u) :=
    fun e m => ⟨(KeepRegs.refl s _).csr e, KeepWords.of_mem m, fun h => h.of_mem m⟩
  unfold State.portWrite
  split
  · exact same rfl rfl
  · have k : ∀ v, KeepRegs s (s.setPoint p v) [Reg.syncDs, Reg.syncDr] ∧ KeepWords s (s.setPoint p v) (· = p) ∧
        (MemWf s → MemWf (s.setPoint p v)) := fun v =>
      have h := State.setPoint_keeps (s := s) p v
      ⟨h.1, h.2.1, h.2.2.2⟩
    unfold State.applyWrite
    split
    · exact same rfl rfl
    · exact same rfl rfl
    · exact k _
    · exact k _

theorem State.status_keeps (p : Nat) (w : TW) :
    KeepRegs s (s.status p w) [Reg.syncDs, Reg.syncDr] ∧ KeepWords s (s.status p w) (· = p) ∧ (MemWf s → MemWf (s.status p w)) := by
  have k : ∀ v : TW, KeepRegs s (if v = w then s else s.portWrite 3 p w) [Reg.syncDs, Reg.syncDr] ∧
      KeepWords s (if v = w then s else s.portWrite 3 p w) (· = p) ∧
      (MemWf s → MemWf (if v = w then s else s.portWrite 3 p w)) := fun v => by
    split
    · exact ⟨KeepRegs.refl s _, fun _ _ => rfl, id⟩
    · exact State.portWrite_keeps 3 p w
  exact k _

/-! CAN -/

/-- A change of a channel: its own state and the fields that show it. -/
theorem State.setChan_keeps (n : Nat) (f : CanChan → CanChan) :
    KeepRegs s (s.setChan n f) (chanFlds n) ∧ s.setChan n f = { s with csr := (s.setChan n f).csr, can := SMap.put {} s.can n (f (s.chan n)) } := by
  unfold State.setChan State.showChan
  dsimp only
  split
  · exact ⟨(((((KeepRegs.csr (KeepRegs.refl s _) rfl).set _ _ (by simp [chanFlds])).set _ _ (by simp [chanFlds])).set _ _
      (by simp [chanFlds])).set _ _ (by simp [chanFlds])), rfl⟩
  · exact ⟨((((KeepRegs.csr (KeepRegs.refl s _) rfl).set _ _ (by simp [chanFlds])).set _ _ (by simp [chanFlds])).set _ _
      (by simp [chanFlds])), rfl⟩

theorem State.chan_setChan_self (n : Nat) (f : CanChan → CanChan) : (s.setChan n f).chan n = f (s.chan n) := by
  rw [State.chan, (State.setChan_keeps n f).2]
  exact SMap.get_put_self ..

theorem State.chan_setChan_ne {m n : Nat} (f : CanChan → CanChan) (h : m ≠ n) : (s.setChan n f).chan m = s.chan m := by
  rw [State.chan, (State.setChan_keeps n f).2]
  exact SMap.get_put_ne _ _ _ _ h

/-! Protection -/

/-- Where no region is enabled, the default map decides alone for a core pair (R412). -/
theorem State.decideBy_default {x : Access} (c : Nat) (h : ∀ r ∈ List.range 64, (s.get (Reg.rAttr c r)).testBit 8 = false)
    (m : x.master < 12) (p : x.priv = true) (d : areaOf x.addr = .data) (k : x.kind ≠ .exec) :
    s.decideBy c x = ⟨true, 0x7F, 0⟩ := by
  have n : s.deciding c x = none := by
    simp only [State.deciding, State.regionHit, List.find?_eq_none]
    intro r hr
    simp [h r hr]
  have b : defaultMap (x.master == 12) x.master x.kind x.addr = true := by
    unfold defaultMap
    rw [d]
    cases hk : x.kind <;> simp_all
  unfold State.decideBy
  rw [if_neg (by omega), if_neg (by omega), if_neg (by simp [d]), if_neg (by simp [d]), n]
  simp only [State.noRegion, p, b, Bool.not_true, Bool.false_eq_true, if_false, if_true]
  rw [if_pos (by omega)]

/-- The stub reads and writes the data banks where no region is enabled (R412). -/
theorem State.stubRun_default {p : Nat} {k : AccKind} (h : ∀ c ∈ [0, 1], ∀ r ∈ List.range 64, (s.get (Reg.rAttr c r)).testBit 8 = false)
    (e : s.get Reg.mpuEpoch = s.mpu.epoch1) (hp : p < 24) (hk : k ≠ .exec) :
    ∀ (n a : Nat), a + n ≤ 0x400000 → s.stubRun p k a n = (true, s)
  | 0, _, _ => rfl
  | n + 1, a, ha => by
    have d : areaOf a = .data := if_pos (by omega)
    have c : ∀ x : Access, x.master < 12 → x.priv = true → areaOf x.addr = .data → x.kind ≠ .exec → s.mpuCheck x = (true, s) := by
      intro x m q y z
      unfold State.mpuCheck
      rw [State.decideBy_default 0 (h 0 (by simp)) m q y z, State.decideBy_default 1 (h 1 (by simp)) m q y z]
      simp [e]
    have o : s.stubAccess p k a = (true, s) := by
      have g : p / 2 < 12 := by omega
      unfold State.stubAccess
      dsimp only
      rw [c ⟨p / 2, k, true, a, _, _, _⟩ g rfl d hk]
      rfl
    rw [State.stubRun, o]
    exact State.stubRun_default h e hp hk n (a + 1) (by omega)

/-! Link -/

/-- The frame checks as the receiving operation makes them. -/
theorem State.receive_new {lane : Fin 2} {f : EwxFrame} {ty : Nat} {fr : Frame} (k : Frame → State → State) (h : NewFrame s lane f ty fr)
    (a : ackType ty = false) :
    s.receive lane.val f ty k = k fr { s with link := { s.link with seen := ((ty * 2 ^ 32 + fr.seq) :: s.link.seen).take 512 } } := by
  obtain ⟨-, h2, h3, h4, h5⟩ := h
  unfold frameOf at h3
  split at h3
  · cases h3
  · rename_i hc
    split at h3
    · rename_i g hp
      split at h3
      · rename_i hq
        cases h3
        subst h4
        unfold State.receive
        simp only [h2, hp, hq, a, Bool.not_true, Bool.false_eq_true, if_false, if_neg hc, ne_eq, not_true]
        rw [if_neg h5]
      · cases h3
    · cases h3

/-! The clock -/

theorem clockOf_pos (mac : Nat) : 0 < clockOf mac := by
  have h : 0 < 0xFFFE * 2 ^ 24 + mac % 2 ^ 24 := by omega
  exact Nat.add_pos_right _ h

theorem clockId_pos : 0 < clockId := clockOf_pos _

end Sys2Proof.Machine
end

