-- ==== Sys2Proof/WellFormed.lean ====
section
/-! DEFINITION. Well-formed commands: what the operands of a command are when it can reach the module. The meanings are
total and do not rest on it. -/

namespace Sys2Proof

/-- A core is named on a pair that can run split; the supervisor pair never does (R224). -/
def CoreId.ok (c : CoreId) : Bool := decide (c.unit.val < 12) || !c.core

/-- Data bytes that a DLC code gives: at most 8 in a classic frame (R359, R361). -/
def dlcLength (fdf : Bool) (d : BitVec 4) : Nat :=
  let n := d.toNat
  if n ≤ 8 then n
  else if !fdf then 8
  else if n ≤ 12 then (n - 6) * 4
  else (n - 11) * 16

/-- A frame of CAN: an 11-bit identifier where it is standard, no data in a remote frame, which is classic, the FD bits
in FD frames only, and as many bytes as the DLC gives. -/
def CanFrame.ok (f : CanFrame) : Bool :=
  (f.ide || decide (f.id.toNat < 2048)) && (!f.rtr || !f.fdf) && (f.fdf || (!f.brs && !f.esi)) &&
    f.data.length == (if f.rtr then 0 else dlcLength f.fdf f.dlc)

/-- A trigger record: the ten words of a received frame, or none (R371). -/
def triggerRecordOk (r : List TW) : Bool := r.length == 0 || r.length == 10

/-- Two MAC addresses and a VLAN tag or none (R317). -/
def PeerHead.ok (h : PeerHead) : Bool := h.group.length == 6 && h.src.length == 6 && (h.tag.length == 0 || h.tag.length == 4)

/-- A CAN frame carries at most 64 bytes (R331, R359). -/
def VopcFrame.ok (f : VopcFrame) : Bool := decide (f.id.toNat < 2 ^ 29) && decide (f.bytes.length ≤ 64)

/-- The core that an instruction names; none for the other commands. -/
def Instr.coreId : Instr → Option CoreId
  | .supplyReturn .. => none
  | .bootEnd .. => none
  | .feedDomainCollapse => none
  | .feedsLowWarning .. => none
  | .singleFeedLoss .. => none
  | .singleFeedReturn .. => none
  | .join .. => none
  | .start .. => none
  | .isolate .. => none
  | .isolateSolo .. => none
  | .isolateSoloLapse .. => none
  | .swap .. => none
  | .restart .. => none
  | .safe .. => none
  | .authenticatedReset .. => none
  | .modeRequest .. => none
  | .autoJoin => none
  | .autoStart => none
  | .autoJoinRetryWait => none
  | .latchingFault .. => none
  | .pendingTransitionBoundary => none
  | .heartbeatSend => none
  | .heartbeat .. => none
  | .laneDown .. => none
  | .laneTraining .. => none
  | .heartbeatAbsent => none
  | .settleIntervalExpiry => none
  | .toggleAbsent => none
  | .exit .. => none
  | .startClaim .. => none
  | .startClaimWaitExpiry => none
  | .swapProposal .. => none
  | .swapAcceptance .. => none
  | .swapConfirmation .. => none
  | .swapAcceptanceDeadline => none
  | .swapBoundary => none
  | .swapReversal => none
  | .snapshot .. => none
  | .trigger .. => none
  | .aocmd .. => none
  | .seal .. => none
  | .sealRecordMissing .. => none
  | .targetedSelfTestEnd .. => none
  | .diag .. => none
  | .diagTimeout => none
  | .weir .. => none
  | .syncdata .. => none
  | .syncctl .. => none
  | .syncPhaseEnd => none
  | .syncFinalWindow => none
  | .convergenceLimitExpiry => none
  | .mirror .. => none
  | .object .. => none
  | .manifest .. => none
  | .echo .. => none
  | .echoSend .. => none
  | .ack .. => none
  | .ackRetryExpiry .. => none
  | .intentTaken => none
  | .release .. => none
  | .snapshotComplete .. => none
  | .endOfCycle .. => none
  | .outputInstant .. => none
  | .urgentTrigger .. => none
  | .urgentPendingDispatch .. => none
  | .urgentBudgetExpiry .. => none
  | .urgentStorePublish .. => none
  | .dozeEntry .. => none
  | .dozeLead .. => none
  | .dozeRefresh .. => none
  | .weirSearchArm .. => none
  | .weirWindowOpen => none
  | .weirDecision => none
  | .weirApply => none
  | .weirHorizonExpiry => none
  | .usoftWrite .. => none
  | .add c .. => some c
  | .sub c .. => some c
  | .mul c .. => some c
  | .mulh c .. => some c
  | .div c .. => some c
  | .rem c .. => some c
  | .neg c .. => some c
  | .abs c .. => some c
  | .clamp c .. => some c
  | .fadd c .. => some c
  | .fsub c .. => some c
  | .fmul c .. => some c
  | .fdiv c .. => some c
  | .fma c .. => some c
  | .fsqrt c .. => some c
  | .fabs c .. => some c
  | .fneg c .. => some c
  | .fclamp c .. => some c
  | .tadd c .. => some c
  | .tsub c .. => some c
  | .trel c .. => some c
  | .padd c .. => some c
  | .psub c .. => some c
  | .pmul c .. => some c
  | .and c .. => some c
  | .or c .. => some c
  | .xor c .. => some c
  | .not c .. => some c
  | .shl c .. => some c
  | .shr c .. => some c
  | .sar c .. => some c
  | .rot c .. => some c
  | .ext c .. => some c
  | .ins c .. => some c
  | .ceq c .. => some c
  | .cne c .. => some c
  | .clt c .. => some c
  | .cle c .. => some c
  | .cun c .. => some c
  | .sel c .. => some c
  | .min c .. => some c
  | .max c .. => some c
  | .tget c .. => some c
  | .tset c .. => some c
  | .tcpy c .. => some c
  | .qmin c .. => some c
  | .cvtif c .. => some c
  | .cvtfi c .. => some c
  | .cvtiu c .. => some c
  | .cvtui c .. => some c
  | .retype c .. => some c
  | .ppack c .. => some c
  | .phi c .. => some c
  | .plo c .. => some c
  | .ld c .. => some c
  | .st c .. => some c
  | .ldx c .. => some c
  | .stx c .. => some c
  | .bz c .. => some c
  | .bnz c .. => some c
  | .bq c .. => some c
  | .blim c .. => some c
  | .bfrc c .. => some c
  | .j c .. => some c
  | .call c .. => some c
  | .ret c => some c
  | .limm c .. => some c
  | .lshi c .. => some c
  | .wait c => some c
  | .trap c .. => some c
  | .csrr c .. => some c
  | .csrw c .. => some c
  | .tnow c .. => some c
  | .fence c => some c
  | .eret c => some c
  | .crr c .. => some c
  | .crw c .. => some c
  | .comparisonTimeout .. => none
  | .pairStall .. => none
  | .supervisorSeal => none
  | .injectionTest .. => none
  | .canaryReading .. => none
  | .scrubAccess .. => none
  | .scrubIntervalEnd => none
  | .mpuRuleWrite .. => none
  | .mpuDrainComplete .. => none
  | .mpuDrainTimeout => none
  | .load .. => none
  | .partnerLoadReportTimeout => none
  | .activate .. => none
  | .trialStart .. => none
  | .trialAbort .. => none
  | .exchange .. => none
  | .exchangeAbort .. => none
  | .rollback .. => none
  | .releaseSlot .. => none
  | .trialStateTake => none
  | .precopyFirstPassEnd => none
  | .urgentEndKeepCopy .. => none
  | .forceRequest .. => none
  | .removeForce .. => none
  | .removeAllForces .. => none
  | .forceApply => none
  | .freshnessExpiry .. => none
  | .writePortQueueApply => none
  | .peerFrameReceive .. => none
  | .ethernetFrameReceive .. => none
  | .arpIcmpAnswer .. => none
  | .netLaunch .. => none
  | .dtlsHandshake .. => none
  | .sessionIdleTimeout => none
  | .read .. => none
  | .write .. => none
  | .segInit .. => none
  | .segData .. => none
  | .segEnd .. => none
  | .sessionOpen .. => none
  | .eventRead .. => none
  | .keepalive .. => none
  | .segmentTimeout => none
  | .single .. => none
  | .first .. => none
  | .consecutive .. => none
  | .abort .. => none
  | .vopcFrameGapTimeout => none
  | .stagingWrite .. => none
  | .commit .. => none
  | .discard .. => none
  | .consistencyCheckEnd .. => none
  | .configurationCopyWritten => none
  | .liveWrite .. => none
  | .liveGroupWrite .. => none
  | .liveFieldTakeup => none
  | .timeMonitorWindow .. => none
  | .ptpMessageReceive .. => none
  | .announceReceiptTimeout .. => none
  | .syncTransmit .. => none
  | .timeStep .. => none
  | .armOneStep .. => none
  | .rateWrite .. => none
  | .timeLatchRead => none
  | .canFrameReceive .. => none
  | .canArbitrationStart .. => none
  | .canTransmitComplete .. => none
  | .canError .. => none
  | .recover .. => none
  | .recoveryDelayExpiry .. => none
  | .busOffRecoveryComplete .. => none
  | .canBusIdleSwitch .. => none
  | .objectLockRead .. => none
  | .objectLastWordRead .. => none
  | .objectSelect .. => none
  | .objectLockTimeout .. => none
  | .queue .. => none
  | .withdraw .. => none
  | .aoMeasurement .. => none
  | .guardEngagementLoss .. => none
  | .partnerExcess .. => none
  | .rampEnd .. => none
  | .aiConversion .. => none
  | .aiDriftComparison .. => none
  | .clearDrift .. => none
  | .fskResponse .. => none
  | .fskResponseTimeout .. => none
  | .scanStart .. => none
  | .scanEnd .. => none
  | .cvuSelfTest .. => none
  | .post .. => none
  | .recordCommit => none
  | .cellMeasurement .. => none
  | .counterCopy => none
  | .tamperOpening .. => none
  | .rollingCheck .. => none
  | .proofTestDue => none
  | .firmwareTransfer .. => none
  | .bootFirmwareSlot .. => none
  | .raiseFirmwareMinimum .. => none
  | .imageKeyEnrolment .. => none
  | .trustAnchor .. => none
  | .moduleCertificate .. => none
  | .lifeCycleChange .. => none
  | .writeLifeCycleEntry => none
  | .revokeImageKeySlot => none
  | .writeImageKeySlot => none
  | .raiseFwmin => none
  | .maintenanceBusTransaction .. => none
  | .mailboxDelivery => none
  | .tapInstruction .. => none
  | .tapTestExit => none
  | .dapAccess .. => none
  | .laneRetrain .. => none
  | .csrWrite .. => none
  | .partnerToggleEdge => none
  | .laneTrained .. => none
  | .eweoxFrameDiscard .. => none
  | .operatingTimeSecond => none
  | .holdupDomainLoss => none
  | .partnerContributionReturn .. => none
  | .announceTransmit .. => none
  | .delayRequestTransmit .. => none
  | .fskPollDue .. => none
  | .fskRequestEnd .. => none
  | .lifeCycleChangeResume .. => none

def Instr.wellFormed : Instr → Bool
  | .supplyReturn .. => true
  | .bootEnd .. => true
  | .feedDomainCollapse => true
  | .feedsLowWarning .. => true
  | .singleFeedLoss .. => true
  | .singleFeedReturn .. => true
  | .join .. => true
  | .start .. => true
  | .isolate .. => true
  | .isolateSolo .. => true
  | .isolateSoloLapse .. => true
  | .swap .. => true
  | .restart .. => true
  | .safe .. => true
  | .authenticatedReset .. => true
  | .modeRequest .. => true
  | .autoJoin => true
  | .autoStart => true
  | .autoJoinRetryWait => true
  | .latchingFault .. => true
  | .pendingTransitionBoundary => true
  | .heartbeatSend => true
  | .heartbeat .. => true
  | .laneDown .. => true
  | .laneTraining .. => true
  | .heartbeatAbsent => true
  | .settleIntervalExpiry => true
  | .toggleAbsent => true
  | .exit .. => true
  | .startClaim .. => true
  | .startClaimWaitExpiry => true
  | .swapProposal .. => true
  | .swapAcceptance .. => true
  | .swapConfirmation .. => true
  | .swapAcceptanceDeadline => true
  | .swapBoundary => true
  | .swapReversal => true
  | .snapshot .. => true
  | .trigger .. => true
  | .aocmd .. => true
  | .seal .. => true
  | .sealRecordMissing .. => true
  | .targetedSelfTestEnd .. => true
  | .diag .. => true
  | .diagTimeout => true
  | .weir .. => true
  | .syncdata .. => true
  | .syncctl .. => true
  | .syncPhaseEnd => true
  | .syncFinalWindow => true
  | .convergenceLimitExpiry => true
  | .mirror .. => true
  | .object .. => true
  | .manifest .. => true
  | .echo .. => true
  | .echoSend .. => true
  | .ack .. => true
  | .ackRetryExpiry .. => true
  | .intentTaken => true
  | .release .. => true
  | .snapshotComplete .. => true
  | .endOfCycle .. => true
  | .outputInstant .. => true
  | .urgentTrigger _ _ rec => triggerRecordOk rec
  | .urgentPendingDispatch .. => true
  | .urgentBudgetExpiry .. => true
  | .urgentStorePublish .. => true
  | .dozeEntry .. => true
  | .dozeLead .. => true
  | .dozeRefresh .. => true
  | .weirSearchArm .. => true
  | .weirWindowOpen => true
  | .weirDecision => true
  | .weirApply => true
  | .weirHorizonExpiry => true
  | .usoftWrite .. => true
  | .add c _ _ _ => c.ok
  | .sub c _ _ _ => c.ok
  | .mul c _ _ _ => c.ok
  | .mulh c _ _ _ => c.ok
  | .div c _ _ _ => c.ok
  | .rem c _ _ _ => c.ok
  | .neg c _ _ _ => c.ok
  | .abs c _ _ _ => c.ok
  | .clamp c _ _ _ _ => c.ok
  | .fadd c _ _ _ => c.ok
  | .fsub c _ _ _ => c.ok
  | .fmul c _ _ _ => c.ok
  | .fdiv c _ _ _ => c.ok
  | .fma c _ _ _ _ => c.ok
  | .fsqrt c _ _ _ => c.ok
  | .fabs c _ _ _ => c.ok
  | .fneg c _ _ _ => c.ok
  | .fclamp c _ _ _ _ => c.ok
  | .tadd c _ _ _ => c.ok
  | .tsub c _ _ _ => c.ok
  | .trel c _ => c.ok
  | .padd c _ _ _ _ => c.ok
  | .psub c _ _ _ _ => c.ok
  | .pmul c _ _ _ _ => c.ok
  | .and c _ _ _ => c.ok
  | .or c _ _ _ => c.ok
  | .xor c _ _ _ => c.ok
  | .not c _ _ _ => c.ok
  | .shl c _ _ _ => c.ok
  | .shr c _ _ _ => c.ok
  | .sar c _ _ _ => c.ok
  | .rot c _ _ _ => c.ok
  | .ext c _ _ _ => c.ok
  | .ins c _ _ _ => c.ok
  | .ceq c _ _ _ => c.ok
  | .cne c _ _ _ => c.ok
  | .clt c _ _ _ => c.ok
  | .cle c _ _ _ => c.ok
  | .cun c _ _ _ => c.ok
  | .sel c _ _ _ _ => c.ok
  | .min c _ _ _ => c.ok
  | .max c _ _ _ => c.ok
  | .tget c _ _ => c.ok
  | .tset c _ _ _ _ => c.ok
  | .tcpy c _ _ _ _ => c.ok
  | .qmin c _ _ _ _ => c.ok
  | .cvtif c _ _ _ => c.ok
  | .cvtfi c _ _ _ => c.ok
  | .cvtiu c _ _ _ => c.ok
  | .cvtui c _ _ _ => c.ok
  | .retype c _ _ _ _ => c.ok
  | .ppack c _ _ _ _ => c.ok
  | .phi c _ _ _ => c.ok
  | .plo c _ _ _ => c.ok
  | .ld c _ _ _ _ => c.ok
  | .st c _ _ _ => c.ok
  | .ldx c _ _ _ _ => c.ok
  | .stx c _ _ _ => c.ok
  | .bz c _ _ => c.ok
  | .bnz c _ _ => c.ok
  | .bq c _ _ _ => c.ok
  | .blim c _ _ => c.ok
  | .bfrc c _ _ => c.ok
  | .j c _ => c.ok
  | .call c _ => c.ok
  | .ret c => c.ok
  | .limm c _ _ => c.ok
  | .lshi c _ _ => c.ok
  | .wait c => c.ok
  | .trap c _ => c.ok
  | .csrr c _ _ => c.ok
  | .csrw c _ _ => c.ok
  | .tnow c _ => c.ok
  | .fence c => c.ok
  | .eret c => c.ok
  | .crr c _ _ _ => c.ok
  | .crw c _ _ _ => c.ok
  | .comparisonTimeout .. => true
  | .pairStall .. => true
  | .supervisorSeal => true
  | .injectionTest .. => true
  | .canaryReading .. => true
  | .scrubAccess .. => true
  | .scrubIntervalEnd => true
  | .mpuRuleWrite .. => true
  | .mpuDrainComplete .. => true
  | .mpuDrainTimeout => true
  | .load .. => true
  | .partnerLoadReportTimeout => true
  | .activate .. => true
  | .trialStart .. => true
  | .trialAbort .. => true
  | .exchange .. => true
  | .exchangeAbort .. => true
  | .rollback .. => true
  | .releaseSlot .. => true
  | .trialStateTake => true
  | .precopyFirstPassEnd => true
  | .urgentEndKeepCopy .. => true
  | .forceRequest .. => true
  | .removeForce .. => true
  | .removeAllForces .. => true
  | .forceApply => true
  | .freshnessExpiry .. => true
  | .writePortQueueApply => true
  | .peerFrameReceive _ h _ => h.ok
  | .ethernetFrameReceive .. => true
  | .arpIcmpAnswer .. => true
  | .netLaunch .. => true
  | .dtlsHandshake .. => true
  | .sessionIdleTimeout => true
  | .read .. => true
  | .write .. => true
  | .segInit .. => true
  | .segData .. => true
  | .segEnd .. => true
  | .sessionOpen .. => true
  | .eventRead .. => true
  | .keepalive .. => true
  | .segmentTimeout => true
  | .single _ f _ _ => f.ok
  | .first _ f => f.ok
  | .consecutive _ f _ _ => f.ok
  | .abort _ f => f.ok
  | .vopcFrameGapTimeout => true
  | .stagingWrite .. => true
  | .commit .. => true
  | .discard .. => true
  | .consistencyCheckEnd .. => true
  | .configurationCopyWritten => true
  | .liveWrite .. => true
  | .liveGroupWrite .. => true
  | .liveFieldTakeup => true
  | .timeMonitorWindow .. => true
  | .ptpMessageReceive .. => true
  | .announceReceiptTimeout .. => true
  | .syncTransmit .. => true
  | .timeStep .. => true
  | .armOneStep .. => true
  | .rateWrite .. => true
  | .timeLatchRead => true
  | .canFrameReceive _ f _ => f.ok
  | .canArbitrationStart .. => true
  | .canTransmitComplete .. => true
  | .canError .. => true
  | .recover .. => true
  | .recoveryDelayExpiry .. => true
  | .busOffRecoveryComplete .. => true
  | .canBusIdleSwitch .. => true
  | .objectLockRead .. => true
  | .objectLastWordRead .. => true
  | .objectSelect .. => true
  | .objectLockTimeout .. => true
  | .queue .. => true
  | .withdraw .. => true
  | .aoMeasurement .. => true
  | .guardEngagementLoss .. => true
  | .partnerExcess .. => true
  | .rampEnd .. => true
  | .aiConversion .. => true
  | .aiDriftComparison .. => true
  | .clearDrift .. => true
  | .fskResponse .. => true
  | .fskResponseTimeout .. => true
  | .scanStart .. => true
  | .scanEnd .. => true
  | .cvuSelfTest .. => true
  | .post .. => true
  | .recordCommit => true
  | .cellMeasurement .. => true
  | .counterCopy => true
  | .tamperOpening .. => true
  | .rollingCheck .. => true
  | .proofTestDue => true
  | .firmwareTransfer .. => true
  | .bootFirmwareSlot .. => true
  | .raiseFirmwareMinimum .. => true
  | .imageKeyEnrolment .. => true
  | .trustAnchor .. => true
  | .moduleCertificate .. => true
  | .lifeCycleChange .. => true
  | .writeLifeCycleEntry => true
  | .revokeImageKeySlot => true
  | .writeImageKeySlot => true
  | .raiseFwmin => true
  | .maintenanceBusTransaction .. => true
  | .mailboxDelivery => true
  | .tapInstruction .. => true
  | .tapTestExit => true
  | .dapAccess .. => true
  | .laneRetrain .. => true
  | .csrWrite .. => true
  | .partnerToggleEdge => true
  | .laneTrained .. => true
  | .eweoxFrameDiscard .. => true
  | .operatingTimeSecond => true
  | .holdupDomainLoss => true
  | .partnerContributionReturn .. => true
  | .announceTransmit .. => true
  | .delayRequestTransmit .. => true
  | .fskPollDue .. => true
  | .fskRequestEnd .. => true
  | .lifeCycleChangeResume .. => true

end Sys2Proof
end

