-- ==== Sys2Proof/Laws/PerInstr.lean ====
section
/-! SUPPORT. Statements for all commands, one lemma per constructor. -/

namespace Sys2Proof.Laws

/-- A well-formed instruction names core 1 on CP0 to CP11 only (R224). -/
def CoreNamed.Statement (i : Instr) : Prop := ∀ c, i.coreId = some c → i.wellFormed = true → c.core = true → c.unit.val < 12

/-- From the core's own check. -/
theorem CoreNamed.of_ok {c : CoreId} (h : c.ok = true) (k : c.core = true) : c.unit.val < 12 := by
  simpa [CoreId.ok, k] using h

theorem CoreNamed.supplyReturn (a b : Bool) : CoreNamed.Statement (.supplyReturn a b) := fun _ h => nomatch h
theorem CoreNamed.bootEnd (env : BootEnv) : CoreNamed.Statement (.bootEnd env) := fun _ h => nomatch h
theorem CoreNamed.feedDomainCollapse : CoreNamed.Statement .feedDomainCollapse := fun _ h => nomatch h
theorem CoreNamed.feedsLowWarning (va vb : BitVec 16) : CoreNamed.Statement (.feedsLowWarning va vb) := fun _ h => nomatch h
theorem CoreNamed.singleFeedLoss (f : Fin 2) (va vb : BitVec 16) : CoreNamed.Statement (.singleFeedLoss f va vb) := fun _ h => nomatch h
theorem CoreNamed.singleFeedReturn (f : Fin 2) (va vb : BitVec 16) : CoreNamed.Statement (.singleFeedReturn f va vb) := fun _ h => nomatch h
theorem CoreNamed.join (sess : Nat) : CoreNamed.Statement (.join sess) := fun _ h => nomatch h
theorem CoreNamed.start (sess : Nat) : CoreNamed.Statement (.start sess) := fun _ h => nomatch h
theorem CoreNamed.isolate (sess : Nat) : CoreNamed.Statement (.isolate sess) := fun _ h => nomatch h
theorem CoreNamed.isolateSolo (sess : Nat) : CoreNamed.Statement (.isolateSolo sess) := fun _ h => nomatch h
theorem CoreNamed.isolateSoloLapse (sess : Nat) : CoreNamed.Statement (.isolateSoloLapse sess) := fun _ h => nomatch h
theorem CoreNamed.swap (sess : Nat) : CoreNamed.Statement (.swap sess) := fun _ h => nomatch h
theorem CoreNamed.restart (sess : Nat) : CoreNamed.Statement (.restart sess) := fun _ h => nomatch h
theorem CoreNamed.safe (sess : Nat) : CoreNamed.Statement (.safe sess) := fun _ h => nomatch h
theorem CoreNamed.authenticatedReset (sess : Nat) (count : BitVec 32) (cause : BitVec 8) : CoreNamed.Statement (.authenticatedReset sess count cause) := fun _ h => nomatch h
theorem CoreNamed.modeRequest (w : BitVec 32) : CoreNamed.Statement (.modeRequest w) := fun _ h => nomatch h
theorem CoreNamed.autoJoin : CoreNamed.Statement .autoJoin := fun _ h => nomatch h
theorem CoreNamed.autoStart : CoreNamed.Statement .autoStart := fun _ h => nomatch h
theorem CoreNamed.autoJoinRetryWait : CoreNamed.Statement .autoJoinRetryWait := fun _ h => nomatch h
theorem CoreNamed.latchingFault (d : Detection) : CoreNamed.Statement (.latchingFault d) := fun _ h => nomatch h
theorem CoreNamed.pendingTransitionBoundary : CoreNamed.Statement .pendingTransitionBoundary := fun _ h => nomatch h
theorem CoreNamed.heartbeatSend : CoreNamed.Statement .heartbeatSend := fun _ h => nomatch h
theorem CoreNamed.heartbeat (lane : Fin 2) (f : EwxFrame) : CoreNamed.Statement (.heartbeat lane f) := fun _ h => nomatch h
theorem CoreNamed.laneDown (lane : Fin 2) : CoreNamed.Statement (.laneDown lane) := fun _ h => nomatch h
theorem CoreNamed.laneTraining (lane : Fin 2) : CoreNamed.Statement (.laneTraining lane) := fun _ h => nomatch h
theorem CoreNamed.heartbeatAbsent : CoreNamed.Statement .heartbeatAbsent := fun _ h => nomatch h
theorem CoreNamed.settleIntervalExpiry : CoreNamed.Statement .settleIntervalExpiry := fun _ h => nomatch h
theorem CoreNamed.toggleAbsent : CoreNamed.Statement .toggleAbsent := fun _ h => nomatch h
theorem CoreNamed.exit (lane : Fin 2) (f : EwxFrame) : CoreNamed.Statement (.exit lane f) := fun _ h => nomatch h
theorem CoreNamed.startClaim (lane : Fin 2) (f : EwxFrame) : CoreNamed.Statement (.startClaim lane f) := fun _ h => nomatch h
theorem CoreNamed.startClaimWaitExpiry : CoreNamed.Statement .startClaimWaitExpiry := fun _ h => nomatch h
theorem CoreNamed.swapProposal (lane : Fin 2) (f : EwxFrame) : CoreNamed.Statement (.swapProposal lane f) := fun _ h => nomatch h
theorem CoreNamed.swapAcceptance (lane : Fin 2) (f : EwxFrame) : CoreNamed.Statement (.swapAcceptance lane f) := fun _ h => nomatch h
theorem CoreNamed.swapConfirmation (lane : Fin 2) (f : EwxFrame) : CoreNamed.Statement (.swapConfirmation lane f) := fun _ h => nomatch h
theorem CoreNamed.swapAcceptanceDeadline : CoreNamed.Statement .swapAcceptanceDeadline := fun _ h => nomatch h
theorem CoreNamed.swapBoundary : CoreNamed.Statement .swapBoundary := fun _ h => nomatch h
theorem CoreNamed.swapReversal : CoreNamed.Statement .swapReversal := fun _ h => nomatch h
theorem CoreNamed.snapshot (lane : Fin 2) (f : EwxFrame) : CoreNamed.Statement (.snapshot lane f) := fun _ h => nomatch h
theorem CoreNamed.trigger (lane : Fin 2) (f : EwxFrame) : CoreNamed.Statement (.trigger lane f) := fun _ h => nomatch h
theorem CoreNamed.aocmd (lane : Fin 2) (f : EwxFrame) : CoreNamed.Statement (.aocmd lane f) := fun _ h => nomatch h
theorem CoreNamed.seal (lane : Fin 2) (f : EwxFrame) : CoreNamed.Statement (.seal lane f) := fun _ h => nomatch h
theorem CoreNamed.sealRecordMissing (task : Fin 24) : CoreNamed.Statement (.sealRecordMissing task) := fun _ h => nomatch h
theorem CoreNamed.targetedSelfTestEnd (comparator fifo : Bool) : CoreNamed.Statement (.targetedSelfTestEnd comparator fifo) := fun _ h => nomatch h
theorem CoreNamed.diag (lane : Fin 2) (f : EwxFrame) : CoreNamed.Statement (.diag lane f) := fun _ h => nomatch h
theorem CoreNamed.diagTimeout : CoreNamed.Statement .diagTimeout := fun _ h => nomatch h
theorem CoreNamed.weir (lane : Fin 2) (f : EwxFrame) : CoreNamed.Statement (.weir lane f) := fun _ h => nomatch h
theorem CoreNamed.syncdata (lane : Fin 2) (f : EwxFrame) : CoreNamed.Statement (.syncdata lane f) := fun _ h => nomatch h
theorem CoreNamed.syncctl (lane : Fin 2) (f : EwxFrame) : CoreNamed.Statement (.syncctl lane f) := fun _ h => nomatch h
theorem CoreNamed.syncPhaseEnd : CoreNamed.Statement .syncPhaseEnd := fun _ h => nomatch h
theorem CoreNamed.syncFinalWindow : CoreNamed.Statement .syncFinalWindow := fun _ h => nomatch h
theorem CoreNamed.convergenceLimitExpiry : CoreNamed.Statement .convergenceLimitExpiry := fun _ h => nomatch h
theorem CoreNamed.mirror (lane : Fin 2) (f : EwxFrame) : CoreNamed.Statement (.mirror lane f) := fun _ h => nomatch h
theorem CoreNamed.object (lane : Fin 2) (f : EwxFrame) : CoreNamed.Statement (.object lane f) := fun _ h => nomatch h
theorem CoreNamed.manifest (lane : Fin 2) (f : EwxFrame) : CoreNamed.Statement (.manifest lane f) := fun _ h => nomatch h
theorem CoreNamed.echo (lane : Fin 2) (f : EwxFrame) : CoreNamed.Statement (.echo lane f) := fun _ h => nomatch h
theorem CoreNamed.echoSend (lane : Fin 2) : CoreNamed.Statement (.echoSend lane) := fun _ h => nomatch h
theorem CoreNamed.ack (lane : Fin 2) (f : EwxFrame) : CoreNamed.Statement (.ack lane f) := fun _ h => nomatch h
theorem CoreNamed.ackRetryExpiry (ty : BitVec 8) (seq : BitVec 32) : CoreNamed.Statement (.ackRetryExpiry ty seq) := fun _ h => nomatch h
theorem CoreNamed.intentTaken : CoreNamed.Statement .intentTaken := fun _ h => nomatch h
theorem CoreNamed.release (task : Fin 16) (trial : Bool) : CoreNamed.Statement (.release task trial) := fun _ h => nomatch h
theorem CoreNamed.snapshotComplete (task : Fin 24) (trial : Bool) : CoreNamed.Statement (.snapshotComplete task trial) := fun _ h => nomatch h
theorem CoreNamed.endOfCycle (task : Fin 24) (trial : Bool) : CoreNamed.Statement (.endOfCycle task trial) := fun _ h => nomatch h
theorem CoreNamed.outputInstant (task : Fin 16) (trial : Bool) : CoreNamed.Statement (.outputInstant task trial) := fun _ h => nomatch h
theorem CoreNamed.urgentTrigger (task : Fin 8) (stamp : Int) (rec : List TW) : CoreNamed.Statement (.urgentTrigger task stamp rec) := fun _ h => nomatch h
theorem CoreNamed.urgentPendingDispatch (pair : Fin 12) : CoreNamed.Statement (.urgentPendingDispatch pair) := fun _ h => nomatch h
theorem CoreNamed.urgentBudgetExpiry (task : Fin 8) : CoreNamed.Statement (.urgentBudgetExpiry task) := fun _ h => nomatch h
theorem CoreNamed.urgentStorePublish (task : Fin 8) : CoreNamed.Statement (.urgentStorePublish task) := fun _ h => nomatch h
theorem CoreNamed.dozeEntry (cluster : Fin 3) : CoreNamed.Statement (.dozeEntry cluster) := fun _ h => nomatch h
theorem CoreNamed.dozeLead (cluster : Fin 3) : CoreNamed.Statement (.dozeLead cluster) := fun _ h => nomatch h
theorem CoreNamed.dozeRefresh (cluster : Fin 3) : CoreNamed.Statement (.dozeRefresh cluster) := fun _ h => nomatch h
theorem CoreNamed.weirSearchArm (w : BitVec 32) : CoreNamed.Statement (.weirSearchArm w) := fun _ h => nomatch h
theorem CoreNamed.weirWindowOpen : CoreNamed.Statement .weirWindowOpen := fun _ h => nomatch h
theorem CoreNamed.weirDecision : CoreNamed.Statement .weirDecision := fun _ h => nomatch h
theorem CoreNamed.weirApply : CoreNamed.Statement .weirApply := fun _ h => nomatch h
theorem CoreNamed.weirHorizonExpiry : CoreNamed.Statement .weirHorizonExpiry := fun _ h => nomatch h
theorem CoreNamed.usoftWrite (w : BitVec 32) : CoreNamed.Statement (.usoftWrite w) := fun _ h => nomatch h
theorem CoreNamed.add (c : CoreId) (rd rs1 : GReg) (b : Src2) : CoreNamed.Statement (.add c rd rs1 b) := by
  intro d h w; cases h; exact CoreNamed.of_ok w
theorem CoreNamed.sub (c : CoreId) (rd rs1 : GReg) (b : Src2) : CoreNamed.Statement (.sub c rd rs1 b) := by
  intro d h w; cases h; exact CoreNamed.of_ok w
theorem CoreNamed.mul (c : CoreId) (rd rs1 : GReg) (b : Src2) : CoreNamed.Statement (.mul c rd rs1 b) := by
  intro d h w; cases h; exact CoreNamed.of_ok w
theorem CoreNamed.mulh (c : CoreId) (rd rs1 : GReg) (b : Src2) : CoreNamed.Statement (.mulh c rd rs1 b) := by
  intro d h w; cases h; exact CoreNamed.of_ok w
theorem CoreNamed.div (c : CoreId) (rd rs1 : GReg) (b : Src2) : CoreNamed.Statement (.div c rd rs1 b) := by
  intro d h w; cases h; exact CoreNamed.of_ok w
theorem CoreNamed.rem (c : CoreId) (rd rs1 : GReg) (b : Src2) : CoreNamed.Statement (.rem c rd rs1 b) := by
  intro d h w; cases h; exact CoreNamed.of_ok w
theorem CoreNamed.neg (c : CoreId) (rd rs1 : GReg) (m : BitVec 6) : CoreNamed.Statement (.neg c rd rs1 m) := by
  intro d h w; cases h; exact CoreNamed.of_ok w
theorem CoreNamed.abs (c : CoreId) (rd rs1 : GReg) (m : BitVec 6) : CoreNamed.Statement (.abs c rd rs1 m) := by
  intro d h w; cases h; exact CoreNamed.of_ok w
theorem CoreNamed.clamp (c : CoreId) (rd rs1 rs2 : GReg) (m : BitVec 6) : CoreNamed.Statement (.clamp c rd rs1 rs2 m) := by
  intro d h w; cases h; exact CoreNamed.of_ok w
theorem CoreNamed.fadd (c : CoreId) (rd rs1 : GReg) (b : Src2) : CoreNamed.Statement (.fadd c rd rs1 b) := by
  intro d h w; cases h; exact CoreNamed.of_ok w
theorem CoreNamed.fsub (c : CoreId) (rd rs1 : GReg) (b : Src2) : CoreNamed.Statement (.fsub c rd rs1 b) := by
  intro d h w; cases h; exact CoreNamed.of_ok w
theorem CoreNamed.fmul (c : CoreId) (rd rs1 : GReg) (b : Src2) : CoreNamed.Statement (.fmul c rd rs1 b) := by
  intro d h w; cases h; exact CoreNamed.of_ok w
theorem CoreNamed.fdiv (c : CoreId) (rd rs1 : GReg) (b : Src2) : CoreNamed.Statement (.fdiv c rd rs1 b) := by
  intro d h w; cases h; exact CoreNamed.of_ok w
theorem CoreNamed.fma (c : CoreId) (rd rs1 rs2 : GReg) (m : BitVec 6) : CoreNamed.Statement (.fma c rd rs1 rs2 m) := by
  intro d h w; cases h; exact CoreNamed.of_ok w
theorem CoreNamed.fsqrt (c : CoreId) (rd rs1 : GReg) (m : BitVec 6) : CoreNamed.Statement (.fsqrt c rd rs1 m) := by
  intro d h w; cases h; exact CoreNamed.of_ok w
theorem CoreNamed.fabs (c : CoreId) (rd rs1 : GReg) (m : BitVec 6) : CoreNamed.Statement (.fabs c rd rs1 m) := by
  intro d h w; cases h; exact CoreNamed.of_ok w
theorem CoreNamed.fneg (c : CoreId) (rd rs1 : GReg) (m : BitVec 6) : CoreNamed.Statement (.fneg c rd rs1 m) := by
  intro d h w; cases h; exact CoreNamed.of_ok w
theorem CoreNamed.fclamp (c : CoreId) (rd rs1 rs2 : GReg) (m : BitVec 6) : CoreNamed.Statement (.fclamp c rd rs1 rs2 m) := by
  intro d h w; cases h; exact CoreNamed.of_ok w
theorem CoreNamed.tadd (c : CoreId) (rd rs1 : GReg) (b : Src2) : CoreNamed.Statement (.tadd c rd rs1 b) := by
  intro d h w; cases h; exact CoreNamed.of_ok w
theorem CoreNamed.tsub (c : CoreId) (rd rs1 : GReg) (b : Src2) : CoreNamed.Statement (.tsub c rd rs1 b) := by
  intro d h w; cases h; exact CoreNamed.of_ok w
theorem CoreNamed.trel (c : CoreId) (rd : GReg) : CoreNamed.Statement (.trel c rd) := by
  intro d h w; cases h; exact CoreNamed.of_ok w
theorem CoreNamed.padd (c : CoreId) (rd rs1 rs2 : GReg) (m : BitVec 6) : CoreNamed.Statement (.padd c rd rs1 rs2 m) := by
  intro d h w; cases h; exact CoreNamed.of_ok w
theorem CoreNamed.psub (c : CoreId) (rd rs1 rs2 : GReg) (m : BitVec 6) : CoreNamed.Statement (.psub c rd rs1 rs2 m) := by
  intro d h w; cases h; exact CoreNamed.of_ok w
theorem CoreNamed.pmul (c : CoreId) (rd rs1 rs2 : GReg) (m : BitVec 6) : CoreNamed.Statement (.pmul c rd rs1 rs2 m) := by
  intro d h w; cases h; exact CoreNamed.of_ok w
theorem CoreNamed.and (c : CoreId) (rd rs1 : GReg) (b : Src2) : CoreNamed.Statement (.and c rd rs1 b) := by
  intro d h w; cases h; exact CoreNamed.of_ok w
theorem CoreNamed.or (c : CoreId) (rd rs1 : GReg) (b : Src2) : CoreNamed.Statement (.or c rd rs1 b) := by
  intro d h w; cases h; exact CoreNamed.of_ok w
theorem CoreNamed.xor (c : CoreId) (rd rs1 : GReg) (b : Src2) : CoreNamed.Statement (.xor c rd rs1 b) := by
  intro d h w; cases h; exact CoreNamed.of_ok w
theorem CoreNamed.not (c : CoreId) (rd rs1 : GReg) (m : BitVec 6) : CoreNamed.Statement (.not c rd rs1 m) := by
  intro d h w; cases h; exact CoreNamed.of_ok w
theorem CoreNamed.shl (c : CoreId) (rd rs1 : GReg) (b : Src2) : CoreNamed.Statement (.shl c rd rs1 b) := by
  intro d h w; cases h; exact CoreNamed.of_ok w
theorem CoreNamed.shr (c : CoreId) (rd rs1 : GReg) (b : Src2) : CoreNamed.Statement (.shr c rd rs1 b) := by
  intro d h w; cases h; exact CoreNamed.of_ok w
theorem CoreNamed.sar (c : CoreId) (rd rs1 : GReg) (b : Src2) : CoreNamed.Statement (.sar c rd rs1 b) := by
  intro d h w; cases h; exact CoreNamed.of_ok w
theorem CoreNamed.rot (c : CoreId) (rd rs1 : GReg) (b : Src2) : CoreNamed.Statement (.rot c rd rs1 b) := by
  intro d h w; cases h; exact CoreNamed.of_ok w
theorem CoreNamed.ext (c : CoreId) (rd rs1 : GReg) (b : Src2) : CoreNamed.Statement (.ext c rd rs1 b) := by
  intro d h w; cases h; exact CoreNamed.of_ok w
theorem CoreNamed.ins (c : CoreId) (rd rs1 : GReg) (b : Src2) : CoreNamed.Statement (.ins c rd rs1 b) := by
  intro d h w; cases h; exact CoreNamed.of_ok w
theorem CoreNamed.ceq (c : CoreId) (rd rs1 : GReg) (b : Src2) : CoreNamed.Statement (.ceq c rd rs1 b) := by
  intro d h w; cases h; exact CoreNamed.of_ok w
theorem CoreNamed.cne (c : CoreId) (rd rs1 : GReg) (b : Src2) : CoreNamed.Statement (.cne c rd rs1 b) := by
  intro d h w; cases h; exact CoreNamed.of_ok w
theorem CoreNamed.clt (c : CoreId) (rd rs1 : GReg) (b : Src2) : CoreNamed.Statement (.clt c rd rs1 b) := by
  intro d h w; cases h; exact CoreNamed.of_ok w
theorem CoreNamed.cle (c : CoreId) (rd rs1 : GReg) (b : Src2) : CoreNamed.Statement (.cle c rd rs1 b) := by
  intro d h w; cases h; exact CoreNamed.of_ok w
theorem CoreNamed.cun (c : CoreId) (rd rs1 : GReg) (b : Src2) : CoreNamed.Statement (.cun c rd rs1 b) := by
  intro d h w; cases h; exact CoreNamed.of_ok w
theorem CoreNamed.sel (c : CoreId) (rd rs1 rs2 : GReg) (m : BitVec 6) : CoreNamed.Statement (.sel c rd rs1 rs2 m) := by
  intro d h w; cases h; exact CoreNamed.of_ok w
theorem CoreNamed.min (c : CoreId) (rd rs1 : GReg) (b : Src2) : CoreNamed.Statement (.min c rd rs1 b) := by
  intro d h w; cases h; exact CoreNamed.of_ok w
theorem CoreNamed.max (c : CoreId) (rd rs1 : GReg) (b : Src2) : CoreNamed.Statement (.max c rd rs1 b) := by
  intro d h w; cases h; exact CoreNamed.of_ok w
theorem CoreNamed.tget (c : CoreId) (rd rs1 : GReg) : CoreNamed.Statement (.tget c rd rs1) := by
  intro d h w; cases h; exact CoreNamed.of_ok w
theorem CoreNamed.tset (c : CoreId) (rd rs1 : GReg) (tag8 : BitVec 8) (mask : BitVec 4) : CoreNamed.Statement (.tset c rd rs1 tag8 mask) := by
  intro d h w; cases h; exact CoreNamed.of_ok w
theorem CoreNamed.tcpy (c : CoreId) (rd rs1 rs2 : GReg) (m : BitVec 6) : CoreNamed.Statement (.tcpy c rd rs1 rs2 m) := by
  intro d h w; cases h; exact CoreNamed.of_ok w
theorem CoreNamed.qmin (c : CoreId) (rd rs1 rs2 : GReg) (m : BitVec 6) : CoreNamed.Statement (.qmin c rd rs1 rs2 m) := by
  intro d h w; cases h; exact CoreNamed.of_ok w
theorem CoreNamed.cvtif (c : CoreId) (rd rs1 : GReg) (m : BitVec 6) : CoreNamed.Statement (.cvtif c rd rs1 m) := by
  intro d h w; cases h; exact CoreNamed.of_ok w
theorem CoreNamed.cvtfi (c : CoreId) (rd rs1 : GReg) (m : BitVec 6) : CoreNamed.Statement (.cvtfi c rd rs1 m) := by
  intro d h w; cases h; exact CoreNamed.of_ok w
theorem CoreNamed.cvtiu (c : CoreId) (rd rs1 : GReg) (m : BitVec 6) : CoreNamed.Statement (.cvtiu c rd rs1 m) := by
  intro d h w; cases h; exact CoreNamed.of_ok w
theorem CoreNamed.cvtui (c : CoreId) (rd rs1 : GReg) (m : BitVec 6) : CoreNamed.Statement (.cvtui c rd rs1 m) := by
  intro d h w; cases h; exact CoreNamed.of_ok w
theorem CoreNamed.retype (c : CoreId) (rd rs1 : GReg) (rs2f m : BitVec 6) : CoreNamed.Statement (.retype c rd rs1 rs2f m) := by
  intro d h w; cases h; exact CoreNamed.of_ok w
theorem CoreNamed.ppack (c : CoreId) (rd rs1 rs2 : GReg) (m : BitVec 6) : CoreNamed.Statement (.ppack c rd rs1 rs2 m) := by
  intro d h w; cases h; exact CoreNamed.of_ok w
theorem CoreNamed.phi (c : CoreId) (rd rs1 : GReg) (m : BitVec 6) : CoreNamed.Statement (.phi c rd rs1 m) := by
  intro d h w; cases h; exact CoreNamed.of_ok w
theorem CoreNamed.plo (c : CoreId) (rd rs1 : GReg) (m : BitVec 6) : CoreNamed.Statement (.plo c rd rs1 m) := by
  intro d h w; cases h; exact CoreNamed.of_ok w
theorem CoreNamed.ld (c : CoreId) (rd base : GReg) (i : BitVec 18) (up : BitVec 80) : CoreNamed.Statement (.ld c rd base i up) := by
  intro d h w; cases h; exact CoreNamed.of_ok w
theorem CoreNamed.st (c : CoreId) (rs base : GReg) (i : BitVec 18) : CoreNamed.Statement (.st c rs base i) := by
  intro d h w; cases h; exact CoreNamed.of_ok w
theorem CoreNamed.ldx (c : CoreId) (rd ref index : GReg) (up : BitVec 80) : CoreNamed.Statement (.ldx c rd ref index up) := by
  intro d h w; cases h; exact CoreNamed.of_ok w
theorem CoreNamed.stx (c : CoreId) (rs ref index : GReg) : CoreNamed.Statement (.stx c rs ref index) := by
  intro d h w; cases h; exact CoreNamed.of_ok w
theorem CoreNamed.bz (c : CoreId) (rs : GReg) (off : BitVec 20) : CoreNamed.Statement (.bz c rs off) := by
  intro d h w; cases h; exact CoreNamed.of_ok w
theorem CoreNamed.bnz (c : CoreId) (rs : GReg) (off : BitVec 20) : CoreNamed.Statement (.bnz c rs off) := by
  intro d h w; cases h; exact CoreNamed.of_ok w
theorem CoreNamed.bq (c : CoreId) (rs : GReg) (cond : BitVec 4) (off : BitVec 20) : CoreNamed.Statement (.bq c rs cond off) := by
  intro d h w; cases h; exact CoreNamed.of_ok w
theorem CoreNamed.blim (c : CoreId) (rs : GReg) (off : BitVec 20) : CoreNamed.Statement (.blim c rs off) := by
  intro d h w; cases h; exact CoreNamed.of_ok w
theorem CoreNamed.bfrc (c : CoreId) (rs : GReg) (off : BitVec 20) : CoreNamed.Statement (.bfrc c rs off) := by
  intro d h w; cases h; exact CoreNamed.of_ok w
theorem CoreNamed.j (c : CoreId) (i : BitVec 24) : CoreNamed.Statement (.j c i) := by
  intro d h w; cases h; exact CoreNamed.of_ok w
theorem CoreNamed.call (c : CoreId) (i : BitVec 24) : CoreNamed.Statement (.call c i) := by
  intro d h w; cases h; exact CoreNamed.of_ok w
theorem CoreNamed.ret (c : CoreId) : CoreNamed.Statement (.ret c) := by
  intro d h w; cases h; exact CoreNamed.of_ok w
theorem CoreNamed.limm (c : CoreId) (rd : GReg) (i : BitVec 24) : CoreNamed.Statement (.limm c rd i) := by
  intro d h w; cases h; exact CoreNamed.of_ok w
theorem CoreNamed.lshi (c : CoreId) (rd : GReg) (i : BitVec 24) : CoreNamed.Statement (.lshi c rd i) := by
  intro d h w; cases h; exact CoreNamed.of_ok w
theorem CoreNamed.wait (c : CoreId) : CoreNamed.Statement (.wait c) := by
  intro d h w; cases h; exact CoreNamed.of_ok w
theorem CoreNamed.trap (c : CoreId) (i : BitVec 18) : CoreNamed.Statement (.trap c i) := by
  intro d h w; cases h; exact CoreNamed.of_ok w
theorem CoreNamed.csrr (c : CoreId) (rd : GReg) (addr : BitVec 32) : CoreNamed.Statement (.csrr c rd addr) := by
  intro d h w; cases h; exact CoreNamed.of_ok w
theorem CoreNamed.csrw (c : CoreId) (rs : GReg) (addr : BitVec 32) : CoreNamed.Statement (.csrw c rs addr) := by
  intro d h w; cases h; exact CoreNamed.of_ok w
theorem CoreNamed.tnow (c : CoreId) (rd : GReg) : CoreNamed.Statement (.tnow c rd) := by
  intro d h w; cases h; exact CoreNamed.of_ok w
theorem CoreNamed.fence (c : CoreId) : CoreNamed.Statement (.fence c) := by
  intro d h w; cases h; exact CoreNamed.of_ok w
theorem CoreNamed.eret (c : CoreId) : CoreNamed.Statement (.eret c) := by
  intro d h w; cases h; exact CoreNamed.of_ok w
theorem CoreNamed.crr (c : CoreId) (rd rs1 : GReg) (i : BitVec 18) : CoreNamed.Statement (.crr c rd rs1 i) := by
  intro d h w; cases h; exact CoreNamed.of_ok w
theorem CoreNamed.crw (c : CoreId) (rs rs1 : GReg) (i : BitVec 18) : CoreNamed.Statement (.crw c rs rs1 i) := by
  intro d h w; cases h; exact CoreNamed.of_ok w
theorem CoreNamed.comparisonTimeout (u : Fin 13) : CoreNamed.Statement (.comparisonTimeout u) := fun _ h => nomatch h
theorem CoreNamed.pairStall (u : Fin 13) : CoreNamed.Statement (.pairStall u) := fun _ h => nomatch h
theorem CoreNamed.supervisorSeal : CoreNamed.Statement .supervisorSeal := fun _ h => nomatch h
theorem CoreNamed.injectionTest (pair : BitVec 4) (miss : InjMiss) : CoreNamed.Statement (.injectionTest pair miss) := fun _ h => nomatch h
theorem CoreNamed.canaryReading (unit : Fin 4) (reading : BitVec 16) (tj : BitVec 8) : CoreNamed.Statement (.canaryReading unit reading tj) := fun _ h => nomatch h
theorem CoreNamed.scrubAccess (mram : Bool) (upset : BitVec 80) : CoreNamed.Statement (.scrubAccess mram upset) := fun _ h => nomatch h
theorem CoreNamed.scrubIntervalEnd : CoreNamed.Statement .scrubIntervalEnd := fun _ h => nomatch h
theorem CoreNamed.mpuRuleWrite (w : BitVec 32) (inflight : BitVec 8) : CoreNamed.Statement (.mpuRuleWrite w inflight) := fun _ h => nomatch h
theorem CoreNamed.mpuDrainComplete (inflight : BitVec 8) : CoreNamed.Statement (.mpuDrainComplete inflight) := fun _ h => nomatch h
theorem CoreNamed.mpuDrainTimeout : CoreNamed.Statement .mpuDrainTimeout := fun _ h => nomatch h
theorem CoreNamed.load (sess : Nat) (partner : Bool) : CoreNamed.Statement (.load sess partner) := fun _ h => nomatch h
theorem CoreNamed.partnerLoadReportTimeout : CoreNamed.Statement .partnerLoadReportTimeout := fun _ h => nomatch h
theorem CoreNamed.activate (sess : Nat) : CoreNamed.Statement (.activate sess) := fun _ h => nomatch h
theorem CoreNamed.trialStart (sess : Nat) (partner : Bool) : CoreNamed.Statement (.trialStart sess partner) := fun _ h => nomatch h
theorem CoreNamed.trialAbort (sess : Nat) (partner : Bool) : CoreNamed.Statement (.trialAbort sess partner) := fun _ h => nomatch h
theorem CoreNamed.exchange (sess : Nat) (partner companion : Bool) (seq : BitVec 16) (diff : BitVec 32) (earliest : Int) : CoreNamed.Statement (.exchange sess partner companion seq diff earliest) := fun _ h => nomatch h
theorem CoreNamed.exchangeAbort (sess : Nat) (partner : Bool) : CoreNamed.Statement (.exchangeAbort sess partner) := fun _ h => nomatch h
theorem CoreNamed.rollback (sess : Nat) (partner companion : Bool) (seq : BitVec 16) (diff : BitVec 32) (earliest : Int) : CoreNamed.Statement (.rollback sess partner companion seq diff earliest) := fun _ h => nomatch h
theorem CoreNamed.releaseSlot (sess : Nat) (partner : Bool) : CoreNamed.Statement (.releaseSlot sess partner) := fun _ h => nomatch h
theorem CoreNamed.trialStateTake : CoreNamed.Statement .trialStateTake := fun _ h => nomatch h
theorem CoreNamed.precopyFirstPassEnd : CoreNamed.Statement .precopyFirstPassEnd := fun _ h => nomatch h
theorem CoreNamed.urgentEndKeepCopy (pair : Fin 12) : CoreNamed.Statement (.urgentEndKeepCopy pair) := fun _ h => nomatch h
theorem CoreNamed.forceRequest (sess : Nat) (p : BitVec 16) (b : Bytes) : CoreNamed.Statement (.forceRequest sess p b) := fun _ h => nomatch h
theorem CoreNamed.removeForce (sess : Nat) (p : BitVec 16) : CoreNamed.Statement (.removeForce sess p) := fun _ h => nomatch h
theorem CoreNamed.removeAllForces (sess : Nat) : CoreNamed.Statement (.removeAllForces sess) := fun _ h => nomatch h
theorem CoreNamed.forceApply : CoreNamed.Statement .forceApply := fun _ h => nomatch h
theorem CoreNamed.freshnessExpiry (point : BitVec 16) : CoreNamed.Statement (.freshnessExpiry point) := fun _ h => nomatch h
theorem CoreNamed.writePortQueueApply : CoreNamed.Statement .writePortQueueApply := fun _ h => nomatch h
theorem CoreNamed.peerFrameReceive (port : Fin 2) (head : PeerHead) (p : Bytes) : CoreNamed.Statement (.peerFrameReceive port head p) := fun _ h => nomatch h
theorem CoreNamed.ethernetFrameReceive (port : Fin 3) (fcsOk : Bool) (f : Bytes) : CoreNamed.Statement (.ethernetFrameReceive port fcsOk f) := fun _ h => nomatch h
theorem CoreNamed.arpIcmpAnswer (port : Fin 3) (f : Bytes) : CoreNamed.Statement (.arpIcmpAnswer port f) := fun _ h => nomatch h
theorem CoreNamed.netLaunch (port : Fin 2) (abort : Bool) : CoreNamed.Statement (.netLaunch port abort) := fun _ h => nomatch h
theorem CoreNamed.dtlsHandshake (port : Fin 3) (cookie ok : Bool) (cert : Bytes) : CoreNamed.Statement (.dtlsHandshake port cookie ok cert) := fun _ h => nomatch h
theorem CoreNamed.sessionIdleTimeout : CoreNamed.Statement .sessionIdleTimeout := fun _ h => nomatch h
theorem CoreNamed.read (r : VopReq) : CoreNamed.Statement (.read r) := fun _ h => nomatch h
theorem CoreNamed.write (r : VopReq) : CoreNamed.Statement (.write r) := fun _ h => nomatch h
theorem CoreNamed.segInit (r : VopReq) : CoreNamed.Statement (.segInit r) := fun _ h => nomatch h
theorem CoreNamed.segData (r : VopReq) : CoreNamed.Statement (.segData r) := fun _ h => nomatch h
theorem CoreNamed.segEnd (r : VopReq) : CoreNamed.Statement (.segEnd r) := fun _ h => nomatch h
theorem CoreNamed.sessionOpen (r : VopReq) : CoreNamed.Statement (.sessionOpen r) := fun _ h => nomatch h
theorem CoreNamed.eventRead (r : VopReq) : CoreNamed.Statement (.eventRead r) := fun _ h => nomatch h
theorem CoreNamed.keepalive (r : VopReq) : CoreNamed.Statement (.keepalive r) := fun _ h => nomatch h
theorem CoreNamed.segmentTimeout : CoreNamed.Statement .segmentTimeout := fun _ h => nomatch h
theorem CoreNamed.single (ch : Fin 16) (f : VopcFrame) (waiting outstanding : Nat) : CoreNamed.Statement (.single ch f waiting outstanding) := fun _ h => nomatch h
theorem CoreNamed.first (ch : Fin 16) (f : VopcFrame) : CoreNamed.Statement (.first ch f) := fun _ h => nomatch h
theorem CoreNamed.consecutive (ch : Fin 16) (f : VopcFrame) (waiting outstanding : Nat) : CoreNamed.Statement (.consecutive ch f waiting outstanding) := fun _ h => nomatch h
theorem CoreNamed.abort (ch : Fin 16) (f : VopcFrame) : CoreNamed.Statement (.abort ch f) := fun _ h => nomatch h
theorem CoreNamed.vopcFrameGapTimeout : CoreNamed.Statement .vopcFrameGapTimeout := fun _ h => nomatch h
theorem CoreNamed.stagingWrite (sess : Nat) (i : BitVec 16) (k : BitVec 8) (b : Bytes) : CoreNamed.Statement (.stagingWrite sess i k b) := fun _ h => nomatch h
theorem CoreNamed.commit (sess : Nat) (companion : Bool) (seq : BitVec 32) (earliest : Int) : CoreNamed.Statement (.commit sess companion seq earliest) := fun _ h => nomatch h
theorem CoreNamed.discard (sess : Nat) : CoreNamed.Statement (.discard sess) := fun _ h => nomatch h
theorem CoreNamed.consistencyCheckEnd (partner : Option Bool) : CoreNamed.Statement (.consistencyCheckEnd partner) := fun _ h => nomatch h
theorem CoreNamed.configurationCopyWritten : CoreNamed.Statement .configurationCopyWritten := fun _ h => nomatch h
theorem CoreNamed.liveWrite (sess : Nat) (i : BitVec 16) (k : BitVec 8) (b : Bytes) : CoreNamed.Statement (.liveWrite sess i k b) := fun _ h => nomatch h
theorem CoreNamed.liveGroupWrite (sess : Nat) (b : Bytes) : CoreNamed.Statement (.liveGroupWrite sess b) := fun _ h => nomatch h
theorem CoreNamed.liveFieldTakeup : CoreNamed.Statement .liveFieldTakeup := fun _ h => nomatch h
theorem CoreNamed.timeMonitorWindow (count : BitVec 32) (differ pllLost : Bool) : CoreNamed.Statement (.timeMonitorWindow count differ pllLost) := fun _ h => nomatch h
theorem CoreNamed.ptpMessageReceive (port : Fin 2) (m : Bytes) (raw : Int) : CoreNamed.Statement (.ptpMessageReceive port m raw) := fun _ h => nomatch h
theorem CoreNamed.announceReceiptTimeout (port : Fin 2) : CoreNamed.Statement (.announceReceiptTimeout port) := fun _ h => nomatch h
theorem CoreNamed.syncTransmit (port : Fin 2) : CoreNamed.Statement (.syncTransmit port) := fun _ h => nomatch h
theorem CoreNamed.timeStep (w : BitVec 32) : CoreNamed.Statement (.timeStep w) := fun _ h => nomatch h
theorem CoreNamed.armOneStep (sess : Nat) : CoreNamed.Statement (.armOneStep sess) := fun _ h => nomatch h
theorem CoreNamed.rateWrite (w : BitVec 32) : CoreNamed.Statement (.rateWrite w) := fun _ h => nomatch h
theorem CoreNamed.timeLatchRead : CoreNamed.Statement .timeLatchRead := fun _ h => nomatch h
theorem CoreNamed.canFrameReceive (ch : Fin 16) (f : CanFrame) (sof : Int) : CoreNamed.Statement (.canFrameReceive ch f sof) := fun _ h => nomatch h
theorem CoreNamed.canArbitrationStart (ch : Fin 16) : CoreNamed.Statement (.canArbitrationStart ch) := fun _ h => nomatch h
theorem CoreNamed.canTransmitComplete (ch : Fin 16) (sof : Int) : CoreNamed.Statement (.canTransmitComplete ch sof) := fun _ h => nomatch h
theorem CoreNamed.canError (ch : Fin 16) (e : CanErr) : CoreNamed.Statement (.canError ch e) := fun _ h => nomatch h
theorem CoreNamed.recover (ch : Fin 16) : CoreNamed.Statement (.recover ch) := fun _ h => nomatch h
theorem CoreNamed.recoveryDelayExpiry (ch : Fin 16) : CoreNamed.Statement (.recoveryDelayExpiry ch) := fun _ h => nomatch h
theorem CoreNamed.busOffRecoveryComplete (ch : Fin 16) : CoreNamed.Statement (.busOffRecoveryComplete ch) := fun _ h => nomatch h
theorem CoreNamed.canBusIdleSwitch (ch : Fin 16) : CoreNamed.Statement (.canBusIdleSwitch ch) := fun _ h => nomatch h
theorem CoreNamed.objectLockRead (ch : Fin 16) : CoreNamed.Statement (.objectLockRead ch) := fun _ h => nomatch h
theorem CoreNamed.objectLastWordRead (ch : Fin 16) : CoreNamed.Statement (.objectLastWordRead ch) := fun _ h => nomatch h
theorem CoreNamed.objectSelect (ch : Fin 16) (obj : BitVec 8) : CoreNamed.Statement (.objectSelect ch obj) := fun _ h => nomatch h
theorem CoreNamed.objectLockTimeout (ch : Fin 16) : CoreNamed.Statement (.objectLockTimeout ch) := fun _ h => nomatch h
theorem CoreNamed.queue (ch : Fin 16) : CoreNamed.Statement (.queue ch) := fun _ h => nomatch h
theorem CoreNamed.withdraw (ch : Fin 16) : CoreNamed.Statement (.withdraw ch) := fun _ h => nomatch h
theorem CoreNamed.aoMeasurement (ch : Fin 8) (own total : BitVec 25) (head : BitVec 16) (supply : BitVec 12) : CoreNamed.Statement (.aoMeasurement ch own total head supply) := fun _ h => nomatch h
theorem CoreNamed.guardEngagementLoss (ch : Fin 8) : CoreNamed.Statement (.guardEngagementLoss ch) := fun _ h => nomatch h
theorem CoreNamed.partnerExcess (ch : Fin 8) : CoreNamed.Statement (.partnerExcess ch) := fun _ h => nomatch h
theorem CoreNamed.rampEnd (ch : Fin 8) : CoreNamed.Statement (.rampEnd ch) := fun _ h => nomatch h
theorem CoreNamed.aiConversion (ch : Fin 8) (rawA rawB : BitVec 24) (faultA faultB : Bool) : CoreNamed.Statement (.aiConversion ch rawA rawB faultA faultB) := fun _ h => nomatch h
theorem CoreNamed.aiDriftComparison (ch : Fin 8) : CoreNamed.Statement (.aiDriftComparison ch) := fun _ h => nomatch h
theorem CoreNamed.clearDrift (x : ClearWrite) : CoreNamed.Statement (.clearDrift x) := fun _ h => nomatch h
theorem CoreNamed.fskResponse (ch : Fin 16) (x : FskRx) (bad : Bool) : CoreNamed.Statement (.fskResponse ch x bad) := fun _ h => nomatch h
theorem CoreNamed.fskResponseTimeout (ch : Fin 16) : CoreNamed.Statement (.fskResponseTimeout ch) := fun _ h => nomatch h
theorem CoreNamed.scanStart (engine : Fin 4) (w : BitVec 32) : CoreNamed.Statement (.scanStart engine w) := fun _ h => nomatch h
theorem CoreNamed.scanEnd (engine : Fin 4) : CoreNamed.Statement (.scanEnd engine) := fun _ h => nomatch h
theorem CoreNamed.cvuSelfTest (fail : BitVec 4) : CoreNamed.Statement (.cvuSelfTest fail) := fun _ h => nomatch h
theorem CoreNamed.post (w : BitVec 32) : CoreNamed.Statement (.post w) := fun _ h => nomatch h
theorem CoreNamed.recordCommit : CoreNamed.Statement .recordCommit := fun _ h => nomatch h
theorem CoreNamed.cellMeasurement (mv : BitVec 16) : CoreNamed.Statement (.cellMeasurement mv) := fun _ h => nomatch h
theorem CoreNamed.counterCopy : CoreNamed.Statement .counterCopy := fun _ h => nomatch h
theorem CoreNamed.tamperOpening (cover : Bool) : CoreNamed.Statement (.tamperOpening cover) := fun _ h => nomatch h
theorem CoreNamed.rollingCheck (rot : Option Bytes) : CoreNamed.Statement (.rollingCheck rot) := fun _ h => nomatch h
theorem CoreNamed.proofTestDue : CoreNamed.Statement .proofTestDue := fun _ h => nomatch h
theorem CoreNamed.firmwareTransfer (sess : Nat) (b : Bytes) : CoreNamed.Statement (.firmwareTransfer sess b) := fun _ h => nomatch h
theorem CoreNamed.bootFirmwareSlot (sess : Nat) (slot : BitVec 8) : CoreNamed.Statement (.bootFirmwareSlot sess slot) := fun _ h => nomatch h
theorem CoreNamed.raiseFirmwareMinimum (sess : Nat) : CoreNamed.Statement (.raiseFirmwareMinimum sess) := fun _ h => nomatch h
theorem CoreNamed.imageKeyEnrolment (sess : Nat) (b : Bytes) : CoreNamed.Statement (.imageKeyEnrolment sess b) := fun _ h => nomatch h
theorem CoreNamed.trustAnchor (sess : Nat) (b : Bytes) : CoreNamed.Statement (.trustAnchor sess b) := fun _ h => nomatch h
theorem CoreNamed.moduleCertificate (sess : Nat) (b : Bytes) : CoreNamed.Statement (.moduleCertificate sess b) := fun _ h => nomatch h
theorem CoreNamed.lifeCycleChange (sess : Nat) (b : Bytes) (upto : Fin 7) : CoreNamed.Statement (.lifeCycleChange sess b upto) := fun _ h => nomatch h
theorem CoreNamed.writeLifeCycleEntry : CoreNamed.Statement .writeLifeCycleEntry := fun _ h => nomatch h
theorem CoreNamed.revokeImageKeySlot : CoreNamed.Statement .revokeImageKeySlot := fun _ h => nomatch h
theorem CoreNamed.writeImageKeySlot : CoreNamed.Statement .writeImageKeySlot := fun _ h => nomatch h
theorem CoreNamed.raiseFwmin : CoreNamed.Statement .raiseFwmin := fun _ h => nomatch h
theorem CoreNamed.maintenanceBusTransaction (op : MnbOp) : CoreNamed.Statement (.maintenanceBusTransaction op) := fun _ h => nomatch h
theorem CoreNamed.mailboxDelivery : CoreNamed.Statement .mailboxDelivery := fun _ h => nomatch h
theorem CoreNamed.tapInstruction (k : TapKind) (probe : Bool) (st : BitVec 4) : CoreNamed.Statement (.tapInstruction k probe st) := fun _ h => nomatch h
theorem CoreNamed.tapTestExit : CoreNamed.Statement .tapTestExit := fun _ h => nomatch h
theorem CoreNamed.dapAccess (a : BitVec 32) (w : Option TW) : CoreNamed.Statement (.dapAccess a w) := fun _ h => nomatch h
theorem CoreNamed.laneRetrain (lane : Fin 2) : CoreNamed.Statement (.laneRetrain lane) := fun _ h => nomatch h
theorem CoreNamed.csrWrite (unit : Fin 13) (a w : BitVec 32) : CoreNamed.Statement (.csrWrite unit a w) := fun _ h => nomatch h
theorem CoreNamed.partnerToggleEdge : CoreNamed.Statement .partnerToggleEdge := fun _ h => nomatch h
theorem CoreNamed.laneTrained (lane : Fin 2) : CoreNamed.Statement (.laneTrained lane) := fun _ h => nomatch h
theorem CoreNamed.eweoxFrameDiscard (lane : Fin 2) (f : EwxFrame) : CoreNamed.Statement (.eweoxFrameDiscard lane f) := fun _ h => nomatch h
theorem CoreNamed.operatingTimeSecond : CoreNamed.Statement .operatingTimeSecond := fun _ h => nomatch h
theorem CoreNamed.holdupDomainLoss : CoreNamed.Statement .holdupDomainLoss := fun _ h => nomatch h
theorem CoreNamed.partnerContributionReturn (ch : Fin 8) : CoreNamed.Statement (.partnerContributionReturn ch) := fun _ h => nomatch h
theorem CoreNamed.announceTransmit (port : Fin 2) : CoreNamed.Statement (.announceTransmit port) := fun _ h => nomatch h
theorem CoreNamed.delayRequestTransmit (port : Fin 2) : CoreNamed.Statement (.delayRequestTransmit port) := fun _ h => nomatch h
theorem CoreNamed.fskPollDue (ch : Fin 16) : CoreNamed.Statement (.fskPollDue ch) := fun _ h => nomatch h
theorem CoreNamed.fskRequestEnd (ch : Fin 16) : CoreNamed.Statement (.fskRequestEnd ch) := fun _ h => nomatch h
theorem CoreNamed.lifeCycleChangeResume (upto : Fin 7) : CoreNamed.Statement (.lifeCycleChangeResume upto) := fun _ h => nomatch h

end Sys2Proof.Laws
end

