-- ==== Sys2Proof/Machine/Panel.lean ====
section
/-! DEFINITION. What the module shows at its front and at its contacts (R35, R490, R501): functions of the state, which no
command reads. -/

namespace Sys2Proof.Machine

/-- The MODE indicator (R501), whose table names every mode but SAFE. DESIGN CHOICE (log 100). -/
def State.modeLight (s : State) : Light :=
  if s.mode = mPrimary ∨ s.mode = mSolo then .steady .green
  else if s.mode = mStandby then .flashing .green 1
  else if s.mode = mSync then .flashing .green 4
  else if s.mode = mIsolated ∨ s.mode = mBoot then .steady .amber
  else if s.mode = mStore then .off
  else Config.modeLightSafe

/-- The PAIR indicator (R501): lane A, lane B and the toggle; two of them missing is not in its table.
DESIGN CHOICE (log 100). -/
def State.pairLight (s : State) : Light :=
  let n := ([s.flag Reg.evLinka, s.flag Reg.evLinkb, s.flag Reg.evToggle].filter id).length
  if n = 3 then .steady .green else if n = 2 then .steady .amber else if n = 1 then Config.pairLightOne else .off

/-- The FAULT indicator (R501); off where neither row of its table holds, and while the feed domain has no supply.
DESIGN CHOICE (log 100). -/
def State.faultLight (s : State) : Light :=
  if s.mode = mSafe then .steady .red
  else if s.mode = mStore then .off
  else if !s.flag Reg.feedA ∨ !s.flag Reg.feedB ∨ s.flag Reg.evRlfault then .flashing .red 1
  else .off

/-- The NETS indicator (R501): link and traffic are the MAC's. DESIGN CHOICE (log 100). -/
def netsLight (link traffic : Bool) : Light :=
  if !link then .off else if traffic then Config.netsTraffic else .steady .green

/-- Whether ROLE_OUT toggles (R35); low otherwise (R490). -/
def State.roleOut (s : State) : Bool := toggles s.mode (s.flag Reg.modeDrive)

/-- AO contacts at high impedance and CAN contacts recessive (R490). -/
def State.contactsQuiet (s : State) : Bool := decide (s.mode ≤ mBoot) || s.md.romOnly

end Sys2Proof.Machine
end

