-- ==== Sys2Proof/Tests/Slice0.lean ====
section
/-! SUPPORT. Tests: a concrete state and operands for the hypotheses of every statement, ill-formed terms, and small
checks of single steps. -/

set_option maxRecDepth 20000

namespace Sys2Proof.Tests

-- The checks one after another: in parallel they need more memory.
set_option Elab.async false

open Sys2Proof.Machine

/-- A state in a mode, with an EXPERT session 7 of client 5. -/
def at_ (m : Nat) : State :=
  { State.reset.set Reg.modeCur m with
    net := { sessions := [{ id := 7, port := 0, client := 5, role := some 3, maxRole := 3, lastReq := 0 }] } }

def who : Caller := ⟨3, 5⟩

/-- An image without tasks. -/
def wImage : Image := ⟨0, [], 0, 0, 0, 0, 0, 0, 1, [], [], [], [], [], []⟩
/-! Supply, hold-up domain, modes -/

def wFeeds : State := (at_ mPrimary).set Reg.feedA 1
theorem wit_SupplyAndFeeds :
    (at_ mStore).mode = mStore ∧ ((at_ mPrimary).mode ∈ [mBoot, mIsolated, mSync, mStandby, mPrimary, mSolo, mSafe]) ∧
    (wFeeds.functional = true ∧ wFeeds.pwr.warned = false ∧ (15999#16).toNat < 16000) ∧
    wFeeds.flag (feedFld 0) = true ∧ wFeeds.flag (feedFld 1) = false := by decide

def wHour : State := { at_ mSolo with tmb := { raw := 3600000000000, upTicks := 1000000000 } }
def wDay : State := { (at_ mSolo).set Reg.evrOptime 3600 with lcs := { rollAt := -86400000000000 } }
theorem wit_HoldupDomain :
    (at_ mPrimary).powered = true ∧ ((at_ mStore).powered = false ∧ (at_ mStore).lcs.tamperLog.length < 8) ∧
    (wHour.runtime = true ∧ wHour.pwr.cellAt + 3600000000000 ≤ (wHour.tmb.raw : Int)) ∧
    (wDay.runtime = true ∧ wDay.lcs.copyOptime + 3600 ≤ wDay.get Reg.evrOptime) ∧
    (wHour.functional = true ∧ 1000000000 ≤ wHour.tmb.upTicks) ∧
    (wDay.lcs.rollAt + 86400000000000 ≤ wDay.now ∧ wDay.flashFile (wDay.lcs.rollNext % 4) = []) := by
  decide

theorem wit_AuthenticatedReset :
    Asks (at_ mSafe) 7 who rExpert ∧ (at_ mSafe).mode = mSafe ∧ (at_ mSafe).md.pend = none ∧
    (1#32).toNat ≠ (at_ mSafe).get Reg.safeCount := by decide

/-- ISOLATED with a partner in control whose MANIFEST frame agrees. -/
def wJoin : State :=
  let s := ((at_ mIsolated).set Reg.modePvalid 1).set Reg.modePartner mPrimary
  { s with link := { s.link with manifest := some { bytes := s.ownManifest, issue := hwIssue } },
           md := { s.md with isoNum := 3 }, cfg := [(0x200007, [1])] }
/-- ISOLATED with a loaded image, a valid configuration and no partner. -/
def wStart : State :=
  let s := ((at_ mIsolated).set Reg.xchAvalid 1)
  { s with xch := { s.xch with imgA := some wImage }, md := { s.md with isoNum := 3 }, tarn := { s.tarn with valid := true },
           cfg := [(0x200007, [2]), (0x200008, [0]), (0x200009, [0])] }
def wSwap : State := ((at_ mPrimary).set Reg.modePvalid 1).set Reg.modePartner mStandby
theorem wit_ModeCommands_join : Asks wJoin 7 who rEngineer ∧ wJoin.mode = mIsolated ∧ wJoin.md.pend = none ∧
    wJoin.heldBack = false ∧ wJoin.joinRefusal = 0 := by decide
theorem wit_ModeCommands_start : Asks wStart 7 who rEngineer ∧ wStart.mode = mIsolated ∧ wStart.md.pend = none ∧
    wStart.resetRetries.startOk = true ∧ wStart.startOk = true ∧ Sound wStart ∧ wStart.linkUp = false := by decide
theorem wit_ModeCommands :
    (Asks wSwap 7 who rEngineer ∧ wSwap.md.pend = none ∧ wSwap.heldBack = false ∧ wSwap.mode ∈ [mSync, mStandby, mPrimary]) ∧
    (wSwap.mode = mPrimary ∧ wSwap.partnerMode = mStandby ∧ wSwap.link.disagreed = [] ∧ wSwap.link.swap = none) ∧
    ((Instr.isolateSolo 8, 4) ∈ [(Instr.join 8, 1), (.start 8, 2), (.isolate 8, 3), (.isolateSolo 8, 4), (.swap 8, 5),
      (.restart 8, 6), (.safe 8, 7)] ∧ (⟨2, 6⟩ : Caller).role < modeRole 4) := by decide

def wArm (t : Int) : State := { at_ mSolo with md := { arms := [(7, (at_ mSolo).now - t)] } }
theorem wit_IsolateSolo :
    (Asks (at_ mSolo) 7 who rExpert ∧ (at_ mSolo).mode = mSolo ∧ (at_ mSolo).md.pend = none ∧ (at_ mSolo).armOf 7 = none) ∧
    ((wArm 5).armOf 7 = some ((wArm 5).now - 5) ∧ (wArm 5).now < (wArm 5).now - 5 + 1000000000) ∧
    ((wArm 1000000000).armOf 7 = some ((wArm 0).now - 1000000000) ∧ (wArm 1000000000).heldBack = false) ∧
    ((wArm 10000000001).armOf 7 = some ((wArm 0).now - 10000000001) ∧
      (wArm 0).now - 10000000001 + 10000000000 < (wArm 10000000001).now) := by decide

def wPend : State := { wSwap with md := { pend := some ⟨17, 0x12, 0⟩, retryAt := some 0 } }
theorem wit_ModeRequestAndBoundary :
    ((at_ mSolo).runtime = true ∧ (0x80000002#32).getLsbD 31 = true) ∧
    ((at_ mIsolated).runtime = true ∧ (at_ mIsolated).md.pend = none ∧ (at_ mIsolated).flag Reg.lcsPend = false) ∧
    (wPend.md.pend = some ⟨17, 0x12, 0⟩ ∧ 0 ≤ wPend.now ∧ wPend.mode ∈ transFrom 17) ∧
    (wJoin.autoActs = true ∧ wJoin.odNat 0x2000 7 ≠ 0 ∧ wJoin.md.refused ≠ some wJoin.joinView) ∧
    (wStart.autoActs = true ∧ wStart.odNat 0x2000 7 = 2 ∧
      wStart.md.isoAt + (wStart.odNat 0x2000 8 : Int) * 1000000 ≤ wStart.now ∧ wStart.md.ctlSeen = none) ∧
    wPend.md.retryAt = some 0 := by decide
theorem wit_LatchingFault : (1 : Fin 14).val ∈ latchRows ∧ (12 : Fin 14).val ∈ latchRows ∧ (13 : Fin 14).val ∉ latchRows ∧
    (at_ mSolo).functional = true ∧ (at_ mSafe).functional = true ∧ (at_ mSolo).isSplit 3 = false ∧ lockRowOf 2 3 = 1 := by decide
theorem wit_TransitionShowsMode : (at_ mSolo).mode ∈ transFrom 25 ∧ (at_ mSolo).mode ∉ transFrom 17 := by decide
theorem wit_BootEnds : State.reset.mode = mBoot ∧ State.reset.get Reg.bootStep ≤ 4 ∧ missed ({ lane := some 3 } : InjMiss) = true ∧
    (State.reset.set Reg.bootStep 13).get Reg.bootStep = 13 := by decide

/-! The link -/

/-- A frame sent at TIME `sent`, and what it is parsed to. -/
def mkF (ty : Nat) (sent : Int) (p : List TW) : EwxFrame :=
  let ws := frameWord0 ty 0 9 p.length (dupType ty) (ackType ty) true :: wTime sent :: p
  ⟨ws, frameCrc ws⟩
def mkP (ty : Nat) (sent : Int) (p : List TW) : Frame := ⟨ty, true, 9, sent, p⟩

/-- A lane with block lock. -/
def linked (m : Nat) : State := (at_ m).set (Reg.laneTrained 0) 1
/-- The same with the lane up and a heartbeat held. -/
def upState (m : Nat) : State :=
  let s := (((linked m).set (Reg.laneUp 0) 1).set Reg.modeToggle 1).set Reg.modePvalid 1
  { s with link := { s.link with
      hb := some { mode := mPrimary }, hbA := some (s.now - 300000), edgeAt := some (s.now - 300000), settleAt := some (s.now - 120000) } }

def hbP (v : Nat) : List TW := [wBits v, wTime 0]
/-- STANDBY with a partner that reported PRIMARY; the report of its transition 24. -/
def wasPrimary : State := let s := linked mStandby; { s with link := { s.link with hb := some { mode := mPrimary } } }
def tripP : List TW := hbP (15 + 0x16 * 65536)
def exitP (v : Nat) : List TW := [wBits v]
theorem wit_PartnerHeartbeat :
    (NewFrame (linked mSafe) 0 (mkF 1 0 (hbP 15)) ftHeartbeat (mkP 1 0 (hbP 15)) ∧ (linked mSafe).mode ∈ [mIsolated, mSafe]) ∧
    (NewFrame wasPrimary 0 (mkF 1 0 tripP) ftHeartbeat (mkP 1 0 tripP) ∧ wasPrimary.mode = mStandby ∧
      (((mkP 1 0 tripP).heartbeat wasPrimary.now).after wasPrimary.link.hb).tripped = true ∧
      wasPrimary.md.modeAt ≤ (mkP 1 0 tripP).sent) ∧
    (NewFrame (linked mPrimary) 0 (mkF 1 0 (hbP 2)) ftHeartbeat (mkP 1 0 (hbP 2)) ∧
      (mkP 1 0 (hbP 2)).num 0 % 8 ∉ [mStandby, mPrimary] ∧ (linked mPrimary).link.test = none) ∧
    ((linked mSolo).linkRuns = true ∧ (linked mSolo).link.hbSentAt = none) := by decide
theorem wit_PartnerHeartbeat_exit :
    (NewFrame (linked mStandby) 0 (mkF 3 0 (exitP 0x180005)) ftExit (mkP 3 0 (exitP 0x180005)) ∧
      (mkP 3 0 (exitP 0x180005)).num 0 / 2 ^ 16 % 32 = 24) ∧
    (NewFrame (linked mStandby) 0 (mkF 3 0 (exitP 0x170005)) ftExit (mkP 3 0 (exitP 0x170005)) ∧
      (mkP 3 0 (exitP 0x170005)).num 0 / 2 ^ 16 % 32 ∉ [15, 24] ∧ (mkP 3 0 (exitP 0x170005)).num 0 % 8 ∈ [mPrimary, mSolo] ∧
      (linked mStandby).md.pend = none) ∧
    (NewFrame (linked mPrimary) 0 (mkF 3 0 (exitP 0x140004)) ftExit (mkP 3 0 (exitP 0x140004)) ∧
      (mkP 3 0 (exitP 0x140004)).num 0 % 8 = mStandby ∧ (linked mPrimary).link.test = none) ∧
    NewFrame (linked mSync) 0 (mkF 3 0 (exitP 0x170005)) ftExit (mkP 3 0 (exitP 0x170005)) ∧
    NewFrame (linked mSolo) 0 (mkF 3 0 (exitP 0x170005)) ftExit (mkP 3 0 (exitP 0x170005)) := by decide

def wTrain : State := let s := linked mSolo; { (s.set (Reg.laneUp 1) 1) with link := { s.link with training := [1] } }
theorem wit_Lanes :
    ((upState mSolo).linkRuns = true ∧ (upState mSolo).laneUp (0 : Fin 2).val = true ∧
      (upState mSolo).link.hbA = some ((upState mSolo).now - 300000)) ∧
    (wTrain.linkRuns = true ∧ wTrain.md.romOnly = false ∧ (0 : Fin 2).val ∉ wTrain.link.training ∧
      wTrain.laneUp (1 - (0 : Fin 2).val) = true) ∧
    ((linked mSolo).laneUp (1 - (0 : Fin 2).val) = false) ∧ ((1 : Fin 2).val ∈ wTrain.link.training) ∧
    ((linked mSolo).flag (Reg.laneTrained (0 : Fin 2).val) = true ∧ frameOf ⟨[], 5#32⟩ = none ∧ frameOf ⟨[], frameCrc []⟩ = none) :=
  by decide

/-- Lane up, heartbeat of 300 µs ago, the toggle absent. -/
def noToggle (m : Nat) : State := (upState m).set Reg.modeToggle 0
/-- A takeover waits. -/
def takesOver : State := { upState mStandby with md := { pend := some ⟨13, 0x0C, 0⟩ } }
/-- The toggle has stopped, with and without a heartbeat, within the settle interval or not. -/
def silent (m : Nat) (settles : Bool) : State :=
  let s := ((upState m).set Reg.modePvalid 0).set (Reg.laneUp 0) 0
  { s with link := { s.link with settleAt := if settles then s.link.settleAt else none } }
theorem wit_EvidenceOfThePartner_heartbeat :
    ((upState mStandby).linkRuns = true ∧ (upState mStandby).flag Reg.modePvalid = true ∧
      (upState mStandby).lastHb = some ((upState mStandby).now - 300000) ∧ (upState mStandby).togglePresent = true) ∧
    ((noToggle mStandby).lastHb = some ((upState mStandby).now - 300000) ∧ (noToggle mStandby).togglePresent = false ∧
      (noToggle mStandby).md.pend = none ∧ (noToggle mStandby).flag Reg.modePvalid = true) ∧
    ((noToggle mPrimary).mode = mPrimary ∧ (noToggle mPrimary).link.test = none ∧ (noToggle mPrimary).togglePresent = false ∧
      (noToggle mPrimary).lastHb = some ((upState mStandby).now - 300000)) ∧
    ((upState mSync).mode = mSync ∧ (upState mSync).lastHb = some ((upState mStandby).now - 300000)) ∧
    ((upState mSolo).mode ∈ [mIsolated, mSolo, mSafe] ∧ (upState mSolo).lastHb = some ((upState mStandby).now - 300000)) ∧
    ((upState mStandby).link.settleAt = some ((upState mStandby).now - 120000) ∧ (upState mStandby).md.pend = none ∧
      (upState mPrimary).link.settleAt = some ((upState mStandby).now - 120000) ∧ (upState mPrimary).link.test = none ∧
      (upState mSolo).link.settleAt = some ((upState mStandby).now - 120000)) ∧
    (takesOver.link.settleAt = some ((upState mStandby).now - 120000) ∧ takesOver.togglePresent = true ∧
      takesOver.md.pend = some ⟨13, 0x0C, 0⟩ ∧ transRank 13 0x0C = 4) := by decide
theorem wit_EvidenceOfThePartner :
    ((upState mStandby).link.edgeAt = some ((upState mStandby).now - 300000) ∧ (upState mStandby).linkUp = true ∧
      (upState mStandby).link.hb = some { mode := mPrimary } ∧ toggles mPrimary false = true ∧ toggles mSafe false = false) ∧
    ((silent mStandby true).togglePresent = true ∧ (silent mStandby true).linkUp = false ∧
      (silent mStandby true).link.settleAt = some ((upState mStandby).now - 120000) ∧ (silent mStandby true).md.pend = none ∧
      (silent mStandby true).link.edgeAt = some ((upState mStandby).now - 300000)) ∧
    ((silent mPrimary true).mode = mPrimary ∧ (silent mPrimary true).linkUp = false ∧ (silent mPrimary true).link.test = none) ∧
    ((silent mStandby false).linkUp = false ∧ (silent mStandby false).link.settleAt = none ∧ (silent mStandby false).togglePresent = true) ∧
    ((upState mStandby).functional = true ∧ (upState mStandby).md.pend = none ∧ (upState mPrimary).md.pend = none ∧
      (upState mSync).functional = true ∧ (upState mSolo).functional = true ∧ (upState mIsolated).functional = true) := by decide

def roleP (k : Nat) (b : Int) : List TW := [wBits k, wTime b]
def wClaim : State := { wStart with link := { wStart.link with claimOwn := some (wStart.now - 1000000) } }
def wLose : State := { wClaim.set Reg.blwPos 1 with link := { wClaim.link with claimPartner := some wStart.now } }
def wSw (m : Nat) (a c : Bool) (d : Int) : State :=
  let s := linked m
  { s with link := { s.link with swap := some ⟨0, s.now + d, a, c⟩, reversalAt := some s.now } }
theorem wit_StartClaimAndSwap :
    (NewFrame (linked mIsolated) 0 (mkF 2 0 (roleP 5 0)) ftRole (mkP 2 0 (roleP 5 0)) ∧ (mkP 2 0 (roleP 5 0)).roleKind = 1 ∧
      (linked mIsolated).inControl = false ∧ (linked mIsolated).partnerControls = false) ∧
    (wClaim.link.claimOwn = some (wClaim.now - 1000000) ∧ wClaim.mode = mIsolated ∧ wClaim.link.claimPartner = none ∧
      wClaim.startOk = true ∧ Sound wClaim ∧ wClaim.link.claimCause < 256) ∧
    (wLose.link.claimOwn = some (wLose.now - 1000000) ∧ wLose.link.claimPartner = some wLose.now ∧ wLose.claimWins = false) ∧
    (NewFrame (linked mStandby) 0 (mkF 2 0 (roleP 2 7)) ftRole (mkP 2 0 (roleP 2 7)) ∧ (mkP 2 0 (roleP 2 7)).roleKind = 2) ∧
    (NewFrame (wSw mPrimary false false 200000) 0 (mkF 2 0 (roleP 3 0)) ftRole (mkP 2 0 (roleP 3 0)) ∧
      (mkP 2 0 (roleP 3 0)).roleKind = 3 ∧ (wSw mPrimary false false 200000).link.swap = some ⟨0, (at_ 5).now + 200000, false, false⟩ ∧
      (mkP 2 0 (roleP 3 0)).num 0 / 2 ^ 32 = 0 ∧ (wSw mPrimary false false 200000).md.pend = none) ∧
    (NewFrame (wSw mStandby true false 0) 0 (mkF 2 0 (roleP 19 (at_ 5).now)) ftRole (mkP 2 0 (roleP 19 (at_ 5).now)) ∧
      (mkP 2 0 (roleP 19 (at_ 5).now)).roleKind = 16 ∧ (mkP 2 0 (roleP 19 (at_ 5).now)).time 1 = (at_ 5).now) ∧
    ((wSw mPrimary false false 199999).mode = mPrimary ∧
      (wSw mPrimary false false 199999).link.swap = some ⟨0, (at_ 5).now + 199999, false, false⟩) ∧
    ((wSw mPrimary true false 0).link.swap = some ⟨0, (at_ 5).now, true, false⟩ ∧ (wSw mStandby true true 0).mode = mStandby) ∧
    ((wSw mStandby true false 0).link.swap = some ⟨0, (at_ 5).now, true, false⟩ ∧ (wSw mStandby true true 0).skipLimitReached = false) ∧
    ((wSw mStandby true true 0).link.reversalAt = some (wSw mStandby true true 0).now) := by decide

/-- A STANDBY module with task 0 in an open cycle and a snapshot list of one entry, and urgent task 16 enabled. -/
def wCycle (m : Nat) : State :=
  let s := ((((linked m).set (Reg.tstState 0) tsSnapshot).set (Reg.tsnapc 0) 1).set (Reg.tsnap 0) 0x20000).setWord 0x20000
    (wBits (3 + 0x30000 * 2 ^ 32))
  let s1 := ((((s.set (Reg.tcfgEn 0) 1).set (Reg.tcfgEn 16) 1).set (Reg.utrigSrc 16) 2).set Reg.drvActive 1).setTask 0 fun k =>
    { k with rel := some 5 }
  { s1 with link := { s1.link with goAt := some 0 }, drv := { s1.drv with window := some 11 } }
def snapP : List TW := [wBits 0, wTime 5, wUint 77]
def trigP : List TW := wBits 16 :: wBits 1 :: wTime 6 :: List.replicate 8 (wBits 0)
def aoP (t : Int) : List TW := [wTime t, wBits 3] ++ List.replicate 2 ⟨0x4028000000000000#64, 0xC2#8⟩ ++ List.replicate 6 ⟨0#64, 0#8⟩
theorem wit_FramesOfEachCycle :
    (NewFrame (wCycle mStandby) 0 (mkF 4 0 snapP) ftSnapshot (mkP 4 0 snapP) ∧
      0 = (mkP 4 0 snapP).num 0 % 32 + (if ((mkP 4 0 snapP).num 0).testBit 5 then 32 else 0) ∧
      ((wCycle mStandby).task 0).rel = some ((mkP 4 0 snapP).time 1) ∧ (wCycle mStandby).openCycle 0 = true ∧
      (wCycle mStandby).upsets = [] ∧
      ((wCycle mStandby).snapList 0)[0]? = some (3, 0x30000)) ∧
    (NewFrame (wCycle mStandby) 0 (mkF 5 0 trigP) ftTrigger (mkP 5 0 trigP) ∧ 16 = (mkP 5 0 trigP).num 0 % 32 ∧
      (wCycle mStandby).active = true ∧ (wCycle mStandby).enabled 16 = true ∧ (wCycle mStandby).get (Reg.utrigSrc 16) ≠ 0 ∧
      ((wCycle mStandby).task 16).pend = none ∧ (wCycle mStandby).runningAt ((wCycle mStandby).place 16) = none ∧
      ((wCycle mStandby).pair ((wCycle mStandby).place 16 / 2)).ahead = [] ∧
      ((wCycle mStandby).task 16).lastDispatch = none ∧ (wCycle mStandby).place 16 ∉ (wCycle mStandby).xch.keep ∧
      (wCycle mStandby).descOf 16 = none) ∧
    (NewFrame (wCycle mSync) 0 (mkF 5 0 trigP) ftTrigger (mkP 5 0 trigP) ∧ (wCycle mSync).link.goAt.isSome = true ∧
      ((wCycle mSync).task 16).pend = none) := by decide

theorem wit_FramesOfEachCycle_more :
    (NewFrame (linked mStandby) 0 (mkF 6 0 (aoP 0)) ftAocmd (mkP 6 0 (aoP 0)) ∧
      ((mkP 6 0 (aoP 0)).num 1).testBit (1 : Fin 8).val = true ∧ (mkP 6 0 (aoP 0)).time 0 = 0 ∧ (mkP 6 0 (aoP 9)).time 0 ≠ 0 ∧
      (mkP 6 0 (aoP 9)).time 0 ≤ (linked mStandby).now ∧ (linked mStandby).now < (mkP 6 0 (aoP ((at_ 5).now + 1))).time 0 ∧
      NewFrame (linked mStandby) 0 (mkF 6 0 (aoP ((at_ 5).now + 1))) ftAocmd (mkP 6 0 (aoP ((at_ 5).now + 1))) ∧
      NewFrame (linked mStandby) 0 (mkF 6 0 (aoP 9)) ftAocmd (mkP 6 0 (aoP 9))) ∧
    (NewFrame (wCycle mStandby) 0 (mkF 9 0 (roleP 256 11)) ftWeir (mkP 9 0 (roleP 256 11)) ∧
      (wCycle mStandby).drv.window = some ((mkP 9 0 (roleP 256 11)).time 1) ∧
      (wCycle mStandby).get Reg.weirKind = (mkP 9 0 (roleP 256 11)).num 0 % 2 ∧ ((mkP 9 0 (roleP 256 11)).num 0).testBit 8 = true ∧
      NewFrame (wCycle mStandby) 0 (mkF 9 0 (roleP 0 11)) ftWeir (mkP 9 0 (roleP 0 11)) ∧ ((mkP 9 0 (roleP 0 11)).num 0).testBit 8 = false) :=
  by decide

def sealP (v : Nat) : List TW := [wBits 0, wTime 5, wBits 1, wBits v, wBits 3]
def own : SealRec := ⟨0, false, 5, 1, 2, 3⟩
def wSeal : State := let s := linked mPrimary; { s with link := { s.link with seals := [own] } }
def wTest (m : Nat) (d : Int) : State :=
  let s := (linked m).set Reg.diagUnits 1
  { s with link := { s.link with test := some ⟨0, false, 5, s.now - d, true⟩ } }
/-- A word of the supervisor store with two flipped bits. -/
def wUpset : State := { wTest mStandby 0 with upsets := [(0x2000005, 3#80)] }
theorem wit_SealsAndSelfTest_upset : 2 ≤ eccKind (wUpset.flips 0x2000005) := by
  have h : wUpset.flips 0x2000005 = 3#80 := by decide
  rw [h]
  refine eccKind_two (i := 1) (j := 0) (by omega) (by omega) ?_ (by decide)
  have l : (List.range 112).filter (fun i => if i < 80 then (3#80).getLsbD i else (0#32).getLsbD (i - 80)) = [0, 1] := by decide +kernel
  rw [syndrome, l]; simp [BitVec.xor_comm]
theorem wit_SealsAndSelfTest :
    (NewFrame (linked mPrimary) 0 (mkF 7 0 (sealP 2)) ftSeal (mkP 7 0 (sealP 2)) ∧
      (linked mPrimary).link.seals.find? (mkP 7 0 (sealP 2)).seal.same = none) ∧
    (NewFrame wSeal 0 (mkF 7 0 (sealP 2)) ftSeal (mkP 7 0 (sealP 2)) ∧
      wSeal.link.seals.find? (mkP 7 0 (sealP 2)).seal.same = some own ∧ (mkP 7 0 (sealP 2)).seal = own ∧
      (mkP 7 0 (sealP 4)).seal ≠ own ∧ wSeal.link.seals.find? (mkP 7 0 (sealP 4)).seal.same = some own ∧ wSeal.link.test = none) ∧
    ((wSeal.link.seals ++ wSeal.link.pSeals).find? fun x => x.task == (0 : Fin 24).val && wSeal.due (wSeal.sealDeadline x)) =
      some own ∧
    ((wTest mPrimary 0).link.test = some ⟨0, false, 5, (at_ 5).now, true⟩ ∧ (wTest mPrimary 0).get Reg.diagPart = 0 ∧
      (wTest mPrimary 0).flag (Reg.spdBelow ((wTest mPrimary 0).pairOf 0 / 4)) = false) ∧
    ((wTest mStandby 0).mode = mStandby ∧ (wTest mStandby 0).functional = true ∧ (wTest mStandby 0).upsets = []) ∧
    (wUpset.upsets = [(0x2000005, 3#80)] ∧ wUpset.link.test = some ⟨0, false, 5, (at_ 5).now, true⟩ ∧
      wUpset.testReads (wUpset.pairOf 0) 0x2000005 = true ∧ wUpset.mode = mStandby ∧ wUpset.functional = true) ∧
    (NewFrame (wTest mPrimary 0) 0 (mkF 8 0 (roleP 2 0)) ftDiag (mkP 8 0 (roleP 2 0)) ∧ (wTest mPrimary 0).get Reg.diagOwn ≠ 2 ∧
      (mkP 8 0 (roleP 2 0)).num 0 % 4 = 2) ∧
    (NewFrame (linked mPrimary) 0 (mkF 8 0 (roleP 2 0)) ftDiag (mkP 8 0 (roleP 2 0)) ∧ (linked mPrimary).link.test = none) ∧
    ((wTest mPrimary 2500000000).link.test = some ⟨0, false, 5, (at_ 5).now - 2500000000, true⟩ ∧
      ((wTest mStandby 2500000000).set Reg.diagOwn 1).get Reg.diagOwn = 1 ∧ (wTest mStandby 2500000000).md.pend = none) := by decide

def dataP : List TW := [wBits (5 * 2 ^ 32), wUint 9]
def wSend (m p : Nat) (g : Option Int) : State :=
  let s := (at_ m).set (Reg.tcfgEn 0) 0
  { s with link := { s.link with sendPhase := p, goAt := g, phase3At := some 0 },
           tmb := { s.tmb with sec := 1, ns := 124980000, prev := 378691201124979999 } }
/-- An urgent task has been dispatched in the window. -/
def wHurry : State :=
  let s := wSend mSolo 5 (some 378691201124982000)
  { s with drv := { s.drv with urgentInW := true } }
theorem wit_SyncAndItsEnd :
    (NewFrame (linked mSync) 0 (mkF 10 0 dataP) ftSyncdata (mkP 10 0 dataP) ∧ (mkP 10 0 dataP).num 0 % 16 = 0 ∧
      (mkP 10 0 dataP).num 0 / 2 ^ 32 < 0x400000 ∧ (mkP 10 0 dataP).payload.drop 1 = [wUint 9]) ∧
    (NewFrame (linked mSync) 0 (mkF 11 0 (roleP 0x36 7)) ftSyncctl (mkP 11 0 (roleP 0x36 7)) ∧
      (mkP 11 0 (roleP 0x36 7)).num 0 / 16 % 16 = 3 ∧ (linked mSync).link.sync2 = [] ∧
      (mkP 11 0 (roleP 0x345 0)).num 0 / 16 % 16 = 4 ∧ NewFrame (linked mSync) 0 (mkF 11 0 (roleP 0x345 0)) ftSyncctl (mkP 11 0 (roleP 0x345 0)) ∧
      NewFrame (linked mSync) 0 (mkF 11 0 (roleP 0x14 0)) ftSyncctl (mkP 11 0 (roleP 0x14 0)) ∧ (mkP 11 0 (roleP 0x14 0)).num 0 / 16 % 16 = 1 ∧
      (mkP 11 0 (roleP 0x14 0)).num 0 % 16 ≠ 3) ∧
    ((wSend mSolo 1 none).inControl = true ∧ (wSend mSolo 1 none).syncAcked = true ∧ (wSend mSolo 1 none).link.goAt = none) ∧
    ((wSend mSolo 5 none).link.sendPhase = 5 ∧ (wSend mSolo 5 none).windowDue = some 378691201125000000 ∧
      (wSend mSolo 5 none).qualifies = true ∧ (wSend mSolo 5 none).link.phase2Dirty = false ∧
      (wSend mSolo 5 none).get Reg.syncDs + 40 * (wSend mSolo 5 none).get Reg.syncDr ≤ 800 ∧
      (wSend mSolo 5 none).syncAcked = true) ∧
    ((wSend mSolo 5 (some 378691201124982000)).matches (378691201124982000 - 2000) = true ∧
      (wSend mSolo 5 none).drv.urgentInW = false ∧ (wSend mSolo 5 none).md.pend = none ∧
      wHurry.drv.urgentInW = true ∧ wHurry.link.goAt = some 378691201124982000 ∧ wHurry.matches (378691201124982000 - 2000) = true) ∧
    ((wSend mSync 0 none).link.phase3At = some 0 ∧ (wSend mSync 0 none).mode = mSync ∧
      0 + ((wSend mSync 0 none).get Reg.convlim : Int) * 1000000000 ≤ (wSend mSync 0 none).now) := by decide

theorem wit_SyncAndItsEnd_permits :
    Sound (linked mSync) ∧ Sound (wSend mSolo 5 none) ∧ Sound (wSend mSolo 1 none) ∧
    ((linked mSync).syncWindow.mpuCheck ⟨mEwx, .write, true, (mkP 10 0 dataP).num 0 / 2 ^ 32, 0, false, false⟩).1 = true ∧
    NewFrame (linked mSync).syncWindow 0 (mkF 10 0 dataP) ftSyncdata (mkP 10 0 dataP) ∧
    ((linked mSync).mpuCheck ⟨mEwx, .write, true, (mkP 10 0 dataP).num 0 / 2 ^ 32, 0, false, false⟩).1 = false := by decide

def mirP (k : Nat) : List TW := [wBits (k + 8 * 2 ^ 16), wBits 2] ++ if k = 1 then [] else [wBits 3]
def objP (n : Nat) : List TW := [wBits (1 + n * 2 ^ 32), wBits 2]
def manP : List TW := List.replicate 7 (wBits 0) ++ [wUint 1, wUint 2, wBits 0, wBits 0]
def echoP (v : Nat) : List TW := [wBits v, wTime 0, wTime 0, wTime 0]
def wAck (n : Nat) : State := let s := linked mSolo; { s with link := { s.link with acks := [⟨12, 3, [], 0, true, 0, n⟩] } }
theorem wit_FramesOfTheLink :
    (NewFrame (linked mSolo) 0 (mkF 12 0 (mirP 1)) ftMirror (mkP 12 0 (mirP 1)) ∧ (mkP 12 0 (mirP 1)).num 0 % 4 = 1 ∧
      (mkP 12 0 (mirP 2)).num 0 % 4 = 2) ∧
    (NewFrame (linked mStandby) 0 (mkF 13 0 (objP 9)) ftObject (mkP 13 0 (objP 9)) ∧ (linked mStandby).runtime = true ∧
      (mkP 13 0 (objP 9)).num 0 / 2 ^ 16 % 65536 = 0 ∧ (valueBytes ((mkP 13 0 (objP 9)).payload.drop 1)).length < 9) ∧
    (NewFrame (linked mStandby) 0 (mkF 13 0 (objP 8)) ftObject (mkP 13 0 (objP 8)) ∧ (mkP 13 0 (objP 8)).num 0 % 16 = 1 ∧
      (mkP 13 0 (objP 8)).num 0 / 2 ^ 32 ≤ (valueBytes ((mkP 13 0 (objP 8)).payload.drop 1)).length ∧
      (linked mStandby).link.objs = []) ∧
    (NewFrame (linked mSafe) 0 (mkF 14 0 manP) ftManifest (mkP 14 0 manP)) ∧
    (NewFrame (linked mSolo) 0 (mkF 15 0 (echoP 1)) ftEcho (mkP 15 0 (echoP 1)) ∧ ((mkP 15 0 (echoP 1)).num 0).testBit 0 = true ∧
      ((mkP 15 0 (echoP 0)).num 0).testBit 0 = false) ∧
    ((upState mSolo).linkRuns = true ∧ (upState mSolo).laneUp 0 = true ∧ SMap.find (upState mSolo).link.echoAt 0 = none) ∧
    (NewFrame (wAck 1) 0 (mkF 16 0 [wBits (12 + 3 * 2 ^ 32)]) ftAck (mkP 16 0 [wBits (12 + 3 * 2 ^ 32)])) ∧
    (((wAck 1).link.acks.find? fun x => x.ty == (12#8).toNat && x.seq == (3#32).toNat) = some ⟨12, 3, [], 0, true, 0, 1⟩ ∧
      (0 : Int) + 20000 ≤ (wAck 1).now) := by decide

def wWeir (g : Option Bool) : State :=
  let s := ((wSend mSolo 0 none).set Reg.weirArm 1)
  { s with tarn := { s.tarn with state := 3, prepared := true },
           drv := { s.drv with searchAt := some s.now, decision := g } }
def wWin (g : Option Bool) (d : Int) : State := { wWeir g with drv := { (wWeir g).drv with window := some ((wWeir g).now + d) } }
theorem wit_BoundarySearch :
    ((wWeir none).runtime = true ∧ (0x301#32).getLsbD 0 = true) ∧
    ((wWeir none).windowDue = some 378691201125000000 ∧ (wWeir none).windowFor 378691201125000000 = true ∧
      (wWeir none).get Reg.weirKind = 0) ∧
    ((wWin none 2000).drv.window = some ((wWin none 0).now + 2000) ∧ (wWin none 2000).mode ∈ [mPrimary, mSolo] ∧
      (wWin none 2000).drv.decision = none ∧ (wWin none 2000).matches ((wWin none 0).now + 2000 - 2000) = true ∧
      (wWin none 2000).weirPrepared = true) ∧
    ((wWin (some true) 0).drv.decision = some true ∧ (wWin (some true) 0).tarn.prepared = true ∧
      (wWin (some true) 0).matches (wWin none 0).now = true) ∧
    (((wWeir none).set Reg.weirHorizon 0).drv.searchAt = some ((wWeir none).now) ∧ (wWeir none).tarn.state = 3) := by decide

/-! Tasks -/

/-- Task 0 with a period of 125 µs at a release instant; task 16 urgent by software on pair 1. -/
def tasky (m : Nat) : State :=
  let s := ((((((at_ m).set (Reg.tcfgEn 0) 1).set (Reg.tperN 0) 1).set Reg.drvActive 1).set (Reg.tstState 0) tsIdle).set (Reg.toutOfs 0) 50)
  let s1 := ((s.set (Reg.tcfgEn 16) 1).set (Reg.utrigSrc 16) 2).set (Reg.tcfgPair 16) 1
  { s1 with tmb := { s1.tmb with sec := 1, ns := 125000000, prev := 378691201124999999 } }
def rel0 : Int := 378691201125000000
def skips (m : Nat) : State :=
  ((((tasky m).set (Reg.tstState 0) tsLogic).set (Reg.tcfgSafety 0) 1).set (Reg.tstConsec 0) 2).setTask 0 fun k =>
    { k with rel := some (rel0 - 125000), startAt := some 0 }
def snaps (m : Nat) : State :=
  (((((tasky m).set (Reg.tstState 0) tsSnapshot).set (Reg.tsnapc 0) 1).set (Reg.tsnap 0) 0x20000).setWord 0x20000
    (wBits (3 + 0x30000 * 2 ^ 32))).setTask 0 fun k => { k with rel := some rel0, own := true }
def snapsStandby : State := (snaps mStandby).setTask 0 fun k => { k with got := [0] }
/-- The same while an urgent task runs at the place. -/
def snapsBehind : State := { snapsStandby with drv := { snapsStandby.drv with running := [(snapsStandby.place 0, 16)] } }
theorem wit_ReleaseAndSnapshot :
    ((tasky mSolo).releaseDue 0 = some rel0 ∧ (tasky mSolo).openCycle 0 = false ∧ (tasky mSolo).upsets = []) ∧
    ((skips mSolo).releaseDue 0 = some rel0 ∧ (skips mSolo).upsets = [] ∧ (skips mSolo).openCycle 0 = true ∧ (skips mSolo).inControl = true ∧
      (skips mSolo).flag (Reg.tcfgSafety 0) = true ∧
      (skips mSolo).get (Reg.tcfgSkiplim 0) ≤ (skips mSolo).get (Reg.tstConsec 0) + 1 ∧
      (skips mSolo).get (Reg.tcfgSkiplim 0) < 2 ^ (Reg.tstConsec 0).width ∧ (skips mStandby).inControl = false) ∧
    ((snaps mSolo).mode ∈ [mPrimary, mSolo] ∧ ((snaps mSolo).task 0).own = true ∧ (snaps mSolo).xch.keep = [] ∧ (snaps mSolo).inSnapshot 0 = true ∧ (snaps mSolo).snapshotFirst 0 = true ∧
      (snaps mSolo).tstate 0 = tsSnapshot ∧ (snaps mSolo).snapList 0 = [(3, 0x30000)] ∧ (snaps mSolo).upsets = [] ∧
      (snaps mSolo).finalHold = false ∧ (snaps mSolo).runningAt ((snaps mSolo).place 0) = none ∧
      ((snaps mSolo).pair ((snaps mSolo).place 0 / 2)).ahead = [] ∧ (∀ m ∈ cycleTasks, (snaps mSolo).waits m = false) ∧
      (snaps mSolo).descOf 0 = none) ∧
    (snapsStandby.mode = mStandby ∧ snapsStandby.inSnapshot 0 = true ∧ snapsStandby.snapHeld 0 = true ∧ snapsStandby.descOf 0 = none ∧ snapsStandby.xch.keep = [] ∧
      snapsStandby.runningAt (snapsStandby.place 0) = none ∧ (∀ m ∈ cycleTasks, snapsStandby.waits m = false)) ∧
    (snapsBehind.mode = mStandby ∧ snapsBehind.inSnapshot 0 = true ∧ snapsBehind.snapHeld 0 = true ∧
      snapsBehind.runningAt (snapsBehind.place 0) = some 16 ∧ snapsBehind.before 0 16 = false) := by decide

/-- The task of number `n` runs on its pair since the instant `a`. -/
def runs (s : State) (n : Nat) (a : Int) : State :=
  let t := (s.setTask n fun k => { k with rel := some rel0, startAt := some a }).set (Reg.tstState n) tsLogic
  { t with drv := { t.drv with running := SMap.set t.drv.running (t.place n) n } }
def ended (m : Nat) : State :=
  let s := ((tasky m).set (Reg.toutOfs 0) 0).set (Reg.tstState 0) tsEnded
  s.setTask 0 fun k => { k with rel := some rel0, lastRel := some rel0, ended := true, outs := [(7, wUint 9)] }
theorem wit_EndOfCycleAndOutput :
    ((runs (tasky mSolo) 0 0).runningAt ((runs (tasky mSolo) 0 0).place 0) = some 0 ∧
      SMap.get [] (runs (tasky mSolo) 0 0).drv.stack ((runs (tasky mSolo) 0 0).place 0) = [] ∧
      (runs (tasky mSolo) 0 0).descOf 0 = none ∧ Alike (runs (tasky mSolo) 0 0) ((runs (tasky mSolo) 0 0).place 0) ∧
      (∀ e ∈ (runs (tasky mSolo) 0 0).outList 0, StubMay (runs (tasky mSolo) 0 0) ((runs (tasky mSolo) 0 0).place 0) .read e.2 1) ∧
      (∀ m ∈ cycleTasks, (runs (tasky mSolo) 0 0).waits m = false) ∧
      (runs (tasky mSolo) 0 0).now < (runs (tasky mSolo) 0 0).outputOf 0 (((runs (tasky mSolo) 0 0).task 0).rel.getD 0)) ∧
    ((ended mStandby).outputDue 0 = some rel0 ∧ ((ended mStandby).task 0).rel = some rel0 ∧
      ((ended mStandby).task 0).ended = true ∧ ((ended mStandby).task 0).noPublish = false ∧
      ((ended mStandby).task 0).lateOuts = none ∧ ((ended mStandby).task 0).outs = [(7, wUint 9)] ∧
      ((ended mStandby).task 0).own = false ∧ (ended mStandby).urgentHeld 7 rel0 = false ∧ (ended mStandby).forceOf 7 = none ∧
      (ended mStandby).portHeld = false) := by decide

def pended : State := (tasky mSolo).setTask 16 fun k => { k with pend := some (4, []) }
/-- An image in which urgent task 16 has one output word, for point 7 at 0x30000. -/
def wTask : TaskDesc := ⟨16, 0, 0, false, 1, 0, [], [(7, 0x30000)], 0, 0, false, [], true⟩
def imaged (m : Nat) : State :=
  let s := (tasky m).set Reg.xchAvalid 1
  { s with xch := { s.xch with imgA := some { wImage with tasks := [wTask] } } }
def stored : State := ((runs (imaged mStandby) 16 0).setTask 0 fun k => { k with lastRel := some rel0 }).setTask 16 fun k => { k with stores := [(0x30000, wUint 5)] }
/-- A cyclic task runs at the place of urgent task 16. -/
def preempts : State := runs ((tasky mSolo).set (Reg.tcfgPair 0) 1) 0 0
def queued : State := { at_ mSolo with pimg := { queue := [⟨3, 9, wUint 4⟩] } }
theorem wit_saves : StubMay preempts (preempts.place (0 + 16)) .write (preempts.saveBase (preempts.place (0 + 16))) 73 := by
  have h : preempts.saveBase (preempts.place (0 + 16)) = 0x10000 + Config.saveArea (preempts.place (0 + 16)) % 2064311 := rfl
  exact congrArg Prod.fst (State.stubRun_default (by decide) (by decide) (by decide) (by decide) 73 _ (by omega))
theorem wit_UrgentTasks :
    ((tasky mSolo).mode ≠ mStandby ∧ (tasky mSolo).active = true ∧ (tasky mSolo).enabled (0 + 16) = true ∧
      (tasky mSolo).get (Reg.utrigSrc (0 + 16)) ≠ 0 ∧ ((tasky mSolo).task (0 + 16)).pend = none ∧
      ((tasky mSolo).task (0 + 16)).lastDispatch = none ∧ (tasky mSolo).runningAt ((tasky mSolo).place (0 + 16)) = none ∧
      ((tasky mSolo).pair ((tasky mSolo).place (0 + 16) / 2)).ahead = [] ∧
      (runs (tasky mSolo) 16 0).urgentAt ((runs (tasky mSolo) 16 0).place (0 + 16)) = true ∧ (pended.task 16).pend = some (4, [])) ∧
    (preempts.runningAt (preempts.place (0 + 16)) = some 0 ∧ (preempts.task 16).pend = none ∧ preempts.active = true ∧
      Alike preempts (preempts.place (0 + 16)) ∧ preempts.descOf 16 = none ∧ preempts.xch.keep = []) ∧
    ((tasky mSolo).runtime = true ∧ (tasky mSolo).descOf 16 = none ∧ (tasky mSolo).xch.keep = [] ∧ (tasky mSolo).get (Reg.utrigSrc (16 + 0)) = 2) ∧
    (pended.active = true ∧ 2 ∈ pended.placesOf 1 ∧ (∀ q ∈ pended.placesOf 1, pended.runningAt q = none) ∧
      (pended.pair 1).ahead = [] ∧ pended.nextUrgent 2 = some 16 ∧ (∀ m ∈ urgentTasks, pended.descOf m = none) ∧ pended.xch.keep = []) ∧
    (((runs (tasky mSolo) 16 0).task (0 + 16)).startAt = some 0 ∧
      (runs (tasky mSolo) 16 0).runningAt ((runs (tasky mSolo) 16 0).place (0 + 16)) = some (0 + 16) ∧
      (runs (tasky mSolo) 16 0).budgetUnits (0 + 16) + 2000000 < ((runs (tasky mSolo) 16 0).now - 0) * 10000 ∧
      (runs (tasky mSolo) 16 0).flag (Reg.tcfgSafety (0 + 16)) = false ∧ (runs (tasky mSolo) 16 0).descOf 16 = none ∧
      Alike (runs (tasky mSolo) 16 0) ((runs (tasky mSolo) 16 0).place 16) ∧
      (∀ m ∈ cycleTasks, (runs (tasky mSolo) 16 0).waits m = false)) ∧
    ((stored.task 16).stores.drop (stored.task 16).published = [(0x30000, wUint 5)] ∧
      (stored.outList 16).filter (fun e => e.2 == 0x30000) = [(7, 0x30000)] ∧ stored.forceOf 7 = none ∧ stored.portHeld = false ∧
      stored.runningAt (stored.place 16) = some 16 ∧ stored.mode = mStandby) ∧
    (queued.link.goAt = none ∧ State.portHeld { queued with pimg := { queued.pimg with queue := [] } } = false ∧ queued.forceOf 9 = none) := by
  refine ⟨?_, ?_, ?_, ?_, ?_, ?_, ?_⟩ <;> decide

def dozy : State :=
  (at_ mSolo).each (clusterPairs 0) fun u t => t.set (Reg.sleepState u) slWaitDoze
def dozing : State :=
  let s := tasky mSolo
  { s with pwr := { s.pwr with dozeAt := [(0, s.now - 100000000)], dozeRail := [(0, 800, 1)] } }
def dozeEnds : State := dozing.set Reg.dozeLead 125
theorem wit_Doze :
    ((∀ u ∈ clusterPairs (0 : Fin 3).val, dozy.get (Reg.sleepState u) = slWaitDoze) ∧ dozy.flag Reg.dozeEn = true ∧
      dozy.nextReleaseIn 0 = none ∧ (∀ n ∈ urgentTasks, dozy.enabled n = true → dozy.pairOf n ∉ clusterPairs 0) ∧
      0 ∉ dozy.pwr.owed) ∧
    (SMap.find dozeEnds.pwr.dozeAt 0 = some (rel0 - 100000000) ∧ SMap.find dozeEnds.pwr.dozeRail 0 = some (800, 1) ∧
      dozeEnds.nextReleaseIn 0 = some 125000 ∧ 125000 ≤ (dozeEnds.get Reg.dozeLead : Int) * 1000) ∧
    (SMap.find dozing.pwr.dozeAt 0 = some (rel0 - 100000000) ∧ rel0 - 100000000 + 100000000 ≤ dozing.now) := by decide

/-! Instructions -/

/-- Control pair 3 in privileged code of the supervisor store, with registers g1, g2, g3 and g4. -/
def cpu (a b d e : TW) : State :=
  let k : CoreSt := { g := [(1, a), (2, b), (3, d), (4, e)].filter fun x => x.2 != zeroWord }
  ((at_ mSolo).setCore 3 false k).setCore 3 true k
def cp : CoreId := ⟨3, false, []⟩
def wI (v : Int) : TW := ⟨BitVec.ofInt 64 v, 0xC0#8⟩
def wF (v : Nat) : TW := ⟨BitVec.ofNat 64 v, 0xC2#8⟩
def wB (v : Nat) : TW := ⟨BitVec.ofNat 64 v, 0xC4#8⟩
def wT (v : Int) : TW := ⟨BitVec.ofInt 64 v, 0x93#8⟩
def wP (hi lo : Int) : TW := ⟨BitVec.ofInt 32 hi ++ BitVec.ofInt 32 lo, 0xC7#8⟩
/-- The same in unprivileged code, at a word of program slot A. -/
def userOf (s : State) : State :=
  (s.onCrew cp fun _ k => { k with priv := false }).setWord 0x1000000 (wBits 0)
/-- A region of both checkers that permits every access of pair 3. -/
def opened (s : State) : State :=
  s.each [0, 1] fun n t => ((((t.set (Reg.rAttr n 0) 0x177).set (Reg.rBase n 0) 0).set (Reg.rLim n 0) 0xFFFFFFFF).set (Reg.rMask n 0) 8)
def wR (base ext : Nat) : TW := ⟨BitVec.ofNat 64 (base + ext * 2 ^ 32), 0xC6#8⟩
def userCpu (a b d e : TW) : State := userOf (opened (cpu a b d e))
def taskCpu : State :=
  let s := (opened (cpu (wB 0x30000) (wI 3) (wR 0x40000 9) zeroWord)).set (Reg.tcfgPair 0) 3
  userOf (runs { s with tmb := (tasky mSolo).tmb } 0 0)
def unlike : State := (cpu (wB 0x30000) (wI 3) zeroWord zeroWord).setCore 3 true {}

theorem wit_IntegerArithmetic :
    (Ready cp (cpu (wI 7) (wI (-2)) (wP 9 1) zeroWord) ∧ Src2.legal false (.reg 2 4#6) = true ∧ modOk false 4#6 = true) ∧
    (((cpu (wI 7) (wI (-2)) (wP 9 1) zeroWord).coreAt cp).reg 1).ty ≤ 1 ∧
    (((cpu (wI 7) (wI (-2)) (wP 9 1) zeroWord).coreAt cp).src2 (.reg 2 4#6) 0).ty = 0 ∧
    (((cpu (wI 7) (wI (-2)) (wP 9 1) zeroWord).coreAt cp).reg 3).ty = tyPair ∧
    ((wI (-2)).val ≠ 0#64 ∧ intOf 0 (wI 7).val = (-3) * intOf 0 (wI (-2)).val + 1 ∧
      (1 : Int).natAbs < (intOf 0 (wI (-2)).val).natAbs ∧ ¬ ((1 : Int) < 0) ∧ ¬ (intOf 0 (wI 7).val < 0)) ∧
    (((cpu (wI 7) (wI (-2)) (wP 9 1) zeroWord).coreAt cp).divpol = false ∧ (wI 0).val = 0#64) := by decide

theorem wit_FloatArithmetic :
    (Ready cp (cpu (wF 1) (wF 2) (wF 3) zeroWord) ∧ Src2.legal true (.reg 2 3#6) = true ∧ modOk true 3#6 = true) ∧
    (((cpu (wF 1) (wF 2) (wF 3) zeroWord).coreAt cp).reg 1).ty = tyFloat ∧
    (((cpu (wF 1) (wF 2) (wF 3) zeroWord).coreAt cp).src2 (.reg 2 3#6) tyFloat).ty = tyFloat ∧
    (((cpu (wF 1) (wF 2) (wF 3) zeroWord).coreAt cp).reg (2 + 1)).ty = tyFloat ∧ (2 : GReg).val ≠ 63 ∧
    ((cpu (wF 1) (wF 2) (wF 3) zeroWord).coreAt cp).divpol = false := by decide

theorem wit_TimeAndPairs :
    (Ready cp (cpu (wT 5) (wI 2) (wT 3) zeroWord) ∧ (wT 5).ty = tyTime ∧ (wI 2).ty = tyInt ∧
      ((cpu (wT 5) (wI 2) (wT 3) zeroWord).coreAt cp).reg 1 = wT 5 ∧
      ((cpu (wT 5) (wI 2) (wT 3) zeroWord).coreAt cp).src2 (.reg 2 0#6) tyInt = wI 2 ∧
      ((cpu (wT 5) (wI 2) (wT 3) zeroWord).coreAt cp).src2 (.reg 3 0#6) tyInt = wT 3) ∧
    (Ready ⟨0, false, []⟩ (runs (tasky mSolo) 0 0) ∧ (runs (tasky mSolo) 0 0).runningAt 0 = some 0) ∧
    (Ready cp (cpu (wP 1 2) (wP 3 4) (wI 3) (wI 4)) ∧
      ((cpu (wP 1 2) (wP 3 4) (wI 3) (wI 4)).coreAt cp).reg 1 = wP 1 2 ∧
      ((cpu (wP 1 2) (wP 3 4) (wI 3) (wI 4)).coreAt cp).reg 2 = wP 3 4 ∧ (wP 1 2).ty = tyPair ∧ (wP 3 4).ty = tyPair ∧
      ((cpu (wP 1 2) (wP 3 4) (wI 3) (wI 4)).coreAt cp).reg 3 = wI 3 ∧
      ((cpu (wP 1 2) (wP 3 4) (wI 3) (wI 4)).coreAt cp).reg 4 = wI 4) := by decide

theorem wit_LogicAndShift :
    Ready cp (cpu (wB 5) (wB 70) (wB 1) zeroWord) ∧ Src2.legal false (.reg 2 0#6) = true ∧ (wB 5).ty = tyBits ∧
    ((cpu (wB 5) (wB 70) (wB 1) zeroWord).coreAt cp).reg 1 = wB 5 ∧
    ((cpu (wB 5) (wB 70) (wB 1) zeroWord).coreAt cp).src2 (.reg 2 0#6) tyBits = wB 70 ∧
    ((cpu (wB 5) (wB 70) (wB 1) zeroWord).coreAt cp).reg 3 = wB 1 := by decide

theorem wit_CompareAndSelect :
    Ready cp (cpu (wF 5) (wF 70) (wB 1) zeroWord) ∧ Src2.legal false (.reg 2 0#6) = true ∧ modOk false 0#6 = true ∧
    ((cpu (wF 5) (wF 70) (wB 1) zeroWord).coreAt cp).reg 1 = wF 5 ∧ (wF 5).ty = tyFloat ∧
    ((cpu (wF 5) (wF 70) (wB 1) zeroWord).coreAt cp).src2 (.reg 2 0#6) tyFloat = wF 70 ∧
    ((cpu (wF 5) (wF 70) (wB 1) zeroWord).coreAt cp).reg 3 = wB 1 ∧ (wB 1).ty = tyBits := by decide

theorem wit_TagInstructions :
    Ready cp (cpu (wF 5) (wI 70) zeroWord zeroWord) ∧ ((cpu (wF 5) (wI 70) zeroWord zeroWord).coreAt cp).reg 1 = wF 5 ∧
    ((cpu (wF 5) (wI 70) zeroWord zeroWord).coreAt cp).reg 2 = wI 70 ∧ (wF 5).ty < 8 ∧ (wI 70).ty < 8 ∧
    (0xF7#8).toNat % 16 < 8 ∧ modOk false 0#6 = true ∧ (3#6).toNat < 4 ∧ (7#6).toNat < 8 := by decide

theorem wit_Conversions :
    Ready cp (cpu (wF 5) (wI 70) (wF 0x7FF0000000000000) (wF 0x7FF8000000000000)) ∧ modOk true 3#6 = true ∧
    modOk false 0#6 = true ∧ (wF 5).ty = tyFloat ∧ (wI 70).ty = tyInt ∧ (⟨3#64, 0xC1#8⟩ : TW).ty = tyUint ∧
    FNum.ofBits (wF 5).val = .fin false 5 (-1074) ∧ FNum.ofBits (wF 0x7FF0000000000000).val = .inf false ∧
    isNaN (wF 0x7FF8000000000000) = true ∧
    ((cpu (wF 5) (wI 70) (wF 0x7FF0000000000000) (wF 0x7FF8000000000000)).coreAt cp).reg 1 = wF 5 := by decide

def cpuA : State := cpu (wB 0x30000) (wI 3) (wR 0x40000 9) (wF 5)
theorem wit_LoadsAndStores_1 :
    Ready cp cpuA ∧ (cpuA.mpuCheck ((cpuA.coreAt cp).access cp (cpuA.lead cp) .read 0x30005)).1 = true ∧
    (cpuA.mpuCheck ((cpuA.coreAt cp).access cp (cpuA.lead cp) .write 0x40003)).1 = true ∧
    areaOf 0x30005 ≠ .csr ∧ cpuA.flips 0x30005 = 0#80 ∧ ((cpuA.coreAt cp).reg 1).val.toNat = 0x30000 ∧
    ((cpuA.coreAt cp).reg 3).ty = tyRef ∧ ((cpuA.coreAt cp).reg 2).ty = tyInt ∧
    ((cpuA.coreAt cp).reg 2).val.toNat < ((cpuA.coreAt cp).reg 3).val.toNat / 2 ^ 32 := by decide
theorem wit_LoadsAndStores_2 :
    (cpuA.coreAt cp).priv = true ∧ areaOf 0xF0010000 = .csr ∧ canWindow 0xF0010000 = none ∧
    (cpuA.mpuCheck ((cpuA.coreAt cp).access cp (cpuA.lead cp) .read 0xF0010000)).1 = true ∧
    areaOf (Reg.sleepMode 3).addr = .csr ∧
    (cpuA.mpuCheck ((cpuA.coreAt cp).access cp (cpuA.lead cp) .write (Reg.sleepMode 3).addr)).1 = true := by decide
/-- The same pair split (LKS.SPLIT.MASK bit 3). -/
def splitOf (s : State) : State := s.set Reg.splitMask 8
theorem wit_LoadsAndStores_3 :
    Ready cp (splitOf cpuA) ∧ (splitOf cpuA).isSplit 3 = true ∧ areaOf 0x40003 ≠ .csr ∧
    ((splitOf cpuA).mpuCheck (((splitOf cpuA).coreAt cp).access cp ((splitOf cpuA).lead cp) .write 0x40003)).1 = true ∧
    ((splitOf cpuA).mpuCheck (((splitOf cpuA).coreAt cp).access cp ((splitOf cpuA).lead cp) .write (Reg.sleepMode 3).addr)).1 = true ∧
    ((splitOf cpuA).coreAt cp).priv = true ∧ (((splitOf cpuA).coreAt cp).reg 2).ty < 8 ∧
    (Ready cp (splitOf taskCpu) ∧ ((splitOf taskCpu).coreAt cp).priv = false ∧ (splitOf taskCpu).runningAt 6 = some 0 ∧
      ((splitOf taskCpu).mpuCheck (((splitOf taskCpu).coreAt cp).access cp ((splitOf taskCpu).lead cp) .write 0x30000)).1 = true) := by decide

def cpuB : State := cpu (wI 7) ⟨9#64, 0x3C#8⟩ (wI 0x200000) zeroWord
theorem wit_BranchesAndJumps :
    Ready cp cpuB ∧ (5#4).toNat ≤ 5 ∧ ((cpuB.coreAt cp).reg 1).ty < 8 ∧ ((cpuB.coreAt cp).reg 63).ty < 8 ∧
    (cpuB.coreAt cp).priv = true ∧ (7#24).toNat < 2 ^ 21 ∧ ¬ (0x200000#24).toNat < 2 ^ 21 ∧
    ((cpuB.onCrew cp fun _ k => k.setReg 63 ⟨5#64, 0x0C#8⟩).coreAt cp).reg 63 = ⟨5#64, 0x0C#8⟩ := by decide

theorem wit_SystemInstructions :
    Ready cp cpuA ∧ (cpuA.coreAt cp).priv = true ∧ cp.unit.val < 12 ∧ cpuA.isSplit 3 = false ∧
    cpuA.wakePending 3 = false ∧ (cpuA.coreAt cp).tepc.toNat < 2 ^ 21 ∧
    Ready cp (userCpu zeroWord zeroWord zeroWord zeroWord) ∧
    ((userCpu zeroWord zeroWord zeroWord zeroWord).coreAt cp).priv = false ∧
    (userCpu zeroWord zeroWord zeroWord zeroWord).runningAt 6 = none ∧
    Level cp cpuA ∧ Level cp (userCpu zeroWord zeroWord zeroWord zeroWord) := by decide
def supA : State := (at_ mSolo).setCore 12 false { priv := true }
def splitPriv : State :=
  let s := runs (splitOf cpuA) 1 0
  { s with drv := { s.drv with running := [(7, 0)] } }
/-- A pending trigger of urgent task 16 on the pair. -/
def triggered : State := ((cpuA.set (Reg.tcfgEn 16) 1).set (Reg.tcfgPair 16) 3).setTask 16 fun k => { k with pend := some (4, []) }
theorem wit_SystemInstructions_2 :
    (Ready ⟨12, false, []⟩ supA ∧ Level ⟨12, false, []⟩ supA ∧ (supA.coreAt ⟨12, false, []⟩).priv = true) ∧
    (Ready cp splitPriv ∧ splitPriv.isSplit 3 = true ∧ splitPriv.wakePending 3 = false ∧ (splitPriv.coreAt cp).priv = true ∧
      (splitPriv.runningAt (coreKey 3 true)).isSome = true) ∧
    (Ready cp triggered ∧ Level cp triggered ∧ triggered.wakePending 3 = true) := by decide

theorem wit_OperandTraps :
    (Ready cp cpuA ∧ modOk true 8#6 = false ∧ modOk false 0#6 = true ∧ ((cpuA.coreAt cp).reg 1).ty ≠ ((cpuA.coreAt cp).reg 2).ty ∧
      (⟨9#64, 0x3C#8⟩ : TW).ty = 12) ∧
    ((cpuA.onCrew cp fun _ k => { k with divpol := true }).coreAt cp).divpol = true ∧
    ((9#64).toNat ≤ (wI (-1)).val.toNat ∧ (wR 5 9).val.toNat / 2 ^ 32 = 9) ∧
    ((cpu (wB 0x500000) zeroWord zeroWord zeroWord).mpuCheck
      (((cpu (wB 0x500000) zeroWord zeroWord zeroWord).coreAt cp).access cp false .read 0x500000)).1 = false ∧
    (Ready cp taskCpu ∧ (taskCpu.coreAt cp).priv = false ∧ taskCpu.pairOf 0 = 3 ∧ taskCpu.coreOf 0 = taskCpu.lead cp ∧
      taskCpu.runningAt 6 = some 0 ∧ taskCpu.upsets = [] ∧ SMap.get [] taskCpu.drv.stack (taskCpu.place 0) = [] ∧
      Level cp taskCpu ∧ taskCpu.nextWaiting (taskCpu.place 0) = none) ∧
    (unlike.executes 3 = true ∧ unlike.isSplit 3 = false ∧
      ((unlike.core 3 false).reg 1).val.truncate 32 ≠ ((unlike.core 3 true).reg 1).val.truncate (w := 64) 32 ∧
      unlike.flag Reg.fstValid = false) := by decide

/-! Lockstep, speed, scrubbing, MPU, check values -/

def secondOn (ce : Nat) : State :=
  let s := tasky mSolo
  { s with tmb := { s.tmb with raw := 1000000000, run := 1000000000 }, pwr := { s.pwr with scrubCe := ce } }
/-- An injection test of pair 3 has been requested. -/
def asked : State := ((at_ mIsolated).set Reg.injBusy 1).set Reg.injPair 3
def sealsDiffer : State := (at_ mSolo).setCore 12 true { g := [(1, wI 1)] }
/-- Core 0 of control pair 3 has retired a LIMM that core 1 has not. -/
def fencing : State :=
  let s := cpu zeroWord zeroWord zeroWord zeroWord
  { s.setCore 3 false ((s.core 3 false).give 5 ⟨7#64, 0xC0#8⟩) with
    pairs := [(3, { count0 := 1, ahead := [⟨.limm cp 5 7#24, 0, true, ⟨0, [], 0⟩, none⟩] })] }
/-- It has retired a store of register 1 at the address in register 2. -/
def storeAhead (a : Nat) : Ahead := ⟨.st cp 1 2 0#18, 0, true, ⟨1, [BitVec.ofNat 72 a, lanesOf (wI 3)], a⟩, some (a, wI 3)⟩
/-- The same with what core 1 holds as address and word, and with the stamp of the entry in the FIFO, if there is one. -/
def storing (base : Nat) (w0 w1 : TW) (stamp : BitVec 5) (entry : Bool) : State :=
  let s := cpu w1 (wB base) zeroWord zeroWord
  let k := s.core 3 false
  { s.setCore 3 false (k.setReg 1 w0).advance with
    pairs := [(3, { count0 := 1, ahead := [storeAhead 0x30000], fifo := if entry then [FifoEntry.make 1 (wI 3) stamp] else [] })] }
theorem wit_LockstepCommands_stagger :
    (Ready cp fencing ∧ (fencing.coreAt cp).priv = true ∧ fencing.isSplit 3 = false ∧ (fencing.pair 3).skew = none ∧
      (fencing.pair 3).ahead = [⟨.limm cp 5 7#24, 0, true, ⟨0, [], 0⟩, none⟩] ∧
      fencing.core 3 false = (fencing.core 3 true).give 5 ⟨(7#24 : BitVec 24).signExtend 64, 0xC0#8⟩) ∧
    (Ready cp (storing 0x30000 (wI 3) (wI 3) 0 true) ∧ ((storing 0x30000 (wI 3) (wI 3) 0 true).coreAt cp).priv = true ∧
      ((storing 0x30000 (wI 3) (wI 3) 0 true).pair 3).ahead = [storeAhead 0x30000] ∧ areaOf 0x30000 ≠ .csr ∧
      (storing 0x30000 (wI 3) (wI 3) 0 true).mode ≠ mSafe ∧ ((storing 0x30000 (wI 3) (wI 3) 0 true).pair 3).skew = none ∧ (storing 0x30000 (wI 3) (wI 3) 0 true).flag Reg.fstValid = false ∧
      ((storing 0x30000 (wI 3) (wI 3) 0 true).pair 3).fifo = [FifoEntry.make 1 (wI 3) 0] ∧
      (storing 0x30000 (wI 3) (wI 3) 0 true).core 3 false = ((storing 0x30000 (wI 3) (wI 3) 0 true).core 3 true).advance) := by decide

theorem wit_LockstepCommands :
    ((at_ mSolo).mode ∈ [mIsolated, mSync, mStandby, mPrimary, mSolo] ∧ (at_ mSolo).flag Reg.fstValid = false ∧
      (at_ mSolo).unitRuns 3 = true ∧ (at_ mSolo).isSplit 3 = false ∧ (at_ mSolo).inRun 12 = true ∧
      (at_ mSolo).tmb.raw < ((at_ mSolo).pair 12).lastAt + 5000 ∧ ((secondOn 0).pair 12).lastAt + 5000 ≤ (secondOn 0).tmb.raw ∧
      ((at_ mSolo).set Reg.splitMask 8).isSplit 3 = true) ∧
    ((at_ mSolo).runtime = true ∧ (at_ mSolo).core 12 false = (at_ mSolo).core 12 true ∧ ((at_ mSolo).core 12 true).rflips = [] ∧
      ((at_ mSolo).pair 12).ahead = [] ∧ ((at_ mSolo).pair 12).skew = none) ∧
    (asked.mode = mIsolated ∧ asked.functional = true ∧ asked.flag Reg.injBusy = true ∧ asked.get Reg.injPair = 3 ∧
      (at_ mSolo).flag Reg.injBusy = false ∧ (at_ mSolo).proofOverdue = true ∧ (at_ mSolo).md.proofDue = false) := by decide
theorem wit_LockstepCommands_seal :
    stateSeal 0xFF sealsDiffer.now (sealsDiffer.core 12 false) [] ≠ stateSeal 0xFF sealsDiffer.now (sealsDiffer.core 12 true) [] ∧
    sealsDiffer.runtime = true ∧ (sealsDiffer.pair 12).ahead = [] ∧ (sealsDiffer.pair 12).skew = none ∧ (sealsDiffer.core 12 true).rflips = [] ∧ sealsDiffer.mode ∈ [mIsolated, mSync, mStandby, mPrimary, mSolo] ∧ sealsDiffer.flag Reg.fstValid = false := by decide +kernel

theorem wit_SpeedLoopAndScrubbing :
    ((at_ mSolo).functional = true ∧ SMap.find (at_ mSolo).pwr.dozeAt 1 = none ∧ (at_ mSolo).fixedRail 1 = false) ∧
    (sramPos ((at_ mSolo).get Reg.scrubPos) + 1 ≠ 0x2100000 ∧ (at_ mSolo).flips (sramPos ((at_ mSolo).get Reg.scrubPos)) = 0#80 ∧
      mramPos ((at_ mSolo).get Reg.scrubMpos) + 1 ≠ 0x8400000 ∧ (at_ mSolo).flips (mramPos ((at_ mSolo).get Reg.scrubMpos)) = 0#80) ∧
    ((secondOn 9).pwr.scrubAt + 1000000000 ≤ (secondOn 9).tmb.run ∧ (secondOn 9).get Reg.scrubThup ≤ (secondOn 9).pwr.scrubCe ∧
      0 < (secondOn 9).get Reg.scrubThup ∧ (secondOn 9).get Reg.scrubLvl < (secondOn 9).get Reg.scrubMaxlvl ∧
      (secondOn 0).pwr.scrubCe < (secondOn 0).get Reg.scrubThup) := by decide

def staged : State := ((at_ mSolo).set Reg.mpuWbase 0x40000).set Reg.mpuWattr 0x133
def lockedRegion : State := (staged.set (Reg.rAttr 0 5) 0x200).set (Reg.rAttr 1 5) 0x200
def drains (w : Option (Nat × Nat × Nat × Nat × Nat)) : State :=
  let s := (tasky mSolo).set Reg.mpuDrain 1
  { s with mpu := { s.mpu with drainAt := some (s.now - 2000), waiting := w } }
theorem wit_RuleWritesAndDrain :
    (staged.runtime = true ∧ Twin staged ∧ (staged.get (Reg.rAttr 0 5)).testBit 9 = false ∧ staged.flag Reg.mpuDrain = false ∧
      (lockedRegion.get (Reg.rAttr 0 5)).testBit 9 = true ∧ Twin lockedRegion) ∧
    ((drains none).flag Reg.mpuDrain = true ∧ (drains none).mpu.waiting = none ∧
      (drains (some (7, 1, 2, 3, 4))).mpu.waiting = some (7, 1, 2, 3, 4)) ∧
    ((drains none).mpu.drainAt = some ((drains none).now - 2000) ∧ (drains none).now - 2000 + 2000 ≤ (drains none).now ∧
      (drains none).mode ∈ [mIsolated, mSync, mStandby, mPrimary, mSolo]) := by decide

def scans (p : Nat) : State :=
  let s := ((((at_ mSolo).set (Reg.cvuLen 2) 1).set (Reg.cvuStart 2) 0x30005).set (Reg.cvuBusy 2) 1).set (Reg.cvuPoly 2) p
  (((((s.set (Reg.rAttr 0 0) 0x110).set (Reg.rAttr 1 0) 0x110).set (Reg.rLim 0 0) 0x3FFFFF).set (Reg.rLim 1 0) 0x3FFFFF).set (Reg.rMask 0 0)
    0x40000).set (Reg.rMask 1 0) 0x40000 |>.setWord 0x30005 (wUint 9)
def minute : State := { (tasky mSolo).holdString with cvu := { testAt := (tasky mSolo).now - 60000000000 } }
theorem wit_CheckValueScans :
    ((at_ mSolo).functional = true ∧ (0x80000001#32).getLsbD 31 = true ∧ (scans 0).flag (Reg.cvuBusy 2) = true ∧
      ((scans 0).set (Reg.cvuBusy 2) 0).flag (Reg.cvuBusy 2) = false ∧ ((scans 0).get Reg.cvuFault).testBit 2 = false ∧
      scanRangeOk 0x30005 1 = true ∧ (at_ mSolo).get (Reg.cvuLen 2) = 0) ∧
    ((scans 0).flag (Reg.cvuCont 2) = false ∧ (scans 0).flag (Reg.cvuSfold 2) = false ∧ (scans 0).flag (Reg.cvuAfold 2) = false ∧
      (scans 0).flag (Reg.cvuWmode 2) = false ∧ (scans 0).get (Reg.cvuLen 2) = 1 ∧ (scans 0).get (Reg.cvuStart 2) = 0x30005 ∧
      ((scans 0).mpuCheck ⟨16 + 2, .read, true, 0x30005, 0, false, false⟩).1 = true ∧ (scans 0).flips 0x30005 = 0#80) ∧
    (minute.runtime = true ∧ minute.cvu.testAt + 60000000000 ≤ minute.now ∧ minute.word (testStringAt + 1) = goodBits 0x39 ∧
      minute.word testStringAt = goodBits 0x3837363534333231 ∧ minute.flag Reg.mpuDrain = false) ∧
    Sound minute ∧ (minute.get (Reg.rAttr 0 winCvu)).testBit 9 = false ∧
    (∀ r : Fin 64, r.val < winCvu → ∀ i : Fin 2, minute.regionHit 0 r.val (testStringAt + i.val) = false) := by decide

/-! Program exchange -/

/-- Both slots hold an image: the active one of identity 1 in slot A, its successor of identity 2 in slot B. -/
def imageB : Image := { wImage with slot := 1, pred := 1, ident := 2, fwd := [⟨0x20000, 0x30000, 1, 1, 0, false, 0, true⟩] }
def twoImages (m : Nat) : State :=
  let s := ((((at_ m).set Reg.xchAvalid 1).set Reg.xchBvalid 1).set Reg.modePvalid 1).set Reg.modePartner mStandby
  { s with xch := { s.xch with imgA := some wImage, imgB := some imageB },
           link := { s.link with manifest := some { bValid := true, idB := 2 } } }
def onlyB : State := (twoImages mIsolated).set Reg.xchAvalid 0
def loadWaits : State := { tasky mPrimary with xch := { (tasky mPrimary).xch with loadAt := some 0 } }
theorem wit_LoadAndActivate :
    ((at_ mIsolated).runtime = true ∧ Asks (at_ mIsolated) 7 who rEngineer ∧ (at_ mIsolated).xchBusy = false ∧ Sound (at_ mIsolated)) ∧
    (loadWaits.xch.loadAt = some 0 ∧ 0 + 5000000000 ≤ loadWaits.now) ∧
    (Asks onlyB 7 who rEngineer ∧ onlyB.mode = mIsolated ∧ onlyB.xchBusy = false ∧ onlyB.idleImg = some imageB ∧
      onlyB.activeImg = none ∧ onlyB.admits imageB = true) := by decide
theorem wit_LoadAndActivate_check :
    ((at_ mIsolated).loadCheck (at_ mIsolated).idleSlot ((at_ mIsolated).flashImage (at_ mIsolated).idleSlot)) = .error (1, []) := rfl

def trials (k : Nat) : State := (twoImages mPrimary).set Reg.xchState k
/-- A standby that has taken the state of a run but for the words of a list, 20 µs before the boundary `takeB`. -/
def takes (l : List Nat) (a : Option Int) : State :=
  let s := (twoImages mStandby).set Reg.xchState 4
  { s with tmb := (wSend mSolo 5 none).tmb, xch := { s.xch with take := some l, takeAt := a } }
def takeB : Int := 378691201125000000
/-- A run has completed. -/
def ran (m : Nat) : State := let s := (twoImages m).set Reg.xchState 6; { s with xch := { s.xch with ran := true } }
theorem wit_YearlingRun :
    ((trials 0).runtime = true ∧ Asks (trials 0) 7 who rEngineer ∧ (trials 0).mode = mPrimary ∧ (trials 0).xchBusy = false ∧
      (trials 0).partnerMode = mStandby ∧ (trials 0).setPending = false ∧ (trials 0).exchPending = false ∧
      (trials 0).idleImg = some imageB ∧ (trials 0).activeImg = some wImage ∧ imageB.pred = wImage.ident ∧
      (trials 0).idleSlot = 1 ∧ (trials 0).link.manifest = some { bValid := true, idB := 2 } ∧
      admitted ((trials 0).trialSet imageB) ((trials 0).get Reg.splitMask) = true) ∧
    (Asks (trials 5) 7 who rEngineer ∧ (trials 5).get Reg.xchState ∈ [4, 5]) ∧
    ((twoImages mStandby).runtime = true ∧ (twoImages mStandby).mode = mStandby ∧ (twoImages mStandby).xchBusy = false ∧
      (twoImages mStandby).flips 0x20000 = 0#80 ∧ imageB.fwd = [⟨0x20000, 0x30000, 1, 1, 0, false, 0, true⟩]) ∧
    ((takes [] none).mode = mStandby ∧ (takes [] none).get Reg.xchState = 4 ∧ (takes [] none).xch.take = some [] ∧
      (takes [] none).windowDue = some takeB ∧ (takes [] none).qualifies = true) ∧
    ((takes [0x20000] none).windowDue = some takeB ∧ (takes [0x20000] none).qualifies = true ∧
      (takes [0x20000] none).imgOf (takes [0x20000] none).idleSlot = some imageB ∧ (takes [0x20000] none).flips 0x20000 = 0#80) ∧
    ((takes [] (some (takes [] none).now)).xch.takeAt = some (takes [] none).now ∧
      (takes [] none).now ≤ (takes [] (some (takes [] none).now)).now ∧
      (takes [5] (some (takes [] none).now)).xch.take = some [5]) := by
  decide

def rollbackHeld : State :=
  let s := (twoImages mPrimary).set Reg.xchRollbk 1
  { s with xch := { s.xch with imgA := some { wImage with pred := 2 } } }
def exchanges : State := { twoImages mPrimary with xch := { (twoImages mPrimary).xch with exch := some ⟨false, false, 5, 0, false, [], false, false⟩ } }
def keeps : State := { tasky mSolo with xch := { (tasky mSolo).xch with keep := [0] } }
theorem wit_ExchangeCommands :
    ((ran mPrimary).runtime = true ∧ Asks (ran mPrimary) 7 who (if (ran mPrimary).safetyImages then rExpert else rEngineer) ∧
      (ran mPrimary).partnerMode = mStandby ∧ (ran mPrimary).exchPending = false ∧ (ran mPrimary).xchBusy = false ∧
      (ran mPrimary).setPending = false ∧ (ran mPrimary).idleImg = some imageB ∧ (ran mPrimary).activeImg = some wImage ∧
      (ran mPrimary).xch.ran = true ∧ (ran mPrimary).xch.void = false ∧
      (ran mPrimary).admits imageB = true ∧ rollbackHeld.admits imageB = true ∧ (0 = (ran mPrimary).get Reg.repSeq ∧ 0 = (ran mPrimary).get Reg.xchDiff) ∧
      (ran mPrimary).upsets = [] ∧ rollbackHeld.xchBusy = false ∧ rollbackHeld.flag Reg.xchRollbk = true ∧ rollbackHeld.mode = mPrimary ∧
      rollbackHeld.partnerMode = mStandby) ∧
    (exchanges.xch.exch = some ⟨false, false, 5, 0, false, [], false, false⟩ ∧ exchanges.drv.window = none ∧
      Asks exchanges 7 who rEngineer ∧ exchanges.mode = mPrimary) ∧
    (0 ∈ keeps.placesOf 0 ∧ 0 ∈ keeps.xch.keep ∧ (∀ p ∈ keeps.placesOf 0, keeps.urgentAt p = false ∧ keeps.nextUrgent p = none) ∧ (∀ m ∈ cycleTasks, keeps.waits m = false) ∧ keeps.xch.keepStores = []) ∧
    ({ trials 0 with net := { sessions := [{ id := 7, port := 0, client := 5, role := some 1, maxRole := 3, lastReq := 0 }] } } : State).caller 7 =
      some ⟨1, 5⟩ ∧ (1 : Nat) < rEngineer := by
  refine ⟨?_, ?_, ?_, ?_, ?_⟩ <;> decide

/-! Forces and configuration -/

/-- Point 3 is written by an analogue input, point 9 by a CAN reception with a limit of 5 ms. -/
def bound (m : Nat) : State :=
  { (at_ m) with pimg := { signals := [3 + 4 * 2 ^ 16, 9 + 2 * 2 ^ 16 + 5 * 2 ^ 52], forces := [(3, wUint 8)] },
                 tmb := (tasky m).tmb }
def changing (w : Option TW) : State := { bound mSolo with pimg := { (bound mSolo).pimg with changes := [⟨3, w, 7, 5⟩] } }
theorem wit_ForceCommands :
    (Asks (bound mSolo) 7 who (if (bound mSolo).safetyPoint 3 then rExpert else rEngineer) ∧ (bound mSolo).mode ∈ [mIsolated, mPrimary, mSolo] ∧
      OdTy.tagword.encodes (List.replicate 9 0#8) = true ∧ ((bound mSolo).writerOf 3).isSome = true ∧
      (bound mSolo).forcePoints.length < 255 ∧ ((bound mSolo).forceOf 3).isSome = true) ∧
    Asks (bound mSolo) 7 who rExpert ∧
    ((changing none).pimg.changes = [⟨3, none, ((7 : Nat) : Int), 5⟩] ∧ (changing none).portHeld = false ∧
      ((7 : Nat) : Int) ≤ (changing none).now ∧ (changing none).forceOf 3 = some (wUint 8)) ∧
    ((bound mSolo).runtime = true ∧ Binding.ofWord (9 + 2 * 2 ^ 16 + 5 * 2 ^ 52) ∈ (bound mSolo).bindings ∧
      (bound mSolo).bindings.filter (fun x => x.point == 9) = [Binding.ofWord (9 + 2 * 2 ^ 16 + 5 * 2 ^ 52)] ∧
      (bound mSolo).freshUntil (Binding.ofWord (9 + 2 * 2 ^ 16 + 5 * 2 ^ 52)) ≤ (bound mSolo).now ∧
      (bound mSolo).forceOf 9 = none ∧ 9 ∉ (bound mSolo).pimg.expired) := by decide

/-- An open set with one entry, checked or not. -/
def inTarn (m k : Nat) (passed : Bool) : State :=
  { (at_ m) with tarn := { state := k, entries := [⟨0x3000, 0x12, [5#8], 5, 0⟩], seq := 1, checkAt := some 0, passed := passed, role := 3 } }
def stagedRow : OdRow := (odFind 0x3000 0x12).getD (odTable.headD ⟨0, 0, 0, 0, 0, .u8, .st, 0, 0, 0, fun _ _ _ => []⟩)
theorem wit_StagingAndCommit :
    (odFind 0x3000 0x12 = some stagedRow ∧ stagedRow.acc = .st ∧ stagedRow.role ≤ rExpert ∧ odForeign 0x3000 0x12 = false ∧
      stagedRow.refuses 0x12 [5#8] = none) :=
  ⟨rfl, by decide, by decide, by decide, by decide⟩
theorem wit_StagingAndCommit_more :
    ((at_ mSolo).caller 7 = some who ∧ (at_ mSolo).tarn.state < 2 ∧ (at_ mSolo).tarn.entries.length < 2048) ∧
    ((inTarn mSolo 1 false).tarn.state = 1 ∧ (inTarn mSolo 1 false).setRole (inTarn mSolo 1 false).candidate ≤ 3 ∧
      Asks (inTarn mSolo 1 false) 7 who rEngineer ∧ (inTarn mStandby 1 false).mode ∉ [mIsolated, mPrimary, mSolo] ∧
      Asks (inTarn mStandby 1 false) 7 who rEngineer) ∧
    ((inTarn mSolo 2 false).tarn.checkAt = some 0 ∧ (inTarn mSolo 2 false).tarn.passed = false ∧
      (inTarn mSolo 2 false).mode ∈ [mIsolated, mSolo] ∧ (inTarn mSolo 2 true).tarn.passed = true) := by decide
/-- A set that passes its check, and one of another sequence, which fails it. -/
def seqs (a : Nat) : State := { inTarn mSolo 2 false with tarn := { (inTarn mSolo 2 false).tarn with seq := a, reqSeq := 0 } }
theorem wit_StagingAndCommit_fails :
    (seqs 0).failingRules (((seqs 0).tarn.reqSeq + 1) % 2 ^ 32 == (seqs 0).tarn.seq) true ≠ [] := by
  intro h
  simp only [State.failingRules, List.append_eq_nil_iff] at h
  exact absurd h.1.1.1.1.1.2 (by decide)
/-- A set passes where the layout of a copy, which the spec leaves open (log 67), leaves room for the configuration. -/
theorem wit_StagingAndCommit_passes (h : (Config.cfgBody (seqs 1).candidate).length ≤ 32752) :
    (seqs 1).failingRules (((seqs 1).tarn.reqSeq + 1) % 2 ^ 32 == (seqs 1).tarn.seq) true = [] := by
  unfold State.failingRules
  dsimp only
  rw [decide_eq_true h]
  decide +kernel

def livePend (a b : Nat) : State := { at_ mSolo with live := { wLock := a, wUnlock := b, pend := true } }
theorem wit_LiveFields :
    (Asks (at_ mSolo) 7 who rExpert ∧ mIsolated ≤ (at_ mSolo).mode ∧ (at_ mSolo).mode ≤ mSolo) ∧
    (10 ≤ (50#32).toNat ∧ (50#32).toNat ≤ 10000 ∧ 20 ≤ (60#32).toNat ∧ (60#32).toNat < 100000) ∧
    (livePend 50 60).live.pend = true ∧ (livePend 60 50).live.pend = true := by decide

/-! Network, time base, PTP, VOP -/

def group5 : Bytes := [1#8, 0#8, 0x5E#8, 0#8, 0#8, 5#8]
def head5 : PeerHead := ⟨group5, [2#8, 0#8, 0#8, 0#8, 0#8, 9#8], []⟩
/-- Subscription 0 takes publication 2 of pair 1; point 7 is bound to its element 4. -/
def subscribed : State :=
  { (at_ mSolo) with
    tmb := (tasky mSolo).tmb, pimg := { signals := [7 + 7 * 2 ^ 16 + 4 * 2 ^ 32] },
    cfg := [(0x256000, [1#8, 0#8, 0#8, 0#8, 2#8, 0#8, 0#8, 1#8, 0#8, 0#8, 0#8, 0#8, 1#8, 1#8] ++ group5)] }
/-- A peer-data frame of one word, of a far release instant. -/
def peerFrame : Bytes :=
  [1#8, 0#8, 0#8, 1#8, 1#8, 0#8, 0#8, 0#8] ++ leBytes 8 (2 ^ 44 * 2 ^ 16 + 2 * 2 ^ 8) ++ leBytes 2 4 ++ List.replicate 6 0#8 ++
    leBytes 8 99 ++ [0xC1#8]
def addressed : State := { (at_ mSolo) with cfg := [(0x250010, [5#8, 0#8, 0#8, 10#8])] }
def arpAsk : Bytes :=
  List.replicate 12 0xFF#8 ++ be16 0x0806 ++ be16 1 ++ be16 0x0800 ++ [6#8, 4#8] ++ be16 1 ++ List.replicate 10 9#8 ++ List.replicate 6 0#8 ++
    be32 0x0A000005 ++ List.replicate 18 0#8
def launches : State := { (at_ mSolo) with net := { queue0 := [⟨0, none, [1#8], []⟩] } }
theorem wit_NetworkFrames :
    (peerFrameOk [] = false ∧ peerFrameOk peerFrame = true ∧ pfCount peerFrame = 1 ∧ (pfWord peerFrame 0).reserved = false ∧
      netField peerFrame 1 1 = 0 ∧ netField peerFrame 2 1 = 0 ∧ subscribed.runtime = true ∧ subscribed.subSt 0 = {} ∧
      subscribed.now < subscribed.subRelease 0 peerFrame ∧ subscribed.portHeld = false ∧ subscribed.forceOf 7 = none ∧
      subscribed.bindings.filter (fun x => x.kind == bkPeerRx && x.sel == 0 && x.ofs == pfFirst peerFrame) =
        [Binding.ofWord (7 + 7 * 2 ^ 16 + 4 * 2 ^ 32)]) ∧
    (addressed.macAccepts 0 true arpAsk = true ∧ beNat arpAsk 12 2 = 0x0806 ∧ beNat arpAsk 14 2 = 1 ∧ beNat arpAsk 16 2 = 0x0800 ∧
      beNat arpAsk 20 2 = 1 ∧ beNat arpAsk 38 4 = addressed.addrOf 0 ∧ addressed.addrOf 0 ≠ 0) ∧
    (launches.netNext 0 = some ⟨0, none, [1#8], []⟩ ∧ ptpAt [1#8] = none ∧ launches.functional = true) := by decide
theorem wit_NetworkFrames_sub :
    (List.range 256).filter (fun j => subscribed.subHit j 0 group5 peerFrame) = [0] := by decide +kernel

def stepsTo : State := (at_ mIsolated).set Reg.tmbStepl 7000
theorem wit_TimeBaseCommands :
    ((at_ mSolo).functional = true ∧ (at_ mSolo).rate = 0 ∧ (at_ mSolo).tmb.sec = (at_ mSolo).tmb.copySec ∧
      (at_ mSolo).tmb.ns = (at_ mSolo).tmb.copyNs ∧ (at_ mSolo).flag Reg.tmbFault = false) ∧
    (stepsTo.mode ∈ [mBoot, mIsolated] ∧ stepsTo.tarn.state ≠ 3 ∧ stepsTo.getHalves Reg.tmbStepl Reg.tmbSteph = 7000 ∧
      (at_ mSolo).mode ∉ [mBoot, mIsolated]) ∧
    (Asks (at_ mIsolated) 7 who rExpert) ∧ (-549755813 ≤ (5#32).toInt ∧ (5#32).toInt ≤ 549755813 ∧ (0x7FFFFFFF#32).toInt > 549755813) := by
  decide

/-- PTP enabled in control as a master, and following master 9 on port 0. -/
def ptpMaster : State := (((at_ mSolo).set Reg.ptpEn 1).set Reg.ptpRole 2)
def ptpSlave : State :=
  let s := (((tasky mSolo).set Reg.ptpEn 1).set Reg.ptpRole 0)
  { s with ptp := { s.ptp with masters := [⟨0, 9, [1, 1], 0, 0, false, 0, true⟩] } }
/-- A message of a type with a body of zeros; flags and steps as an Announce message has them. -/
def ptpBytes (ty n : Nat) : Bytes :=
  leBytes 1 ty ++ [0x12#8, 0#8] ++ leBytes 1 n ++ [0#8, 0#8, 0#8, 8#8] ++ List.replicate (n - 9) 0#8 ++ [0xA0#8]
theorem wit_PtpMessages :
    (ptpMaster.functional = true ∧ ptpMaster.ptpReads (ptpBytes 0 44) = true ∧ ptpMaster.ptpReads (ptpBytes 12 44) = true ∧
      ptpMaster.ptpReads (ptpBytes 1 44) = true ∧ ptpMaster.ptpReads (ptpBytes 11 64) = true ∧
      badTlvs 64 (((ptpBytes 0 44).take (beNat (ptpBytes 0 44) 2 2)).drop (ptpLen 0)) = 0 ∧ ptpType (ptpBytes 11 64) = 11 ∧
      ptpType (ptpBytes 1 44) = 1 ∧ ptpMaster.get Reg.ptpProfile = 0 ∧ ptpMaster.get Reg.ptpMap = 0 ∧ ptpMaster.ptp.masters = [] ∧
      (beNat (ptpBytes 11 64) 7 1).testBit 3 = true ∧ beNat (ptpBytes 11 64) 61 2 < 255) ∧
    (ptpSlave.functional = true ∧ ptpSlave.flag Reg.ptpEn = true ∧
      (0 : Int) + ptpSlave.cfgNat 0x3400 4 3 * ptpSlave.announceNs ≤ ptpSlave.now ∧ ptpSlave.portState 0 = 8) ∧
    (ptpMaster.inControl = true ∧ 0 < ptpMaster.syncNs ∧ ptpMaster.syncNs ≤ 2000000000 ∧ ptpMaster.netQueue 0 = []) := by decide
theorem wit_PtpMessages_port : ptpMaster.portState 0 = 6 := by decide

def opened7 (role : Option Nat) (m : Nat) : State :=
  { (at_ m) with net := { sessions := [{ id := 7, port := 2, client := 5, role := role, maxRole := 3, lastReq := 0 }] } }
def req (i k : Nat) (b : Bytes) : VopReq := ⟨7, 1#16, BitVec.ofNat 16 i, BitVec.ofNat 8 k, b, true, 0, 0⟩
def sess7 (role : Option Nat) : Session := { id := 7, port := 2, client := 5, role := role, maxRole := 3, lastReq := 0 }
def moving (total : Nat) : State :=
  { opened7 (some 3) mIsolated with net := { (opened7 (some 3) mIsolated).net with transfer := some ⟨7, 0x2B00, 4, total, [1#8], 0, 0⟩ } }
theorem wit_VopSessions :
    ((at_ mIsolated).vopServed 2 = true ∧ (at_ mIsolated).net.sessions.length < 8 ∧ (at_ mIsolated).lcs.anchor = []) ∧
    (Serves (opened7 none mIsolated) (req 0 0 [3#8]) (sess7 none) ∧ (sess7 none).maxRole = rExpert) ∧
    (Serves (opened7 (some 2) mSolo) (req 0 0 []) (sess7 (some 2))) ∧
    (Serves (opened7 (some 2) mSolo) (req 0 0 (leBytes 4 0 ++ [0#8, 0#8, 0xFF#8, 0xFF#8, 3#8, 0#8, 0#8, 0#8])) (sess7 (some 2)) ∧
      (opened7 (some 2) mSolo).get Reg.evrHead = (opened7 (some 2) mSolo).get Reg.evrTail ∧ (opened7 (some 2) mSolo).get Reg.evrHead = 0) ∧
    ((moving 1).net.transfer = some ⟨7, 0x2B00, 4, 1, [1#8], 0, 0⟩ ∧ (0 : Int) + 10000000000 ≤ (moving 1).now) := by decide

theorem wit_VopAccess :
    (Serves (opened7 (some 3) mSolo) (req 0x3400 0x0E []) (sess7 (some 3)) ∧ (opened7 (some 3) mSolo).mode ∈ [mIsolated, mPrimary, mSolo] ∧
      (opened7 (some 3) mSolo).flag Reg.lcsPend = false) ∧
    (Serves (opened7 (some 3) mSolo) (req 0x3400 0x0E (leBytes 4 50)) (sess7 (some 3)) ∧ (opened7 (some 3) mSolo).tarn.state < 2 ∧
      (opened7 (some 3) mSolo).tarn.entries = [] ∧ Serves (opened7 (some 3) mSolo) (req 0x3000 0x12 [5#8]) (sess7 (some 3))) ∧
    (Serves (opened7 (some 3) mIsolated) (req 0x2B00 4 (leBytes 4 9)) (sess7 (some 3)) ∧ (opened7 (some 3) mIsolated).net.transfer = none ∧
      (opened7 (some 3) mIsolated).flag Reg.xchFree = true) ∧
    (Serves (moving 9) (req 0x2B00 4 (leBytes 4 1 ++ [5#8])) (sess7 (some 3)) ∧ Serves (moving 1) (req 0x2B00 4 []) (sess7 (some 3))) := by
  decide

/-- VOP-C on channel 4, and a message begun there. -/
def vopc : State := { (at_ mSolo) with cfg := [(0x112001, [4#8]), (0x112002, [0x10#8, 7#8, 0#8, 0#8]), (0x112003, [0x11#8, 7#8, 0#8, 0#8])] }
/-- A frame with the request identifier, filled up with zeros. -/
def vopcIn (b : Bytes) : VopcFrame := ⟨0x710#32, b ++ List.replicate (64 - b.length) 0#8⟩
def vopcBegun : State := { vopc with net := { vopc.net with vopc := some ⟨200, List.replicate 61 0#8, 1, vopc.now⟩ } }
def vopcLate : State := { vopc with net := { vopc.net with vopc := some ⟨200, [], 1, vopc.now - 100000001⟩ } }
theorem wit_VopOverCan :
    (vopc.vopcOn 4 = true ∧ vopc.vopcOn 5 = false ∧ vopc.net.vopcKept = [] ∧
      (vopcIn [0x40#8, 70#8]).id.toNat = vopc.odNat 0x1120 2 ∧ (vopcIn [0x40#8, 70#8]).bytes.length = 64 ∧
      ((vopcIn [0x40#8, 70#8]).bytes.getD 0 0#8).toNat = 0x40 ∧ leNat (((vopcIn [0x40#8, 70#8]).bytes.drop 1).take 2) = 70 ∧
      (vopcIn [0#8, 12#8, 1#8, 8#8, 1#8, 2#8]).bytes.take 14 =
        [0#8, 12#8, 1#8, 8#8, 1#8, 2#8, 0#8, 0#8, 0#8, 0#8, 0#8, 0#8, 0#8, 0#8] ∧ vopc.odNat 0x1120 3 = 0x711) ∧
    (vopcBegun.net.vopc = some ⟨200, List.replicate 61 0#8, 1, vopc.now⟩ ∧ (61 : Nat) + 63 < 200 ∧ vopcBegun.vopcOn 4 = true ∧
      ((vopcIn [0x81#8]).bytes.getD 0 0#8).toNat / 64 = 2 ∧ (vopcIn [0x81#8]).bytes.length = 64) ∧
    (vopcLate.net.vopc = some ⟨200, [], 1, vopc.now - 100000001⟩ ∧ vopc.now - 100000001 + 100000000 < vopcLate.now) := by decide

theorem wit_TimeBaseCommands_step : stepsTo.tmb.sec = 0 ∧ stepsTo.tmb.ns = 0 ∧ stepsTo.getHalves Reg.tmbStepl Reg.tmbSteph = 7000 := by decide
theorem wit_PtpMessages_messages : ptpMaster.fromParent 0 (ptpBytes 0 44) = false ∧
    badTlvs 64 (((ptpBytes 11 64).take (beNat (ptpBytes 11 64) 2 2)).drop (ptpLen 11)) = 0 ∧
    badTlvs 64 (((ptpBytes 1 44).take (beNat (ptpBytes 1 44) 2 2)).drop (ptpLen 1)) = 0 ∧
    ptpSlave.get Reg.ptpProfile = 0 ∧ ptpSlave.get Reg.ptpMap = 0 := by decide +kernel
theorem wit_PtpMessages_foreign : ptpSrc (ptpBytes 11 64) / 65536 ≠ clockId := by
  have h : ptpSrc (ptpBytes 11 64) / 65536 = 0 := by decide +kernel
  rw [h]; exact Nat.ne_of_lt clockId_pos
theorem wit_VopAccess_open : (opened7 (some 3) mSolo).lcsHolds = false ∧ (opened7 (some 3) mIsolated).lcsHolds = false ∧
    (moving 9).lcsHolds = false ∧ (opened7 (some 3) mIsolated).get Reg.xchState < 4 := by decide +kernel
/-! CAN -/

/-- Channel 3 in an operating state. -/
def chanAt (m k : Nat) (c : CanChan) : State := { (at_ m).set (Reg.canMode 3) k with can := [(3, c)] }
def frame5 : CanFrame := ⟨5#29, false, true, false, false, false, 3#4, [1#8, 2#8, 3#8]⟩
def rxObj : CanObj := { dir := 1, id := 5, isNew := true, data := [9#8] }
def txObj : CanObj := { dir := 2, id := 5, dlc := 2 }
/-- Element 2 accepts identifier 5 into object 1. -/
def filtered (c : CanChan) (reject : Nat) : State :=
  ((((chanAt mStandby 2 c).set (Reg.fctlKind 3 2) 1).set (Reg.fid1 3 2) 5).set (Reg.fctlObj 3 2) 1).set (Reg.fctlReject 3 2) reject
def lockOn (h : Option (CanFrame × Int × Bool)) (a : Int) : CanChan :=
  { objs := [(1, rxObj)], lock := some ⟨1, (at_ mSolo).now - a, rxObj⟩, hold := h }
def showing (c : CanChan) : State := (chanAt mSolo 3 c).set (Reg.moselObj 3) 1

theorem wit_CanReception_filters (reject : Nat) (c : CanChan) (h : (reject, c) ∈ [(0, { objs := [(1, rxObj)] }), (1, {}), (0, lockOn none 0)]) :
    (filtered c reject).canOn 3 = true ∧ ((filtered c reject).chan 3).inTx = none ∧ (filtered c reject).get (Reg.canMode 3) = 2 ∧
    frame5.rtr = false ∧ (filtered c reject).filterMatch 3 2 frame5 = true ∧
    (∀ k : Fin 128, k.val < 2 → (filtered c reject).filterMatch 3 k.val frame5 = false) ∧
    (filtered c reject).flag (Reg.fctlReject 3 2) = (reject == 1) ∧ (filtered c reject).flag (Reg.fctlUrgent 3 2) = false ∧
    (reject = 0 → (((filtered c reject).chan 3).obj ((filtered c reject).get (Reg.fctlObj 3 2))).dir = 1) := by
  simp only [List.mem_cons, List.not_mem_nil, or_false, Prod.mk.injEq] at h
  obtain ⟨rfl, rfl⟩ | ⟨rfl, rfl⟩ | ⟨rfl, rfl⟩ := h <;> decide +kernel
theorem wit_CanReception_none : (chanAt mSolo 2 {}).canOn 3 = true ∧
    (∀ k : Fin 128, (chanAt mSolo 2 {}).filterMatch 3 k.val frame5 = false) := by decide +kernel
theorem wit_CanReception_window :
    (showing {}).functional = true ∧ ((showing {}).chan 3).lock = none ∧
    ((showing (lockOn none 0)).chan 3).lock = some ⟨1, (at_ mSolo).now, rxObj⟩ ∧ ((showing (lockOn none 0)).chan 3).hold = none ∧
    (showing (lockOn none 0)).get (Reg.moselObj 3) = 1 ∧ (((showing (lockOn none 0)).chan 3).obj 1).dir = 1 ∧
    (at_ mSolo).now - 100000 + 100000 ≤ (showing (lockOn none 100000)).now ∧
    (showing (lockOn none 0)).now < (at_ mSolo).now + 100000 := by decide

def sends (posts : List CanPost) (tx : Option Nat) (b : Option (Int × Bytes)) : State :=
  chanAt mSolo 3 { objs := [(1, { txObj with behind := b, pend := tx.isSome })], posts := posts, inTx := tx }
def post1 (a : Nat) (d : Int) : CanPost := ⟨1, a, (at_ mSolo).now + d, [7#8, 8#8, 9#8]⟩
def waitingObj : CanObj := { txObj with pend := true }
def offers : State := chanAt mSolo 3 { objs := [(1, waitingObj), (2, { txObj with id := 9, pend := true }), (4, txObj),
  (5, { txObj with id := 0, pend := true, ord := 3 })] }
theorem wit_CanTransmission :
    (((sends [post1 1 0] none none).chan 3).posts = [post1 1 0] ∧ (post1 1 0).action = 1 ∧ (sends [post1 1 0] none none).get (Reg.canMode 3) = 3 ∧
      (((sends [post1 1 0] none none).chan 3).obj 1).dir = 2 ∧ (post1 1 0).launch ≤ (sends [post1 1 0] none none).now + 2000000000 ∧
      (sends [post1 1 0] none none).now + 2000000000 < (post1 1 2000000001).launch) ∧
    ((Instr.withdraw 3, (post1 2 0).action) ∈ [(Instr.queue 3, 1), (Instr.withdraw 3, 2)] ∧
      ((sends [⟨9, 2, 0, []⟩] none none).chan 3).obj 9 = {}) ∧
    (((sends [] (some 1) (some (5, [1#8]))).chan 3).inTx = some 1 ∧ (sends [] (some 1) none).get (Reg.canTec 3) < 128 ∧
      (sends [] (some 1) none).flag (Reg.canRp 3) = false) := by decide +kernel

theorem wit_CanTransmission_offers :
    offers.canOn 3 = true ∧ offers.get (Reg.canMode 3) = 3 ∧ offers.get (Reg.canState 3) < 2 ∧ (offers.chan 3).inTx = none ∧
    (1, waitingObj) ∈ (offers.chan 3).objs ∧ FirstQueued offers (offers.chan 3).objs (1, waitingObj) := by decide
theorem wit_CanTransmission_wins : ∀ e ∈ (offers.chan 3).objs, FirstQueued offers (offers.chan 3).objs e →
    e = (1, waitingObj) ∨ waitingObj.arbKey < e.2.arbKey := by decide

def errsAt (cls tec : Nat) : State := ((offers.set (Reg.canTec 3) tec).set (Reg.canClass 3) cls)
def busOffAt (b : Int) (d : Nat) : State :=
  { (chanAt mSolo 3 { busOffAt := some ((at_ mSolo).now - b), recovAt := some 0 }).set (Reg.canState 3) 2 with
    cfg := [((0x8001 + 16 * 3) * 256 + 0x0B, [BitVec.ofNat 8 d])] }
def recovering (raw : Nat) : State := { (busOffAt 0 5).set (Reg.canState 3) 3 with tmb := { raw := raw } }
def idleWith (nt tn : Bool) : State := chanAt mSolo 2 { newTiming := nt, toNormal := tn, integrating := true }
theorem wit_CanErrors :
    ((errsAt 1 248).canOn 3 = true ∧ ((errsAt 1 248).chan 3).inTx = none ∧ (errsAt 1 248).get (Reg.canMode 3) = 3 ∧
      (errsAt 1 248).get (Reg.canState 3) < 2 ∧ (errsAt 0 127).get (Reg.canRec 3) < 127 ∧ (errsAt 0 127).get (Reg.canTec 3) < 128) ∧
    (((busOffAt 5000000 5).chan 3).busOffAt = some ((at_ mSolo).now - 5000000) ∧ (busOffAt 5000000 5).get (Reg.canClass 3) = 0 ∧
      (busOffAt 5000000 5).cfgNat (0x8001 + 16 * 3) 0x0B 0 = 5 ∧ (busOffAt 5000000 5).get (Reg.canState 3) = 2 ∧
      (at_ mSolo).now - 5000000 + 5 * 1000000 ≤ (busOffAt 5000000 5).now) ∧
    (((recovering 0).chan 3).recovAt = some 0 ∧ (recovering 0).get (Reg.canState 3) = 3 ∧
      0 + 1408 * canBitTicks ((recovering 0).chan 3).nbt ≤ (recovering (1408 * canBitTicks 0x07071E01)).tmb.raw ∧
      (recovering 0).tmb.raw < 0 + 1408 * canBitTicks ((recovering 0).chan 3).nbt) ∧
    (2 ≤ (idleWith true true).get (Reg.canMode 3) ∧ ((idleWith true true).chan 3).inTx = none) := by decide +kernel
/-! Loops and FSK -/

def loop (m k : Nat) (a : AoSt) : State :=
  let s := (((at_ m).set (Reg.aoFloor 2) k).set (Reg.aoC 2) 12000000)
  { s with alp := { s.alp with ao := [(2, a)] } }
def loopT : Int := (at_ mSolo).now
def inputs (a : AiSt) : State := { at_ mSolo with alp := { (at_ mSolo).alp with ai := [(2, a)] } }
def modem (m k : Nat) (h : HrtSt) : State :=
  let s := (((at_ m).set (Reg.cstState 2) k).set Reg.hrtEn 4)
  { s with alp := { s.alp with hrt := [(2, h)] } }
def withCheck (l : Bytes) : Bytes := l ++ [xorBytes l]
def hartZero : Bytes := withCheck [6#8, 128#8, 0#8, 14#8, 0#8, 0#8, 254#8, 0x26#8, 0x40#8, 5#8, 5#8, 1#8, 8#8, 0#8, 1#8, 2#8, 3#8, 0#8]
/-- A frame behind its preamble. -/
def sent (l : Bytes) : Bytes := [0xFF#8, 0xFF#8] ++ l
def hartThree : Bytes := withCheck [0x86#8, 0xA6#8, 0x40#8, 1#8, 2#8, 3#8, 3#8, 11#8, 0#8, 0#8, 0#8, 0#8, 0#8, 0#8, 57#8, 0x41#8, 0x20#8, 0#8, 0#8]
def fskBound (k : Nat) : State := { modem mSolo k { dueAt := loopT } with pimg := { signals := [9 + 6 * 2 ^ 16 + 2 * 2 ^ 20] } }
def loopM (k : Nat) : State := loop mSolo 3 { changedAt := loopT - 50000, target := 12000000, mism := 17, inLim := k }

theorem wit_CurrentLoops_outputs :
    (mBoot < (loopM 4).mode ∧ (loopM 4).hwif.pins = false ∧ (loop mSolo 3 { changedAt := loopT }).now < loopT + 50000 ∧
      ((loopM 4).ao 2).changedAt + 50000 ≤ (loopM 4).now ∧ ((loopM 4).ao 2).target = (loopM 4).get (Reg.aoC 2) ∧ (loopM 4).get (Reg.aoFloor 2) = 3 ∧ (loopM 4).flag (Reg.aoGuard 2) = false ∧
      160000 < (((11000000#25).toNat : Int) - (loopM 4).get (Reg.aoC 2)).natAbs ∧
      ((11000000#25).toNat : Int) < (loopM 4).get (Reg.aoC 2) - 16000 ∧ (loop mStandby 3 {}).inControl = false) ∧
    (((loop mPrimary 1 { engagedAt := some (loopT - 50000) }).ao 2).engagedAt = some (loopT - 50000) ∧
      (loop mPrimary 1 {}).get (Reg.aoFloor 2) = 1 ∧ loopT - 50000 + 50000 ≤ (loop mPrimary 1 {}).now ∧
      ((loop mPrimary 3 { returnAt := some (loopT - 50000) }).ao 2).returnAt = some (loopT - 50000)) ∧
    (((loop mSolo 2 { rampAt := some (loopT - 1200000), excessAt := some (loopT - 2000000) }).ao 2).excessAt = some (loopT - 2000000) ∧
      loopT - 1200000 + 1200000 ≤ (loop mSolo 2 {}).now ∧ loopT - 2000000 + 2000000 ≤ (loop mSolo 2 {}).now) := by decide +kernel
theorem wit_CurrentLoops_inputs :
    (mBoot < (inputs {}).mode ∧ (inputs {}).bindings = []) ∧ (inputs {}).functional = true ∧
    (((inputs { curA := [50000], curB := [50000] }).ai 2).curA ≠ [] ∧
      (((average ((inputs { curA := [50000], curB := [50000] }).ai 2).curA).sub
        (average ((inputs { curA := [50000], curB := [50000] }).ai 2).curB)).round Config.ioRound).natAbs ≤ 32000) := by
  refine ⟨by decide +kernel, by decide +kernel, by decide +kernel, ?_⟩
  cases Config.ioRound <;> decide +kernel
theorem wit_CurrentLoops_drifts :
    32000 < (((average ((inputs { curA := [90000], curB := [50000], fails := 4 }).ai 2).curA).sub
        (average ((inputs { curA := [90000], curB := [50000], fails := 4 }).ai 2).curB)).round Config.ioRound).natAbs ∧
    4 ≤ ((inputs { curA := [90000], curB := [50000], fails := 4 }).ai 2).fails := by
  refine ⟨?_, by decide +kernel⟩
  cases Config.ioRound <;> decide +kernel
theorem wit_CurrentLoops_fsk :
    ((modem mSolo 0 { dueAt := loopT - 2000000000 }).inControl = true ∧ ((modem mSolo 0 {}).get Reg.hrtEn).testBit 2 = true ∧
      ((modem mSolo 0 { dueAt := loopT - 2000000000 }).hrt 2).dueAt + ((modem mSolo 0 {}).get (Reg.cpollMs 2) : Int) * 1000000 ≤ (modem mSolo 0 {}).now) ∧
    (((modem mSolo 3 { reqEnd := some (loopT - 300000000), tries := 2 }).hrt 2).reqEnd = some (loopT - 300000000) ∧
      (modem mSolo 3 {}).get (Reg.cstState 2) = 3 ∧ loopT - 300000000 + 300000000 ≤ (modem mSolo 3 {}).now) ∧
    (hartBody (sent hartZero) = some hartZero ∧ hartBody (sent hartThree) = some hartThree ∧ (hartBody (sent [1#8])).isSome = true ∧
      (modem mSolo 3 {}).inControl = true) ∧
    ((parseHart hartZero).map (·.delim) = some 6 ∧ (parseHart hartZero).map (·.cmd) = some 0) ∧
    ((parseHart hartThree).map (fun f => (f.delim, f.cmd, f.data.headD 0#8, f.data.length)) = some (0x86, 3, 0#8, 11) ∧
      ((fskBound 3).bindings.filter fun b => b.kind == bkFskVar && b.ch == 2 && decide (b.sel ≤ 3)).length = 1 ∧
      (fskBound 3).portHeld = false ∧ (fskBound 3).forceOf 9 = none) := by decide +kernel

theorem wit_CurrentLoops_runs : (loopM 4).held = false ∧ (inputs {}).held = false ∧ (modem mStandby 0 {}).inControl = false := by decide +kernel
theorem wit_CurrentLoops_session : Asks (inputs { drift := true }) 7 who rEngineer := by decide
/-! Events, life cycle, hardware interfaces -/

def evrOf (e : Evr) (head : Nat) : State := { (at_ mSolo).set Reg.evrHead head with evr := e }
def rec4 : EvRec := { cls := 4, num := 2, sev := 1, payload := [1#8, 2#8, 3#8, 4#8, 5#8], tai := 9, inlock := true, optime := 7, pcycle := 3, trunc := false }
def mirBytes : Bytes := leBytes 2 20 ++ leBytes 2 0x4001 ++ leBytes 4 1 ++ leBytes 8 0 ++ [9#8, 8#8, 7#8, 6#8]
/-- A mirrored record waits, and the MPU opens the ring to EWX DMA (R414). -/
def mirroring : State :=
  (evrOf { mirror := [.record mirBytes] } 2).setRegion 3 0x8200000 0x83FFFFF (atPr + atPw + atEn) mmEwx
theorem wit_EventRecorder_mirror : mirroring.functional = true ∧ mirroring.evr.dropped = 0 ∧ mirroring.heldId = mirroring.partnerId ∧
    leNat ((mirBytes.drop 4).take 4) = (mirroring.get Reg.evrPnum + 1) % 2 ^ 32 ∧
    ∀ i : Fin (recWords mirBytes.length),
      (mirroring.mpuCheck ⟨mEwx, .write, true, ringBase + curOfs (mirroring.get Reg.evrHead) + i.val, 0, false, false⟩).1 = true := by
  decide
def posting (n : Nat) : State :=
  { ((at_ mSolo).set (Reg.evrPbuf 0) (0x4002 * 2 ^ 16 + 40)).set (Reg.evrPbuf 3) (2 ^ 29 + 2 ^ 27) with evr := { fifo := List.replicate n rec4 } }
/-- The class 4 of the post window is suppressed. -/
def maskOf (m : Nat) : State := { posting 0 with cfg := [(0x3A00 * 256 + 1, leBytes 2 m)] }
theorem wit_EventRecorder :
    ((posting 16).runtime = true ∧ (0x80000000#32).getLsbD 31 = true ∧ ((posting 0).cfgNat 0x3A00 0x01 0).testBit ((posting 0).get (Reg.evrPbuf 0) / 2 ^ 28 % 16) = false ∧
      ((maskOf 16).cfgNat 0x3A00 0x01 0).testBit ((maskOf 16).get (Reg.evrPbuf 0) / 2 ^ 28 % 16) = true ∧ (posting 0).evr.fifo.length < 16 ∧ 16 ≤ (posting 16).evr.fifo.length) ∧
    ((evrOf { fifo := [rec4] } 2).functional = true ∧ (evrOf { fifo := [rec4] } 2).evr.dropped = 0 ∧
      (evrOf { fifo := [rec4] } 2).linkUp = false ∧ (evrOf { fifo := [rec4] } 2).evr.hwq = [] ∧ (evrOf { fifo := [rec4] } 2).evr.lastOwn = none ∧
      recHead rec4.cls + rec4.payload.length ≤ 1024 ∧ 0 < curOfs ((evrOf {} 2).get Reg.evrHead) % 2048 ∧
      curOfs ((evrOf {} 2042).get Reg.evrHead) % 2048 + recWords (recHead rec4.cls + rec4.payload.length) ≤ 2048) ∧
    (16 ≤ mirBytes.length ∧ mirBytes.length ≤ 1024 ∧
      (evrOf { mirror := [.update 3 4] } 2).evr.lastMirror = none) := by decide +kernel

def lifer (m st : Nat) : State :=
  { ((at_ m).set Reg.lcsState st) with lcs := { fwValid := 3, fw0 := [5#8, 1#8], fw1 := [6#8, 1#8] } }
def scrap : Bytes := [4#8, 0xA5#8] ++ List.replicate 10 0#8
def pended6 (k : Nat) : State := { ((lifer mIsolated 2).set Reg.lcsPend 1).set Reg.lcsTarget 4 with lcs := { steps := k } }
def keyed : State := ((lifer mIsolated 2).set Reg.kslotUsed 1).set Reg.kslotActive 0
theorem wit_KeysAndLifeCycle :
    (Asks (lifer mSolo 2) 7 who rExpert ∧ (lifer mSolo 2).mode ∈ [mIsolated, mStandby, mPrimary, mSolo]) ∧
    (Asks (lifer mIsolated 2) 7 who rExpert ∧ (lifer mIsolated 2).mode = mIsolated ∧ 1 < (2#8).toNat ∧
      (∀ k : Fin 2, (lifer mIsolated 2).lcs.fwValid.testBit k.val = true ∧ (lifer mIsolated 2).runningMajor ≤ (lifer mIsolated 2).fwRelease k.val / 256) ∧
      (List.replicate 97 0#8 : Bytes).length = 97 ∧ (lifer mIsolated 2).get Reg.lcsState ∈ [1, 2] ∧ (lifer mIsolated 2).keyActive = false ∧
      (lifer mIsolated 2).get Reg.kslotUsed < 8) ∧
    (scrap.length = 12 ∧ (lifer mIsolated 2).lifeOk scrap = true ∧ (lifer mIsolated 2).lifeOk (List.replicate 12 0#8) = false ∧
      (lifer mIsolated 2).get Reg.lcsUsed < 24) ∧
    ((pended6 1).runtime = true ∧ (pended6 1).flag Reg.lcsPend = true ∧ (pended6 1).lcs.steps = 1 ∧ (pended6 1).keyActive = false ∧
      (pended6 1).get Reg.lcsUsed < 24 ∧ (pended6 5).lcs.steps = 5) ∧
    keyed.keyActive = true ∧ (at_ mSolo).mode ≠ mIsolated := by decide +kernel

def busAt (p : Nat) (mail : SMap Byte) : State := { (at_ mSolo) with hwif := { ptr := p, mail := mail } }
def debugs (m st : Nat) (k : TapKind) (pins : Bool) : State := { (at_ m).set Reg.lcsState st with hwif := { tap := k, pins := pins } }
/-- The final window of SYNC holds a store of the debug access port. -/
def windowDap : State :=
  { debugs mSolo 1 .dap false with link := { (debugs mSolo 1 .dap false).link with goAt := some ((at_ mSolo).now + 1000), sendPhase := 6 } }
theorem wit_HardwareInterfaces_dap :
    windowDap.finalHold = true ∧ windowDap.syncTracked 0x30000 = true ∧
    (windowDap.mpuCheck ⟨20, .write, true, 0x30000, 0, false, false⟩).1 = true ∧ (debugs mSolo 1 .dap false).finalHold = false ∧
    ((debugs mSolo 1 .dap false).mpuCheck ⟨20, .write, true, 0xF0100000, 0, false, false⟩).1 = true ∧
    ((debugs mSolo 1 .dap false).mpuCheck ⟨20, .read, true, 0xF0010000, 0, false, false⟩).1 = true ∧
    areaOf 0xF0010000 = .csr ∧ canWindow 0xF0010000 = none ∧
    (debugs mSolo 4 .dap false).get Reg.mpuEpoch = (debugs mSolo 4 .dap false).mpu.epoch1 := by decide
/-- Region 0 of both checkers: the CSR window, readable, not writable. -/
def closedCsr : State :=
  [0, 1].foldl (fun s k => ((((s.set (Reg.rBase k 0) 0xF0000000).set (Reg.rLim k 0) 0xF01FFFFF).set (Reg.rAttr k 0) 0x111).set (Reg.rMask k 0) 0x1FFF)) (at_ mSolo)
theorem wit_HardwareInterfaces :
    ((busAt 0 []).mnbServed = true ∧ ((busAt 0 []).flag Reg.wakeenMnb = false ∨ ∀ u : Fin 12, (busAt 0 []).get (Reg.sleepState u.val) = slRun) ∧ (busAt 0x24 []).hwif.ptr = 0x24) ∧
    ((busAt 0 [(15, 3#8)]).hwif.mail = [((15 : Fin 16).val, 3#8)]) ∧
    ((debugs mIsolated 1 .idcode false).powered = true ∧ (debugs mIsolated 1 .idcode false).get Reg.lcsState ∈ [0, 1, 3] ∧
      (debugs mIsolated 2 .idcode false).get Reg.lcsState ∉ [0, 1, 3]) ∧
    ((debugs mIsolated 1 .extest true).hwif.pins = true ∧ (debugs mIsolated 1 .extest true).mode = mIsolated) ∧
    ((debugs mSolo 1 .dap false).hwif.tap = .dap ∧ ((debugs mSolo 1 .dap false).mpuCheck ⟨20, .read, true, 0x30000, 0, false, false⟩).1 = true ∧
      ((debugs mSolo 1 .dap false).mpuCheck ⟨20, .write, true, 0x30000, 0, false, false⟩).1 = true ∧ areaOf 0x30000 ≠ .csr ∧
      (debugs mSolo 1 .dap false).flips 0x30000 = 0#80 ∧
      (debugs mSolo 4 .dap false).decideBy 0 ⟨20, .write, true, 0x30000, 0, false, false⟩ =
        (debugs mSolo 4 .dap false).decideBy 1 ⟨20, .write, true, 0x30000, 0, false, false⟩) ∧
    ((at_ mSolo).functional = true ∧ areaOf 0xF0100000 = .csr ∧ ((at_ mSolo).mpuCheck ⟨12, .write, true, 0xF0100000, 0, false, false⟩).1 = true ∧
      ((at_ mSolo).set Reg.dbgRefused 1).get Reg.dbgRefused = 1) ∧
    ((closedCsr.decideBy 0 ⟨12, .write, true, 0xF0100000, 0, false, false⟩).ok = false ∧
      closedCsr.decideBy 1 ⟨12, .write, true, 0xF0100000, 0, false, false⟩ = closedCsr.decideBy 0 ⟨12, .write, true, 0xF0100000, 0, false, false⟩) := by
  decide +kernel

theorem wit_KeysAndLifeCycle_slots : (lifer mIsolated 2).lcs.flashBad.testBit 0 = false ∧ (lifer mIsolated 2).lcs.flashBad.testBit 1 = false := by decide
/-! The machine as a whole -/

theorem wit_TaskRegistersLocked (k : Nat) (h : k ∈ [0, 2]) :
    (0xF0020101#32).toNat = 0xF0020100 + (0 : Fin 24).val * 16 + (1 : Fin 10).val ∧ ((tasky mSolo).set Reg.weirState k).functional = true ∧
    (((tasky mSolo).set Reg.weirState k).mpuCheck ⟨12, .write, true, 0xF0020101, 0, false, false⟩).1 = true ∧
    ((tasky mSolo).set Reg.weirState k).flag Reg.drvActive = true ∧ ((tasky mSolo).set Reg.weirState k).get Reg.weirState = k := by
  simp only [List.mem_cons, List.not_mem_nil, or_false] at h
  obtain rfl | rfl := h <;> decide +kernel
theorem wit_StepRunsFront : ({ (at_ mSolo) with pending := [.autoJoin] } : State).pending = .autoJoin :: [] ∧ (at_ mSolo).pending = [] ∧
    (at_ mSolo).functional = true ∧ (at_ mSolo).xch.exch = none ∧ (at_ mStore).powered = false := by decide
theorem wit_EveryStepKeepsMemory : MemWf { snapsStandby with pending := [.autoJoin] } ∧ snapsStandby.mem ≠ [] ∧
    ∃ t, step { snapsStandby with pending := [.autoJoin] } = .next t := ⟨by decide, by decide, _, rfl⟩
/-! Ill-formed commands are refused -/

theorem test_wf_core : (Instr.add ⟨12, true, []⟩ 1 2 (.imm 3)).wellFormed = false ∧ (Instr.add ⟨11, true, []⟩ 1 2 (.imm 3)).wellFormed = true := by decide
theorem test_wf_trigger_record : (Instr.urgentTrigger 2 5 [wI 1]).wellFormed = false ∧ (Instr.urgentTrigger 2 5 []).wellFormed = true := by decide
theorem test_wf_frame_identifier :
    (Instr.canFrameReceive 0 ⟨2048#29, false, false, false, false, false, 0#4, []⟩ 0).wellFormed = false ∧
    (Instr.canFrameReceive 0 ⟨2048#29, true, false, false, false, false, 0#4, []⟩ 0).wellFormed = true := by decide
theorem test_wf_frame_remote_fd : (Instr.canFrameReceive 0 ⟨5#29, false, true, false, false, true, 0#4, []⟩ 0).wellFormed = false := by decide
theorem test_wf_frame_brs_classic : (Instr.canFrameReceive 0 ⟨5#29, false, false, true, false, false, 0#4, []⟩ 0).wellFormed = false := by decide
theorem test_wf_frame_length : (Instr.canFrameReceive 0 ⟨5#29, false, false, false, false, false, 2#4, [1#8]⟩ 0).wellFormed = false := by decide

/-! Single results, from the tables and worked examples of the spec -/

/-- "123456789" (R425). -/
def digits : Bytes := [49, 50, 51, 52, 53, 54, 55, 56, 57]
theorem test_crc_check_values : crc 0 digits = 0xE3069283 ∧ crc 1 digits = 0xCBF43926 ∧ crc 2 digits = 0x6C40DF5F0B497347 ∧
    crc 3 digits = 0x29B1 := by decide +kernel

/-- One instruction on control pair 3; the word that register 5 takes. -/
def gives5 (i : Instr) (s : State) : Option TW := match exec i s with | .next t => some ((t.coreAt cp).reg 5) | _ => none
/-- Cycle 1 of the controller at Skelde: 85.0 UNCERTAIN minus 82.5 GOOD is 2.5 UNCERTAIN. -/
theorem test_skelde_fsub : gives5 (.fsub cp 5 1 (.reg 2 0#6)) (cpu ⟨0x4055400000000000#64, 0x42#8⟩ (wF 0x4054A00000000000) zeroWord zeroWord)
    = some ⟨0x4004000000000000#64, 0x42#8⟩ := by decide +kernel
/-- Cycle 1: 2.5 UNCERTAIN times 4.0 GOOD is 10.0 UNCERTAIN. -/
theorem test_skelde_fmul : gives5 (.fmul cp 5 1 (.reg 2 0#6)) (cpu ⟨0x4004000000000000#64, 0x42#8⟩ (wF 0x4010000000000000) zeroWord zeroWord)
    = some ⟨0x4024000000000000#64, 0x42#8⟩ := by decide +kernel
/-- Cycle 3: TSET of quality SUBSTITUTED, other fields kept. -/
theorem test_skelde_tset : gives5 (.tset cp 5 1 0x82#8 0b1000#4) (cpu ⟨0x404A070A3D70A3D7#64, 0xE2#8⟩ zeroWord zeroWord zeroWord)
    = some ⟨0x404A070A3D70A3D7#64, 0xA2#8⟩ := by decide +kernel
/-- Cycle 4: a sum above 100.0 with tag 0xE2 is clamped to 100.0 with tag 0xF2. -/
theorem test_skelde_fclamp : gives5 (.fclamp cp 5 1 2 0#6) (cpu ⟨0x4061900000000000#64, 0xE2#8⟩ (wF 0) (wF 0x4059000000000000) zeroWord)
    = some ⟨0x4059000000000000#64, 0xF2#8⟩ := by decide +kernel

/-- The binding word of the turbidity point at Tarnvik, and the word of its frame. -/
theorem test_tarnvik_binding : Binding.ofWord 0x03253E1011320812 = ⟨0x812, 2, 3, 0x11, 16, 31, 2, true, false, 50⟩ := by decide
theorem test_tarnvik_word : (canGet (Binding.ofWord 0x03253E1011320812) [0#8, 0#8, 0x41#8, 0x26#8, 0x66#8, 0x66#8, 0#8, 0#8]).map
    (canDecode (Binding.ofWord 0x03253E1011320812)) = some ⟨0x4024CCCCC0000000#64, 0xC2#8⟩ := by decide +kernel

/-- CAN12 at Holmbeck runs at 1 Mbit/s; the reset timing is 500 kbit/s (R383). -/
theorem test_can_bit_time : canBitTicks 0x07071E00 = 1000 ∧ canBitTicks 0x07071E01 = 2000 := by decide
/-- Element 5 at Holmbeck: FID1 0x010, FID2 0x7F0 as a mask takes 0x01F and not 0x020. -/
theorem test_holmbeck_filter :
    let s := (((State.reset.set (Reg.fctlKind 12 5) 4).set (Reg.fid1 12 5) 0x010).set (Reg.fid2 12 5) 0x7F0)
    s.filterMatch 12 5 ⟨0x01F#29, false, false, false, false, false, 0#4, []⟩ = true ∧
    s.filterMatch 12 5 ⟨0x020#29, false, false, false, false, false, 0#4, []⟩ = false := by decide
/-- CAN5 starts at 0xF009_5000. -/
theorem test_can5_base : Reg.canBase 5 = 0xF0095000 := by decide
/-- The event ring and the data memory of R103. -/
theorem test_areas : areaOf 0x4D2 = .data ∧ areaOf 0x8200000 = .retentive ∧ areaOf 0xF0000000 = .csr ∧ areaOf 0x3000000 = .none := by decide
/-- CRR of control register 3 into g5, and CRW of g7 to control register 1, bit by bit (R62, R98); no other opcode. -/
theorem test_decode_crr : decodeTableWord 40 0b110110_000101_000000_000000000000000011 = some (.crr ⟨12, false, []⟩ 5 0 3#18) := by decide
theorem test_decode_crw : decodeTableWord 40 0b110110_000111_000000_100000000000000001 = some (.crw ⟨12, false, []⟩ 7 0 0x20001#18) := by decide
theorem test_decode_none : decodeTableWord 40 0b110111_000111_000000_100000000000000001 = none ∧ decodeTableWord 36 5 = none := by decide

/-- Front indicators (R501): SOLO on one feed, and a module after reset, in BOOT. -/
theorem test_panel :
    let s := ((State.reset.set Reg.modeCur mSolo).set Reg.feedA 1)
    s.modeLight = .steady .green ∧ s.faultLight = .flashing .red 1 ∧ s.pairLight = .off ∧ s.roleOut = true ∧
    State.reset.modeLight = .steady .amber ∧ State.reset.roleOut = false ∧ State.reset.contactsQuiet = true := by decide

end Sys2Proof.Tests
end

section
/-! SUPPORT. The fields of a composed tag, and the tag of a result as the statements speak of it (R55, R58). -/

namespace Sys2Proof

open Machine

/-! Fields of a word (R55) -/

theorem tagQ_lt (t : BitVec 8) : tagQ t < 4 := Nat.div_lt_of_lt_mul t.isLt

theorem tagT_lt (t : BitVec 8) : tagT t < 16 := Nat.mod_lt _ (by decide)

theorem TW.q_lt (w : TW) : w.q < 4 := tagQ_lt w.tag

theorem TW.ty_lt (w : TW) : w.ty < 16 := tagT_lt w.tag

theorem mkTag_toNat (q : Nat) (f l : Bool) (ty : Nat) :
    (mkTag q f l ty).toNat = q % 4 * 64 + f.toNat * 32 + l.toNat * 16 + ty % 16 := by
  cases f <;> cases l <;> simp [mkTag] <;> omega

@[simp] theorem TW.q_mkTag (v : Word) (q : Nat) (f l : Bool) (ty : Nat) : TW.q ⟨v, mkTag q f l ty⟩ = q % 4 := by
  have hf := f.toNat_lt
  have hl := l.toNat_lt
  rw [TW.q, tagQ, mkTag_toNat]
  omega

@[simp] theorem TW.ty_mkTag (v : Word) (q : Nat) (f l : Bool) (ty : Nat) : TW.ty ⟨v, mkTag q f l ty⟩ = ty % 16 := by
  rw [TW.ty, tagT, mkTag_toNat]
  omega

@[simp] theorem TW.forced_mkTag (v : Word) (q : Nat) (f l : Bool) (ty : Nat) : TW.forced ⟨v, mkTag q f l ty⟩ = f := by
  have hl := l.toNat_lt
  rw [TW.forced, tagF, BitVec.getLsbD, Nat.testBit_eq_decide_div_mod_eq, mkTag_toNat]
  cases f <;> simp <;> omega

@[simp] theorem TW.limit_mkTag (v : Word) (q : Nat) (f l : Bool) (ty : Nat) : TW.limit ⟨v, mkTag q f l ty⟩ = l := by
  rw [TW.limit, tagL, BitVec.getLsbD, Nat.testBit_eq_decide_div_mod_eq, mkTag_toNat]
  cases l <;> simp <;> omega

/-- A word with a defined type code is not reserved (R68). -/
theorem TW.reserved_eq_false {w : TW} (h : w.ty < 8) : w.reserved = false := decide_eq_false (Nat.not_le.mpr h)

end Sys2Proof

namespace Sys2Proof.Machine

/-! What the operands contribute (R58) -/

theorem contrib_q_le_good (ws : List TW) : (contrib ws).q ≤ 3 := by
  cases ws with
  | nil => exact Nat.le_refl 3
  | cons x ws => exact Nat.le_trans (Nat.min_le_left ..) (Nat.le_of_lt_succ x.q_lt)

theorem contrib_q_le_of_mem {ws : List TW} {x : TW} (h : x ∈ ws) : (contrib ws).q ≤ x.q := by
  induction ws with
  | nil => cases h
  | cons y ws ih =>
    cases h with
    | head => exact Nat.min_le_left ..
    | tail _ h => exact Nat.le_trans (Nat.min_le_right ..) (ih h)

/-- The lowest quality is GOOD or that of an operand. -/
theorem contrib_q_attained (ws : List TW) : (contrib ws).q = 3 ∨ ∃ x ∈ ws, (contrib ws).q = x.q := by
  induction ws with
  | nil => exact .inl rfl
  | cons y ws ih =>
    have hq : (contrib (y :: ws)).q = min y.q (contrib ws).q := rfl
    obtain h | h := Nat.le_total y.q (contrib ws).q
    · exact .inr ⟨y, List.mem_cons_self, hq.trans (Nat.min_eq_left h)⟩
    · rw [hq, Nat.min_eq_right h]
      exact ih.imp id fun ⟨x, hx, e⟩ => ⟨x, List.mem_cons_of_mem y hx, e⟩

theorem contrib_forced (ws : List TW) : (contrib ws).forced = ws.any TW.forced := by
  induction ws with
  | nil => rfl
  | cons x ws ih => rw [List.any_cons, ← ih]; rfl

theorem contrib_limit (ws : List TW) : (contrib ws).limit = ws.any TW.limit := by
  induction ws with
  | nil => rfl
  | cons x ws ih => rw [List.any_cons, ← ih]; rfl

/-- The default result tag is the one that the statements name. -/
theorem tagOf_contrib (ws : List TW) (v : Word) (lim : Bool) {ty : Nat} (h : ty < 16) :
    TagOf ws ty 3 lim ⟨v, (contrib ws).tag lim ty⟩ := by
  have hq : TW.q ⟨v, (contrib ws).tag lim ty⟩ = (contrib ws).q := by
    rw [Contrib.tag, TW.q_mkTag]
    exact Nat.mod_eq_of_lt (Nat.lt_succ_of_le (contrib_q_le_good ws))
  rw [TagOf, hq]
  refine ⟨?_, contrib_q_le_good ws, fun _ => contrib_q_le_of_mem, contrib_q_attained ws, ?_, ?_⟩
  · simp [Contrib.tag, Nat.mod_eq_of_lt h]
  · simp [Contrib.tag, contrib_forced]
  · simp [Contrib.tag, contrib_limit]

end Sys2Proof.Machine
end

section
/-! SUPPORT. Integer results and PAIR32 lanes: wrapped, or the nearest value of the range with Limit (R66, R75). -/

namespace Sys2Proof.Machine

theorem saturate_fst {lo hi : Int} (h : lo ≤ hi) (v : Int) : (saturate lo hi v).1 = max lo (min v hi) := by
  grind [saturate]

theorem saturate_snd (lo hi v : Int) : (saturate lo hi v).2 = (decide (v < lo) || decide (hi < v)) := by
  grind [saturate]

/-- Every value in the range of its type stands in 64 bits as itself. -/
theorem intOf_ofInt {ty : Nat} {v : Int} (lo : lowest ty ≤ v) (hi : v ≤ highest ty) : intOf ty (BitVec.ofInt 64 v) = v := by
  unfold lowest at lo
  unfold highest at hi
  unfold intOf
  by_cases h : ty = tyUint
  · rw [if_pos h] at lo hi ⊢
    rw [BitVec.toNat_ofInt]
    omega
  · rw [if_neg h] at lo hi ⊢
    rw [BitVec.toInt_ofInt]
    exact Int.bmod_eq_of_le (by omega) (by omega)

theorem lowest_le_highest (ty : Nat) : lowest ty ≤ highest ty := by
  unfold lowest highest
  split <;> decide

theorem narrow_saturates (ty : Nat) (v : Int) :
    narrow ty false v = (BitVec.ofInt 64 (saturate (lowest ty) (highest ty) v).1, (saturate (lowest ty) (highest ty) v).2) := by
  unfold narrow lowest highest
  rw [if_neg Bool.false_ne_true]
  split <;> rfl

/-- An integer result as the statements name it. -/
theorem intIs_narrow {ty : Nat} (h : ty < 16) (wrap : Bool) (ws : List TW) (v : Int) :
    IntIs ty wrap ws v ⟨(narrow ty wrap v).1, (contrib ws).tag (narrow ty wrap v).2 ty⟩ := by
  cases wrap with
  | true => exact ⟨rfl, tagOf_contrib ws _ false h⟩
  | false =>
    have hb := lowest_le_highest ty
    rw [narrow_saturates, saturate_fst hb, saturate_snd]
    exact ⟨intOf_ofInt (by omega) (by omega), tagOf_contrib ws _ _ h⟩

/-! Lanes -/

theorem laneIs_narrow32 (wrap : Bool) (v : Int) : LaneIs wrap v (narrow32 wrap v).1 := by
  cases wrap with
  | true => rfl
  | false =>
    show (BitVec.ofInt 32 (saturate (-(2 ^ 31)) (2 ^ 31 - 1) v).1).toInt = _
    rw [saturate_fst (by decide), BitVec.toInt_ofInt]
    exact Int.bmod_eq_of_le (by omega) (by omega)

theorem narrow32_snd (wrap : Bool) (v : Int) : (narrow32 wrap v).2 = laneMoves wrap v := by
  cases wrap with
  | true => rfl
  | false => exact saturate_snd ..

@[simp] theorem packLanes_hi (hi lo : BitVec 32) : (packLanes hi lo).extractLsb' 32 32 = hi :=
  BitVec.extractLsb'_append_eq_left (a := hi) (b := lo)

@[simp] theorem packLanes_lo (hi lo : BitVec 32) : (packLanes hi lo).extractLsb' 0 32 = lo :=
  BitVec.extractLsb'_append_eq_right (a := hi) (b := lo)

/-- A lane as INT64 keeps its value. -/
theorem toInt_ofInt_lane (l : BitVec 32) : (BitVec.ofInt 64 l.toInt).toInt = l.toInt := by
  have hl := l.le_toInt
  have hu := l.toInt_lt
  rw [BitVec.toInt_ofInt]
  exact Int.bmod_eq_of_le (by omega) (by omega)

end Sys2Proof.Machine
end

section
/-! SUPPORT. Instructions that give a register a word: how the operand forms read their sources (R63, R68), and what
follows for the machine. -/

namespace Sys2Proof.Machine

/-! Operand forms -/

/-- Legal mod bits and defined types: a two-source instruction comes to its own rule. -/
theorem binary_reads {fp : Bool} {k : CoreSt} {rs1 : GReg} {b : Src2} (f : TW → TW → BitVec 24 → Act) (hl : b.legal fp = true)
    (hx : (k.reg rs1).ty < 8) (hy : (k.src2 b (k.reg rs1).ty).ty < 8) :
    binary fp k rs1 b f = f (k.reg rs1) (k.src2 b (k.reg rs1).ty) (tags3 (some (k.reg rs1)) (k.src2Tag b) none) := by
  simp [binary, hl, TW.reserved_eq_false hx, TW.reserved_eq_false hy]

theorem binary_reads_reg {fp : Bool} {k : CoreSt} {rs1 rs2 : GReg} {m : BitVec 6} (f : TW → TW → BitVec 24 → Act)
    (hm : modOk fp m = true) (hx : (k.reg rs1).ty < 8) (hy : (k.reg rs2).ty < 8) :
    binary fp k rs1 (.reg rs2 m) f = f (k.reg rs1) (k.reg rs2) (tags3 (some (k.reg rs1)) (some (k.reg rs2)) none) :=
  binary_reads f hm hx hy

theorem timeBinary_reads {k : CoreSt} {rs1 : GReg} {b : Src2} (f : TW → TW → BitVec 24 → Act) (hl : b.legal false = true)
    (hx : (k.reg rs1).ty < 8) (hy : (k.src2 b tyInt).ty < 8) :
    timeBinary k rs1 b f = f (k.reg rs1) (k.src2 b tyInt) (tags3 (some (k.reg rs1)) (k.src2Tag b) none) := by
  simp [timeBinary, hl, TW.reserved_eq_false hx, TW.reserved_eq_false hy]

theorem convert_reads {fp : Bool} {ty : Nat} {k : CoreSt} {rs1 : GReg} {m : BitVec 6} (f : TW → Act) (hl : modOk fp m = true)
    (ht : ty < 8) (hx : (k.reg rs1).ty = ty) : convert fp ty rs1 m k f = f (k.reg rs1) := by
  simp [convert, unary, hl, TW.reserved_eq_false (hx ▸ ht), hx]

/-! What the machine does with a result -/

variable {i : Instr} {c : CoreId} {s : State} {rd : GReg} {p : TW → Prop}

/-- An instruction that asks for a register write completes with the word that it writes. -/
theorem Gives.of_write {w : TW} (h : Ready c s) (hx : exec i s = s.runIsa c i)
    (ha : (isaOp i).act (s.coreAt c) = .write rd w) (hp : p w) : Gives i c s rd p := by
  refine ⟨w, hp, .intro (t := s.finish c i (.write rd w) zeroWord none none) ?_ ?_⟩
  · rw [hx, State.runIsa, State.runUnit_ready i _ h, ha]
    rfl
  · exact State.finish_retires i _ _ none none h fun _ => rfl

/-- An integer result (R75). -/
theorem Gives.of_intResult {ty : Nat} {wrap : Bool} {ws : List TW} {v : Int} (h : Ready c s) (hx : exec i s = s.runIsa c i)
    (ha : (isaOp i).act (s.coreAt c) = intResult rd ty wrap ws v) (ht : ty < 16) : Gives i c s rd (IntIs ty wrap ws v) :=
  .of_write h hx ha (intIs_narrow ht wrap ws v)

end Sys2Proof.Machine
end

section
/-! Time arithmetic, the release instant and PAIR32 arithmetic (R66, R75, R80, R82). -/

namespace Sys2Proof.Machine

variable {i : Instr} {c : CoreId} {s : State} {k : CoreSt} {rd rs1 rs2 : GReg} {b : Src2} {m : BitVec 6}

/-! Time -/

theorem actTadd_span (hl : b.legal false = true) (hx : (k.reg rs1).ty = tyTime) (hy : (k.src2 b tyInt).ty = tyInt) :
    actTadd rd rs1 b k = intResult rd tyTime false [k.reg rs1, k.src2 b tyInt]
      ((k.reg rs1).val.toInt + (k.src2 b tyInt).val.toInt) := by
  rw [actTadd, timeBinary_reads _ hl (by rw [hx]; decide) (by rw [hy]; decide)]
  exact if_pos ⟨hx, hy⟩

theorem actTsub_span (hl : b.legal false = true) (hx : (k.reg rs1).ty = tyTime) (hy : (k.src2 b tyInt).ty = tyInt) :
    actTsub rd rs1 b k = intResult rd tyTime false [k.reg rs1, k.src2 b tyInt]
      ((k.reg rs1).val.toInt - (k.src2 b tyInt).val.toInt) := by
  rw [actTsub, timeBinary_reads _ hl (by rw [hx]; decide) (by rw [hy]; decide)]
  exact if_pos ⟨hx, hy⟩

/-- The distance of two instants is an INT64. -/
theorem actTsub_instants (hl : b.legal false = true) (hx : (k.reg rs1).ty = tyTime) (hy : (k.src2 b tyInt).ty = tyTime) :
    actTsub rd rs1 b k = intResult rd tyInt false [k.reg rs1, k.src2 b tyInt]
      ((k.reg rs1).val.toInt - (k.src2 b tyInt).val.toInt) := by
  rw [actTsub, timeBinary_reads _ hl (by rw [hx]; decide) (by rw [hy]; decide)]
  exact (if_neg fun h => absurd (hy.symm.trans h.2) (by decide)).trans (if_pos ⟨hx, hy⟩)

/-- On a core where a task runs, TREL gives that task's release word, as a sampled input (R204). -/
theorem Gives.trel {n : Nat} (h : Ready c s) (hn : s.runningAt (coreKey c.unit (s.lead c)) = some n) :
    Gives (.trel c rd) c s rd (· = (s.task n).relWord) true := by
  have hw : s.trelWord c = (s.task n).relWord := by rw [State.trelWord, hn]
  refine ⟨s.trelWord c, hw, .intro (t := s.finish c (.trel c rd) (.release rd) (s.trelWord c) (some (smpRelease, s.trelWord c)) none) ?_ ?_⟩
  · show Host.Outcome.next (s.runUnit c (.trel c rd) 0#80) = _
    rw [State.runUnit_ready _ _ h]
    rfl
  · exact State.finish_retires _ _ _ _ none h fun _ => rfl

/-! Lanes -/

theorem laneIs_pack_hi (wrap : Bool) (v : Int) (lo : BitVec 32) :
    LaneIs wrap v ((packLanes (narrow32 wrap v).1 lo).extractLsb' 32 32) := by
  rw [packLanes_hi]
  exact laneIs_narrow32 wrap v

theorem laneIs_pack_lo (wrap : Bool) (hi : BitVec 32) (v : Int) :
    LaneIs wrap v ((packLanes hi (narrow32 wrap v).1).extractLsb' 0 32) := by
  rw [packLanes_lo]
  exact laneIs_narrow32 wrap v

/-- Limit of a PAIR32 result: either lane saturates. -/
theorem tagOf_lanes (ws : List TW) (v : Word) (wrap : Bool) (x y : Int) :
    TagOf ws tyPair 3 (laneMoves wrap x || laneMoves wrap y)
      ⟨v, (contrib ws).tag ((narrow32 wrap x).2 || (narrow32 wrap y).2) tyPair⟩ := by
  rw [narrow32_snd, narrow32_snd]
  exact tagOf_contrib ws v _ (by decide)

/-- A PAIR32 result: both lanes, each wrapped or saturated, with Limit where one saturates. -/
abbrev PairIs (wrap : Bool) (ws : List TW) (hi lo : Int) (w : TW) : Prop :=
  LaneIs wrap hi (w.val.extractLsb' 32 32) ∧ LaneIs wrap lo (w.val.extractLsb' 0 32) ∧
    TagOf ws tyPair 3 (laneMoves wrap hi || laneMoves wrap lo) w

theorem pairIs_pack (wrap : Bool) (ws : List TW) (hi lo : Int) :
    PairIs wrap ws hi lo ⟨packLanes (narrow32 wrap hi).1 (narrow32 wrap lo).1,
      (contrib ws).tag ((narrow32 wrap hi).2 || (narrow32 wrap lo).2) tyPair⟩ :=
  ⟨laneIs_pack_hi .., laneIs_pack_lo .., tagOf_lanes ..⟩

theorem pairBinary_pairs (f : Int → Int → Int) (hm : modOk false m = true) (hx : (k.reg rs1).ty = tyPair)
    (hy : (k.reg rs2).ty = tyPair) :
    pairBinary f rd rs1 rs2 m k =
      let hi := narrow32 (m.getLsbD 2) (f (laneHi (k.reg rs1).val) (laneHi (k.reg rs2).val))
      let lo := narrow32 (m.getLsbD 2) (f (laneLo (k.reg rs1).val) (laneLo (k.reg rs2).val))
      .write rd ⟨packLanes hi.1 lo.1, (contrib [k.reg rs1, k.reg rs2]).tag (hi.2 || lo.2) tyPair⟩ := by
  rw [pairBinary, binary_reads_reg _ hm (by rw [hx]; decide) (by rw [hy]; decide)]
  exact if_neg fun h => h.elim (absurd hx) (absurd hy)

/-- PADD, PSUB and PMUL: one operation on each lane apart. -/
theorem Gives.of_pairBinary (f : Int → Int → Int) (h : Ready c s) (hi : exec i s = s.runIsa c i)
    (ha : (isaOp i).act = pairBinary f rd rs1 rs2 m) (hm : modOk false m = true)
    (hx : ((s.coreAt c).reg rs1).ty = tyPair) (hy : ((s.coreAt c).reg rs2).ty = tyPair) :
    Gives i c s rd (PairIs (m.getLsbD 2) [(s.coreAt c).reg rs1, (s.coreAt c).reg rs2]
      (f (laneHi ((s.coreAt c).reg rs1).val) (laneHi ((s.coreAt c).reg rs2).val))
      (f (laneLo ((s.coreAt c).reg rs1).val) (laneLo ((s.coreAt c).reg rs2).val))) :=
  .of_write h hi ((congrFun ha _).trans (pairBinary_pairs f hm hx hy)) (pairIs_pack ..)

/-- PHI and PLO: one lane as INT64. -/
theorem Gives.of_lane {v : Int} (h : Ready c s) (hi : exec i s = s.runIsa c i) (l : Word → BitVec 32)
    (ha : (isaOp i).act (s.coreAt c) = convert false tyPair rs1 m (s.coreAt c) fun x =>
      .write rd ⟨BitVec.ofInt 64 (l x.val).toInt, (contrib [x]).tag false tyInt⟩)
    (hm : modOk false m = true) (hx : ((s.coreAt c).reg rs1).ty = tyPair) (hv : (l ((s.coreAt c).reg rs1).val).toInt = v) :
    Gives i c s rd fun w => w.val.toInt = v ∧ TagOf [(s.coreAt c).reg rs1] tyInt 3 false w :=
  .of_write h hi (ha.trans (convert_reads _ hm (by decide) hx))
    ⟨(toInt_ofInt_lane _).trans hv, tagOf_contrib _ _ false (by decide)⟩

theorem actPpack_ints (hm : modOk false m = true) (hx : (k.reg rs1).ty = tyInt) (hy : (k.reg rs2).ty = tyInt) :
    actPpack rd rs1 rs2 m k =
      let p := narrow32 (m.getLsbD 2) (k.reg rs1).val.toInt
      let q := narrow32 (m.getLsbD 2) (k.reg rs2).val.toInt
      .write rd ⟨if Config.ppackRs1High then packLanes p.1 q.1 else packLanes q.1 p.1,
        (contrib [k.reg rs1, k.reg rs2]).tag (p.2 || q.2) tyPair⟩ := by
  rw [actPpack, binary_reads_reg _ hm (by rw [hx]; decide) (by rw [hy]; decide)]
  exact if_neg fun h => h.elim (absurd hx) (absurd hy)

/-- Settles O25: each instruction asks for the register write of its rule, which a ready core performs. -/
theorem timeAndPairs : Obligations.TimeAndPairs := by
  refine ⟨fun c rd rs1 b s h hl hx => ⟨fun hy => ⟨?_, ?_⟩, fun hy => ?_⟩, fun c rd n s h hn => .trel h hn,
    fun c rd rs1 rs2 m s h hm hx => ⟨fun hy => ?_, ?_, ?_⟩, fun c rd rs1 rs2 m s h hm hx hy => ?_⟩
  · exact .of_intResult h rfl (actTadd_span hl hx hy) (by decide)
  · exact .of_intResult h rfl (actTsub_span hl hx hy) (by decide)
  · exact .of_intResult h rfl (actTsub_instants hl hx hy) (by decide)
  · simp only [List.forall_mem_cons, List.not_mem_nil, false_implies, implies_true, and_true]
    exact ⟨.of_pairBinary (· + ·) h rfl rfl hm hx hy, .of_pairBinary (· - ·) h rfl rfl hm hx hy,
      .of_pairBinary (· * ·) h rfl rfl hm hx hy⟩
  · exact .of_lane h rfl (·.extractLsb' 32 32) rfl hm hx rfl
  · exact .of_lane h rfl (·.extractLsb' 0 32) rfl hm hx rfl
  · refine .of_write h rfl (actPpack_ints hm hx hy) ⟨?_, tagOf_lanes ..⟩
    dsimp only
    split
    · exact .inl ⟨laneIs_pack_hi .., laneIs_pack_lo ..⟩
    · exact .inr ⟨laneIs_pack_hi .., laneIs_pack_lo ..⟩

end Sys2Proof.Machine
end

section
/-! The tag instructions and RETYPE (R68, R70 to R73, R510). -/

namespace Sys2Proof.Machine

variable {k : CoreSt} {rd rs1 rs2 : GReg}

/-! What each asks of the machine -/

theorem actTset_defined {tag8 : BitVec 8} {mask : BitVec 4} (ht : tagT tag8 < 8) (hx : (k.reg rs1).ty < 8 ∨ mask.getLsbD 0 = true) :
    actTset rd rs1 tag8 mask k = .write rd ⟨(k.reg rs1).val,
      mkTag (if mask.getLsbD 3 then tagQ tag8 else (k.reg rs1).q) ((k.reg rs1).forced || (mask.getLsbD 2 && tagF tag8))
        (if mask.getLsbD 1 then tagL tag8 else (k.reg rs1).limit) (if mask.getLsbD 0 then tagT tag8 else (k.reg rs1).ty)⟩ := by
  have hr : ((k.reg rs1).reserved && !mask.getLsbD 0) = false := by
    obtain h | h := hx
    · rw [TW.reserved_eq_false h, Bool.false_and]
    · rw [h, Bool.not_true, Bool.and_false]
  simp only [actTset, if_neg (Nat.not_le.mpr ht), hr, Bool.false_eq_true, if_false]

theorem actTcpy_defined {m : BitVec 6} (hm : modOk false m = true) (hx : (k.reg rs1).ty < 8) (hy : (k.reg rs2).ty < 8) :
    actTcpy rd rs1 rs2 m k = .write rd ⟨(k.reg rs1).val,
      mkTag (k.reg rs2).q ((k.reg rs1).forced || (k.reg rs2).forced) (k.reg rs2).limit (k.reg rs1).ty⟩ :=
  binary_reads_reg _ hm hx hy

/-- A mod field below 4 is a floor alone: bits [5:2] are 0 (R73). -/
theorem actQmin_defined {m : BitVec 6} (hm : m.toNat < 4) (hx : (k.reg rs1).ty < 8) (hy : (k.reg rs2).ty < 8) :
    actQmin rd rs1 rs2 m k = .write rd ⟨(k.reg rs1).val,
      mkTag (qualityFloor (min (k.reg rs1).q (k.reg rs2).q) m.toNat) ((k.reg rs1).forced || (k.reg rs2).forced)
        ((k.reg rs1).limit || (k.reg rs2).limit) (k.reg rs1).ty⟩ := by
  have hi : m.extractLsb' 2 4 = 0#4 := by
    refine BitVec.eq_of_toNat_eq ?_
    rw [BitVec.extractLsb'_toNat, Nat.shiftRight_eq_div_pow, Nat.div_eq_of_lt hm]
    rfl
  have lo : (m.extractLsb' 0 2).toNat = m.toNat := by
    rw [BitVec.extractLsb'_toNat, Nat.shiftRight_zero]
    exact Nat.mod_eq_of_lt hm
  simp [actQmin, hi, lo, TW.reserved_eq_false hx, TW.reserved_eq_false hy]

theorem actRetype_defined {m rs2f : BitVec 6} (hm : modOk false m = true) (ht : rs2f.toNat < 8) :
    actRetype rd rs1 rs2f m k =
      .write rd ⟨(k.reg rs1).val, mkTag (k.reg rs1).q (k.reg rs1).forced (k.reg rs1).limit rs2f.toNat⟩ :=
  if_neg (not_or.mpr ⟨by simp [hm], Nat.not_le.mpr ht⟩)

/-! Qualities -/

/-- A floor leaves BAD as it is and lifts every other quality to itself at least (R73). -/
theorem qualityFloor_min (p q f : Nat) : qualityFloor (min p q) f = if p = 0 ∨ q = 0 then 0 else max f (min p q) := by
  unfold qualityFloor qBad
  split <;> split <;> omega

theorem qualityFloor_lt {q f : Nat} (hq : q < 4) (hf : f < 4) : qualityFloor q f < 4 := by
  unfold qualityFloor
  split <;> assumption

/-- Settles O28: each instruction asks for a register write of a composed tag, whose fields are those that it names. -/
theorem tagInstructions : Obligations.TagInstructions := by
  refine ⟨fun c rd rs1 s h => ?_, fun c rd rs1 tag8 mask s h ht hx => ?_,
    fun c rd rs1 rs2 m s h hx hy => ⟨fun hm => ?_, fun hm => ?_⟩, fun c rd rs1 rs2f m s h hm ht => ?_⟩
  · exact .of_write h rfl rfl ⟨BitVec.toNat_setWidth_of_le (by decide), by simp [qGood, tyInt]⟩
  · refine .of_write h rfl (actTset_defined ht hx) ⟨rfl, ?_, ?_, ?_, ?_⟩
    · rw [TW.q_mkTag]
      refine Nat.mod_eq_of_lt ?_
      split
      · exact tagQ_lt tag8
      · exact TW.q_lt _
    · rw [TW.forced_mkTag]; rfl
    · rw [TW.limit_mkTag]; rfl
    · rw [TW.ty_mkTag]
      refine Nat.mod_eq_of_lt ?_
      split
      · exact tagT_lt tag8
      · exact TW.ty_lt _
  · exact .of_write h rfl (actTcpy_defined hm hx hy) (by simp [Nat.mod_eq_of_lt, TW.q_lt, TW.ty_lt])
  · refine .of_write h rfl (actQmin_defined hm hx hy) ⟨rfl, ?_, TW.limit_mkTag .., TW.forced_mkTag .., ?_⟩
    · rw [TW.ty_mkTag, Nat.mod_eq_of_lt (TW.ty_lt _)]
    · rw [TW.q_mkTag, ← qualityFloor_min]
      exact Nat.mod_eq_of_lt (qualityFloor_lt (Nat.lt_of_le_of_lt (Nat.min_le_left ..) (TW.q_lt _)) hm)
  · exact .of_write h rfl (actRetype_defined hm ht) (by simp [Nat.mod_eq_of_lt, TW.q_lt, Nat.lt_trans ht (by decide : 8 < 16)])

end Sys2Proof.Machine
end

section
/-! SUPPORT. Writes of a register of the CSR window by the supervisor pair, field by field (R9, R117, R148). -/

namespace Sys2Proof.Machine

variable (s : State)

/-! Field writes -/

/-- Whatever its access code, a field's write touches that field alone (R9). -/
theorem State.fieldWrite_keeps (w : Nat) (f : Fld) :
    KeepRegs s (s.fieldWrite w f) [f] ∧ s.fieldWrite w f = { s with csr := (s.fieldWrite w f).csr } := by
  have kept : KeepRegs s s [f] ∧ s = { s with csr := s.csr } := ⟨.refl s _, rfl⟩
  have written (v : Nat) : KeepRegs s (s.set f v) [f] ∧ s.set f v = { s with csr := (s.set f v).csr } :=
    ⟨(KeepRegs.refl s _).set f v (by simp), rfl⟩
  unfold State.fieldWrite
  cases f.acc with
  | ro => exact kept
  | rw | w1c | w1s | wo => exact written _
  | rwl =>
    dsimp only
    split
    · exact kept
    · exact written _

theorem State.get_fieldWrite_rw (w : Nat) {f : Fld} (h : f.acc = .rw) :
    (s.fieldWrite w f).get f = w / 2 ^ f.lsb % 2 ^ f.width := by
  simp [State.fieldWrite, h]

theorem State.each_fieldWrite_keeps (w : Nat) (l : List Fld) :
    let t := s.each l fun f t => t.fieldWrite w f
    KeepRegs s t l ∧ t = { s with csr := t.csr } := by
  refine State.each_induct (P := fun t => KeepRegs s t l ∧ t = { s with csr := t.csr }) ⟨.refl s l, rfl⟩ ?_
  rintro f hf t ⟨hk, hc⟩
  obtain ⟨hk', hc'⟩ := t.fieldWrite_keeps w f
  refine ⟨hk.trans (hk'.mono (by simpa using ⟨f, hf, rfl⟩)), ?_⟩
  rw [hc', hc]

/-- Of fields at bits of their own, each read-write one takes its bits of the word, whatever is written after it. -/
theorem State.get_each_fieldWrite_rw (w : Nat) {l : List Fld} {f : Fld} (hn : (l.map Fld.key).Nodup) (hf : f ∈ l)
    (hr : f.acc = .rw) : (s.each l fun f t => t.fieldWrite w f).get f = w / 2 ^ f.lsb % 2 ^ f.width := by
  induction l generalizing s with
  | nil => cases hf
  | cons g l ih =>
    obtain ⟨hg, hl⟩ := List.nodup_cons.mp hn
    cases hf with
    | head => exact (((s.fieldWrite w f).each_fieldWrite_keeps w l).1 f hg).trans (s.get_fieldWrite_rw w hr)
    | tail _ hf => exact ih _ hl hf

theorem State.get_incSat (f : Fld) : (s.incSat f).get f = min (s.get f + 1) (2 ^ f.width - 1) := by
  have h : 0 < 2 ^ f.width := Nat.two_pow_pos _
  rw [State.incSat, State.addSat, State.get_set_self]
  exact Nat.mod_eq_of_lt (by omega)

/-! The register groups of the tasks -/

variable {n o : Nat}

theorem drvGroup_block (hn : n < 24) (ho : o < 16) : Reg.drvGroup n o / 0x10000 - 0xF000 = 2 := by
  unfold Reg.drvGroup
  omega

theorem drvGroup_offset (hn : n < 24) (ho : o < 16) : Reg.drvGroup n o % 0x10000 = 0x100 + n * 16 + o := by
  unfold Reg.drvGroup
  omega

theorem areaOf_drvGroup (hn : n < 24) (ho : o < 16) : areaOf (Reg.drvGroup n o) = .csr := by
  have lo : 0xF0000000 ≤ Reg.drvGroup n o := by unfold Reg.drvGroup; omega
  have hi : Reg.drvGroup n o < 0xF0120000 := by unfold Reg.drvGroup; omega
  unfold areaOf
  iterate 10 rw [if_neg (by omega)]
  exact if_pos hi

theorem fieldsAt_drvGroup (hn : n < 24) (ho : o < 16) : fieldsAt (Reg.drvGroup n o) = drvFields n o := by
  have hg : (0x100 + n * 16 + o - 0x100) / 16 = n := by omega
  have hr : (0x100 + n * 16 + o) % 16 = o := by omega
  unfold fieldsAt
  simp only [drvGroup_block hn ho, drvGroup_offset hn ho]
  rw [if_pos (by omega), hg, hr]

/-- The fields of a list stand at one word address, no two of them at the same lowest bit. -/
def PlacedAt (a : Nat) (l : List Fld) : Prop := ∃ bits : List Nat, bits.Nodup ∧ l.map Fld.key = bits.map (a * 32 + ·)

theorem PlacedAt.single {a : Nat} {f : Fld} (ha : f.addr = a) (hl : f.lsb = 0) : PlacedAt a [f] :=
  ⟨[0], by decide, by simp only [List.map_cons, List.map_nil, Fld.key, ha, hl]⟩

theorem PlacedAt.nodup {a : Nat} {l : List Fld} (h : PlacedAt a l) : (l.map Fld.key).Nodup := by
  obtain ⟨bits, hb, e⟩ := h
  rw [e]
  exact List.Pairwise.map _ (fun _ _ hne he => hne (Nat.add_left_cancel he)) hb

theorem PlacedAt.key_notMem {a : Nat} {l : List Fld} {f : Fld} (h : PlacedAt a l) (hf : f.key < a * 32) :
    f.key ∉ l.map Fld.key := by
  obtain ⟨bits, -, e⟩ := h
  rw [e, List.mem_map]
  rintro ⟨b, -, hb⟩
  omega

theorem drvFields_placedAt (n : Nat) (ho : o < 16) : PlacedAt (Reg.drvGroup n o) (drvFields n o) := by
  unfold drvFields
  split
  · exact ⟨[0, 4, 8, 9, 16], by decide, rfl⟩
  · split
    · exact .single rfl rfl
    · exact ⟨[0, 4, 8], by decide, rfl⟩
  · split <;> exact .single rfl rfl
  · split
    · exact .single rfl rfl
    · exact ⟨[], List.nodup_nil, rfl⟩
  iterate 6 exact .single rfl rfl
  · exact ⟨[0, 8, 16, 20, 24], by decide, rfl⟩
  iterate 4 exact .single rfl rfl
  · obtain rfl : o = 15 := by grind
    exact .single rfl rfl

/-- DRV.STAT lies below the groups of the tasks. -/
theorem drvIgnw_key_lt (n o : Nat) : Reg.drvIgnw.key < Reg.drvGroup n o * 32 := by
  simp only [Reg.drvIgnw, Fld.key, Reg.drvGroup]
  omega

/-! The lock of R117 -/

/-- The supervisor pair writes the register group of a task through the lock. -/
theorem State.csrWrite_drvGroup (w : Nat) (hn : n < 24) (ho : o < 16) :
    s.csrWrite 12 (Reg.drvGroup n o) w = s.taskWrite (Reg.drvGroup n o) w := by
  unfold State.csrWrite
  simp only [drvGroup_block hn ho, drvGroup_offset hn ho]
  rw [if_neg (by decide), if_neg (by decide), if_neg (by decide)]
  exact if_pos ⟨trivial, by omega, by omega⟩

theorem State.taskWrite_locked (w : Nat) (ho : o < 10) (ha : s.flag Reg.drvActive = true) (hw : s.weirOpen = false) :
    s.taskWrite (Reg.drvGroup n o) w = s.incSat Reg.drvIgnw :=
  if_pos ⟨by unfold Reg.drvGroup; omega, ha, hw⟩

theorem State.taskWrite_open (a w : Nat) (hw : s.weirOpen = true) : s.taskWrite a w = s.fieldsWrite a w :=
  if_neg fun h => absurd (hw.symm.trans h.2.2) (by decide)

variable {s}

theorem exec_csrWrite_permitted {unit : Fin 13} {a : BitVec 32} (w : BitVec 32) (hf : s.functional = true)
    (hc : areaOf a.toNat = .csr) (hm : (s.mpuCheck ⟨unit, .write, true, a.toNat, 0, false, false⟩).1 = true) :
    exec (.csrWrite unit a w) s = .next (s.csrWrite unit a.toNat w.toNat) := by
  show execCsrWrite unit a w s = _
  simp [execCsrWrite, hf, hc, hm, State.mpuCheck_ok hm]

/-- Settles O57: the supervisor pair's write runs through the lock, which counts it or, open, gives it to the fields. -/
theorem taskRegistersLocked : Obligations.TaskRegistersLocked := by
  intro n k a w s ha hf hm hact
  have ha : a.toNat = Reg.drvGroup n.val k.val := ha
  have ho : k.val < 16 := by omega
  have hx : exec (.csrWrite 12 a w) s = .next (s.taskWrite a.toNat w.toNat) := by
    rw [exec_csrWrite_permitted w hf (ha ▸ areaOf_drvGroup n.isLt ho) hm, ha, ← s.csrWrite_drvGroup _ n.isLt ho]
    rfl
  refine ⟨fun hw => .intro hx ?_, fun hw => .intro hx ?_⟩
  · rw [ha, s.taskWrite_locked _ k.isLt hact (by simpa [State.weirOpen] using hw)]
    exact ⟨s.get_incSat _, (KeepRegs.refl s _).set _ _ (by simp), rfl⟩
  · obtain ⟨hk, hc⟩ := s.each_fieldWrite_keeps w.toNat (fieldsAt a.toNat)
    have hp : PlacedAt a.toNat (fieldsAt a.toNat) := by
      rw [ha, fieldsAt_drvGroup n.isLt ho]
      exact drvFields_placedAt n.val ho
    rw [s.taskWrite_open _ _ (by simp [State.weirOpen, hw])]
    exact ⟨hk _ (hp.key_notMem (ha ▸ drvIgnw_key_lt ..)), fun f hf hr => s.get_each_fieldWrite_rw _ hp.nodup hf hr, hk, hc⟩

end Sys2Proof.Machine
end
